-- ==== Sys2Proof/Word.lean ====
section
/-! DEFINITION. The machine's words: bytes, 64-bit words, vector lines, predicates and digests. -/

namespace Sys2Proof

/-- The smallest addressable unit (R4). -/
abbrev Byte := BitVec 8

/-- The content of an x register or of a CSR (R43, R45). -/
abbrev Word := BitVec 64

/-- The content of a v register: 256 bytes, byte 0 in bits [7:0] (R43). -/
abbrev Line := BitVec 2048

/-- The content of a p register: one bit per byte position of a v register (R43). -/
abbrev Pred := BitVec 256

/-- A SHA3-256 digest, byte 0 in bits [7:0] (R58). -/
abbrev Digest := BitVec 256

/-- The value whose bytes, lowest address first, are the list's (R4). -/
def leNat : List Byte → Nat
  | [] => 0
  | b :: bs => b.toNat + 256 * leNat bs

/-- The `n` low bytes of a number, lowest address first (R4). -/
def leBytes : Nat → Nat → List Byte
  | 0, _ => []
  | n + 1, v => BitVec.ofNat 8 v :: leBytes n (v / 256)

end Sys2Proof
end

