-- ==== Sys2Proof/Syntax.lean ====
section
/-! DEFINITION. The instructions: one constructor for each row of the opcode table. Register numbers and the
fields of a word keep the width the encoding gives them (R27, R34, R37-R41); a branch, jump or compressed offset
is held without its low zero bit. The steps of the machine's other agents, which have no encoding, are
constructors too, with what arrives from outside as their operands. -/

namespace Sys2Proof

/-- The operands of a control-queue entry (R341). -/
structure CtlArgs where
  ld : BitVec 8
  vf : BitVec 8
  a0 : Word
  a1 : Word
  a2 : Word
  a3 : Word
  a4 : Word
  a5 : Word
  a6 : Word
  deriving DecidableEq, Repr

/-- R351: what a host asks of the DVSEC of a logical device: to read the register at offset `read`, or to write `value` to
ACCEPT. -/
structure DvsecAccess where
  read : Option Nat
  value : BitVec 64
  deriving DecidableEq, Repr

/-- R337: a DEBUG_STOP or DEBUG_RESUME entry, and the other chip whose launch unit passes it on. -/
structure DebugEntry where
  issuer : Option Nat
  entry : CtlArgs
  deriving DecidableEq, Repr

/-- R234: a SHOOTDOWN entry, and the other chip whose launch unit asks for it with the mask of its target cores. -/
structure ShootdownEntry where
  issuer : Option (Nat × BitVec 4096)
  entry : CtlArgs
  deriving DecidableEq, Repr

/-- R129: a packet whose bytes a service reads; `part` is one granule of a relaxed packet, and the version of it that is read. -/
structure ReadService where
  ticket : BitVec 32
  part : Option (Nat × Option Nat)
  deriving DecidableEq, Repr

/-- R129: a packet whose buffer a service writes; `part` is one granule of a relaxed packet. -/
structure WriteService where
  ticket : BitVec 32
  part : Option Nat
  deriving DecidableEq, Repr

/-- R337: what has stopped for a debug stop: a core of this chip, or (`report`: the chip, the LID, its lowest milestone) the
claimed cores of another chip. -/
structure DebugStopped where
  report : Option (Nat × BitVec 32 × Option Word)
  core : Nat
  deriving DecidableEq, Repr

/-- A core of a chip of the pod. -/
structure ChipCore where
  chip : Nat
  core : Nat
  deriving DecidableEq, Repr

/-- R269: an entry that the copy engine of a bench is moving, by its place among them. -/
structure MovingEntry where
  bench : Nat
  index : Nat
  deriving DecidableEq, Repr

/-- A firmware image with its two signatures and the keys they are checked under (R368). -/
structure SignedImage where
  bytes : List Byte
  edPub : List Byte
  mlPub : List Byte
  edSig : List Byte
  mlSig : List Byte
  deriving DecidableEq, Repr

/-- R369: the device identity record: the device's public keys, its serial number and its chip model. -/
structure DeviceIdentity where
  edKey : List Byte
  mlKey : List Byte
  serial : List Byte
  model : BitVec 32
  deriving DecidableEq, Repr

/-- What a cold reset meets outside the machine: rails, memory training, images, fuses, boot flash (R367-R369,
R378). -/
structure BootInput where
  railsOk : Bool
  cables : BitVec 24
  memoryOk : Bool
  romVersion : BitVec 32
  firmware : SignedImage
  microcode : SignedImage
  portFirmware : SignedImage
  rootKeyHashes : List Byte
  identity : SignedImage
  device : DeviceIdentity
  chain : List Byte
  bootRecord : Option (List Byte)
  loaded : List (Nat × List Byte)
  bundles : List (List Byte)
  executiveKey : BitVec 256
  deriving DecidableEq, Repr

/-- R74, R346: what names a launch in the pod: the chip that issued it, and its LID there. -/
structure LaunchKey where
  issuer : Nat
  lid : BitVec 32
  deriving DecidableEq, Repr

/-- A claim on one chip, as the issuing chip's launch unit sends it (R83). -/
structure ClaimMsg where
  lid : BitVec 32
  issuer : Nat
  rank : Nat
  chips : List Nat
  lpb : List Byte
  nroute : Nat
  records : List (List Byte)
  deriving DecidableEq, Repr

/-- What a claimed chip reports of its claim (R76, R83). -/
inductive ClaimReport where
  | loaded
  | taken
  | tableFailed
  deriving DecidableEq, Repr

/-- One form offered by a fetch source: a translation object, or a portable bundle image with the member asked
for, and the length its source gives it (R93, R97, R98). -/
inductive Offer where
  | translation (object : List Byte) (len : Nat)
  | portable (image : List Byte) (member : Nat)
  deriving DecidableEq, Repr

/-- The opcode table: each row, with the rule that gives it. -/
inductive Instr where
  /-- R164 Integer vector add. -/
  | vadd (vd vs1 vs2 : BitVec 5) (pg et : BitVec 2)
  /-- R164 Integer vector subtract. -/
  | vsub (vd vs1 vs2 : BitVec 5) (pg et : BitVec 2)
  /-- R164 Integer vector multiply, low bits. -/
  | vmul (vd vs1 vs2 : BitVec 5) (pg et : BitVec 2)
  /-- R164 Integer vector multiply high, signed. -/
  | vmulh (vd vs1 vs2 : BitVec 5) (pg et : BitVec 2)
  /-- R164 Integer vector multiply high, unsigned. -/
  | vmulhn (vd vs1 vs2 : BitVec 5) (pg et : BitVec 2)
  /-- R164 Vector bitwise and. -/
  | vand (vd vs1 vs2 : BitVec 5) (pg et : BitVec 2)
  /-- R164 Vector bitwise or. -/
  | vor (vd vs1 vs2 : BitVec 5) (pg et : BitVec 2)
  /-- R164 Vector bitwise xor. -/
  | vxor (vd vs1 vs2 : BitVec 5) (pg et : BitVec 2)
  /-- R164 Vector shift left. -/
  | vshl (vd vs1 vs2 : BitVec 5) (pg et : BitVec 2)
  /-- R164 Vector shift right logical. -/
  | vshr (vd vs1 vs2 : BitVec 5) (pg et : BitVec 2)
  /-- R164 Vector shift right arithmetic. -/
  | vsra (vd vs1 vs2 : BitVec 5) (pg et : BitVec 2)
  /-- R164 Vector signed minimum. -/
  | vmin (vd vs1 vs2 : BitVec 5) (pg et : BitVec 2)
  /-- R164 Vector signed maximum. -/
  | vmax (vd vs1 vs2 : BitVec 5) (pg et : BitVec 2)
  /-- R164 Vector unsigned minimum. -/
  | vminn (vd vs1 vs2 : BitVec 5) (pg et : BitVec 2)
  /-- R164 Vector unsigned maximum. -/
  | vmaxn (vd vs1 vs2 : BitVec 5) (pg et : BitVec 2)
  /-- R164 Vector saturating add. -/
  | vadds (vd vs1 vs2 : BitVec 5) (pg et : BitVec 2)
  /-- R164 Vector add sign-extended imm5. -/
  | vaddi (vd vs1 : BitVec 5) (pg : BitVec 2) (imm : BitVec 5) (et : BitVec 2)
  /-- R164 Vector shift left by imm5. -/
  | vshli (vd vs1 : BitVec 5) (pg : BitVec 2) (imm : BitVec 5) (et : BitVec 2)
  /-- R164 Vector shift right logical by imm5. -/
  | vshri (vd vs1 : BitVec 5) (pg : BitVec 2) (imm : BitVec 5) (et : BitVec 2)
  /-- R164 Vector shift right arithmetic by imm5. -/
  | vsrai (vd vs1 : BitVec 5) (pg : BitVec 2) (imm : BitVec 5) (et : BitVec 2)
  /-- R165 Integer compare equal into a predicate. -/
  | vcmpeq (pd : BitVec 3) (vs1 vs2 : BitVec 5) (pg et : BitVec 2)
  /-- R165 Integer compare less, signed, into a predicate. -/
  | vcmplt (pd : BitVec 3) (vs1 vs2 : BitVec 5) (pg et : BitVec 2)
  /-- R165 Integer compare less or equal, signed. -/
  | vcmple (pd : BitVec 3) (vs1 vs2 : BitVec 5) (pg et : BitVec 2)
  /-- R165 Integer compare less, unsigned. -/
  | vcmpltn (pd : BitVec 3) (vs1 vs2 : BitVec 5) (pg et : BitVec 2)
  /-- R164 Vector population count. -/
  | vcnt (vd vs1 : BitVec 5) (pg et : BitVec 2)
  /-- R164 Vector count leading zeros. -/
  | vclz (vd vs1 : BitVec 5) (pg et : BitVec 2)
  /-- R166 Integer tree sum reduction into element 0. -/
  | vredsum (vd vs1 : BitVec 5) (pg et : BitVec 2)
  /-- R166 Integer maximum reduction. -/
  | vredmax (vd vs1 : BitVec 5) (pg et : BitVec 2)
  /-- R166 Integer minimum reduction. -/
  | vredmin (vd vs1 : BitVec 5) (pg et : BitVec 2)
  /-- R164 Selects vs1 for active and vs2 for inactive elements. -/
  | vsel (vd vs1 vs2 : BitVec 5) (pg et : BitVec 2)
  /-- R150 Integer vector move of sign-extended imm10. -/
  | vmovi (vd : BitVec 5) (pg : BitVec 2) (imm : BitVec 10) (et : BitVec 2)
  /-- R164 Integer multiply-accumulate. -/
  | vmacc (vd vs1 vs2 : BitVec 5) (pg et : BitVec 2)
  /-- R167 Floating vector add. -/
  | vfadd (vd vs1 vs2 : BitVec 5) (pg et : BitVec 2)
  /-- R167 Floating vector subtract. -/
  | vfsub (vd vs1 vs2 : BitVec 5) (pg et : BitVec 2)
  /-- R167 Floating vector multiply. -/
  | vfmul (vd vs1 vs2 : BitVec 5) (pg et : BitVec 2)
  /-- R167 Fused multiply-add into vd. -/
  | vfma (vd vs1 vs2 : BitVec 5) (pg et : BitVec 2)
  /-- R167 Fused multiply-subtract of vd. -/
  | vfms (vd vs1 vs2 : BitVec 5) (pg et : BitVec 2)
  /-- R167 Floating divide. -/
  | vfdiv (vd vs1 vs2 : BitVec 5) (pg et : BitVec 2)
  /-- R167 Floating square root. -/
  | vfsqrt (vd vs1 : BitVec 5) (pg et : BitVec 2)
  /-- R167 IEEE minimum. -/
  | vfmin (vd vs1 vs2 : BitVec 5) (pg et : BitVec 2)
  /-- R167 IEEE maximum. -/
  | vfmax (vd vs1 vs2 : BitVec 5) (pg et : BitVec 2)
  /-- R167 Floating absolute value. -/
  | vfabs (vd vs1 : BitVec 5) (pg et : BitVec 2)
  /-- R167 Floating negate. -/
  | vfneg (vd vs1 : BitVec 5) (pg et : BitVec 2)
  /-- R167 Correctly rounded 2^a. -/
  | vfexp2 (vd vs1 : BitVec 5) (pg et : BitVec 2)
  /-- R167 Correctly rounded log2. -/
  | vflog2 (vd vs1 : BitVec 5) (pg et : BitVec 2)
  /-- R167 Correctly rounded reciprocal. -/
  | vfrcp (vd vs1 : BitVec 5) (pg et : BitVec 2)
  /-- R167 Floating compare equal into a predicate. -/
  | vfcmpeq (pd : BitVec 3) (vs1 vs2 : BitVec 5) (pg et : BitVec 2)
  /-- R167 Floating compare less into a predicate. -/
  | vfcmplt (pd : BitVec 3) (vs1 vs2 : BitVec 5) (pg et : BitVec 2)
  /-- R167 Floating compare less or equal. -/
  | vfcmple (pd : BitVec 3) (vs1 vs2 : BitVec 5) (pg et : BitVec 2)
  /-- R167 Floating compare unordered. -/
  | vfcmpun (pd : BitVec 3) (vs1 vs2 : BitVec 5) (pg et : BitVec 2)
  /-- R170 Floating tree sum reduction. -/
  | vfredsum (vd vs1 : BitVec 5) (pg et : BitVec 2)
  /-- R170 Floating maximumNumber reduction. -/
  | vfredmax (vd vs1 : BitVec 5) (pg et : BitVec 2)
  /-- R170 Floating minimumNumber reduction. -/
  | vfredmin (vd vs1 : BitVec 5) (pg et : BitVec 2)
  /-- R173 Floating to floating conversion. -/
  | vfcvt (vd vs1 : BitVec 5) (pg : BitVec 2) (ty : BitVec 5) (et : BitVec 2)
  /-- R173 Floating to integer conversion with saturation. -/
  | vfcvti (vd vs1 : BitVec 5) (pg : BitVec 2) (ty : BitVec 5) (et : BitVec 2)
  /-- R173 Integer to floating conversion. -/
  | vicvtf (vd vs1 : BitVec 5) (pg : BitVec 2) (ty : BitVec 5) (et : BitVec 2)
  /-- R171 Widening pairwise multiply-accumulate. -/
  | vfwmacc (vd vs1 vs2 : BitVec 5) (pg et : BitVec 2)
  /-- R169 Writes a class mask per element. -/
  | vfclass (vd vs1 : BitVec 5) (pg et : BitVec 2)
  /-- R167 Rounds to an integral value in the same format. -/
  | vfround (vd vs1 : BitVec 5) (pg et : BitVec 2)
  /-- R167 Scales by a power of two from vs2. -/
  | vfscale (vd vs1 vs2 : BitVec 5) (pg et : BitVec 2)
  /-- R167 Correctly rounded reciprocal square root. -/
  | vfrsqrt (vd vs1 : BitVec 5) (pg et : BitVec 2)
  /-- R167 IEEE maximumNumber. -/
  | vfmaxnum (vd vs1 vs2 : BitVec 5) (pg et : BitVec 2)
  /-- R150 Floating vector move of an fimm8 value. -/
  | vmoviF (vd : BitVec 5) (pg : BitVec 2) (imm : BitVec 8) (et : BitVec 2)
  /-- R167 IEEE minimumNumber. -/
  | vfminnum (vd vs1 vs2 : BitVec 5) (pg et : BitVec 2)
  /-- R175 Broadcasts an x register into every element. -/
  | vbcast (vd rs1 : BitVec 5) (w : BitVec 2)
  /-- R175 Extracts an element into an x register. -/
  | vext (rd vs1 rs2 : BitVec 5) (w : BitVec 2)
  /-- R175 Inserts an x register into one element. -/
  | vins (vd rs1 rs2 : BitVec 5) (w : BitVec 2)
  /-- R175 Permutes elements by an index vector. -/
  | vperm (vd vs1 vs2 : BitVec 5) (w : BitVec 2)
  /-- R175 Slides elements up by n. -/
  | vslideup (vd vs1 rs2 : BitVec 5) (w : BitVec 2)
  /-- R175 Slides elements down by n. -/
  | vslidedn (vd vs1 rs2 : BitVec 5) (w : BitVec 2)
  /-- R175 Interleaves the low halves of two vectors. -/
  | vzip (vd vs1 vs2 : BitVec 5) (w : BitVec 2)
  /-- R175 Separates even and odd elements. -/
  | vunzip (vd vs1 : BitVec 5) (w : BitVec 2)
  /-- R175 Reverses element order. -/
  | vrev (vd vs1 : BitVec 5) (w : BitVec 2)
  /-- R175 Packs predicate-selected elements to the front. -/
  | vcompress (vd vs1 : BitVec 5) (ps2 : BitVec 3) (w : BitVec 2)
  /-- R175 Predicate bitwise and. -/
  | pand (pd ps1 ps2 : BitVec 3)
  /-- R175 Predicate bitwise or. -/
  | por (pd ps1 ps2 : BitVec 3)
  /-- R175 Predicate bitwise xor. -/
  | pxor (pd ps1 ps2 : BitVec 3)
  /-- R175 Predicate bitwise not. -/
  | pnot (pd ps1 : BitVec 3)
  /-- R175 Sets predicate bits where X[rs1] + i < X[rs2]. -/
  | pwhile (pd : BitVec 3) (rs1 rs2 : BitVec 5) (w : BitVec 2)
  /-- R175 Counts set predicate elements into an x register. -/
  | pcount (rd : BitVec 5) (ps1 : BitVec 3) (w : BitVec 2)
  /-- R175 Finds the first set predicate element. -/
  | pfirst (rd : BitVec 5) (ps1 : BitVec 3) (w : BitVec 2)
  /-- R176 Adds entries popped from a queue register into vd, tracking progress in rqprog. -/
  | vqred (vd : BitVec 5) (qs1 : BitVec 3) (rs2 : BitVec 5) (w : BitVec 2)
  /-- R175 Copies a vector register. -/
  | vmv (vd vs1 : BitVec 5) (w : BitVec 2)
  /-- R195 Claims sub-arrays and fusion mode for the core. -/
  | mcfg (rd rs1 : BitVec 5) (la : BitVec 4)
  /-- R196 Accumulates A times B into an accumulator in the fixed tree order. -/
  | mma (kd : BitVec 3) (rs1 rs2 : BitVec 5) (la : BitVec 4)
  /-- R197 Accumulates A times N-of-24 sparse B. -/
  | mmas (kd : BitVec 3) (rs1 rs2 : BitVec 5) (la : BitVec 4)
  /-- R198 Zeroes every cell of an accumulator. -/
  | mzero (kd : BitVec 3) (la : BitVec 4)
  /-- R200 Stores an accumulator region to memory with conversion. -/
  | mst (kd : BitVec 3) (rs1 rs2 : BitVec 5) (la : BitVec 4)
  /-- R199 Loads memory into an accumulator with conversion. -/
  | mld (kd : BitVec 3) (rs1 rs2 : BitVec 5) (la : BitVec 4)
  /-- R201 Reads a 64-cell row segment of an accumulator into a vector. -/
  | mrd (vd : BitVec 5) (ks1 : BitVec 3) (rs2 : BitVec 5) (la : BitVec 4)
  /-- R203 Runs the microprogrammed recurrence over A and B. -/
  | mrec (kd : BitVec 3) (rs1 rs2 : BitVec 5) (la : BitVec 4)
  /-- R202 Loads the core's microprogram register. -/
  | mprog (rd rs1 : BitVec 5)
  /-- R201 Writes a vector into a row segment of an accumulator. -/
  | mwr (kd : BitVec 3) (vs1 rs2 : BitVec 5)
  /-- R206 Initialises a sub-array's best values, gains and mode. -/
  | cvinit (sa : BitVec 2) (rs1 rs2 : BitVec 5)
  /-- R208 Adds each candidate's weighted gain for a block. -/
  | cvprobe (kd : BitVec 3) (vs1 rs2 : BitVec 5)
  /-- R211 Raises a block's best values by a chosen candidate's column. -/
  | cvcommit (kd : BitVec 3) (rs1 rs2 : BitVec 5)
  /-- R209 Writes the 64 gains into a vector. -/
  | cvgain (vd : BitVec 5) (sa : BitVec 2)
  /-- R207 Clears every gain. -/
  | cvclr (sa : BitVec 2)
  /-- R210 Selects the best eligible candidate under the tie-break mode. -/
  | cvsel (rd : BitVec 5) (sa : BitVec 2) (vs2 : BitVec 5)
  /-- R212 Stores the coverage state image. -/
  | cvsave (sa : BitVec 2) (rs1 : BitVec 5)
  /-- R212 Loads the coverage state image. -/
  | cvrest (sa : BitVec 2) (rs1 : BitVec 5)
  /-- R247 Submits a copy chain to the bench engine and returns its ticket. -/
  | erun (rd rs1 rs2 : BitVec 5)
  /-- R251 Waits for a chain to end and returns its status. -/
  | ewait (rd rs1 : BitVec 5)
  /-- R251 Returns a chain's status at once. -/
  | estat (rd rs1 : BitVec 5)
  /-- R254 Pushes a scalar to a bound core FIFO. -/
  | qpush (qd : BitVec 3) (rs1 : BitVec 5)
  /-- R254 Pops the oldest queue entry into an x register. -/
  | qpop (rd : BitVec 5) (qs1 : BitVec 3)
  /-- R254 Pushes a vector to a bound core FIFO. -/
  | qpushv (qd : BitVec 3) (rs1 : BitVec 5)
  /-- R254 Pops the oldest queue entry into a vector. -/
  | qpopv (rd : BitVec 5) (qs1 : BitVec 3)
  /-- R254 Reads a queue's occupancy, kind and overflow bit. -/
  | qstat (rd : BitVec 5) (qs1 : BitVec 3)
  /-- R252 Binds a queue register to a FIFO, receive queue or completion stream. -/
  | qbind (qd : BitVec 3) (rs1 : BitVec 5)
  /-- R236 Loads one aligned 256-byte line. -/
  | vld (vd rs1 rs2 : BitVec 5) (la : BitVec 4) (w : BitVec 2)
  /-- R236 Stores one aligned 256-byte line. -/
  | vst (vd rs1 rs2 : BitVec 5) (la : BitVec 4) (w : BitVec 2)
  /-- R237 Gathers elements by an index vector. -/
  | vldx (vd rs1 rs2 : BitVec 5) (la : BitVec 4) (w : BitVec 2)
  /-- R237 Scatters elements by an index vector. -/
  | vstx (vd rs1 rs2 : BitVec 5) (la : BitVec 4) (w : BitVec 2)
  /-- R218 Loads a line from the core's lane-private slice. -/
  | vldl (vd rs1 rs2 : BitVec 5) (la : BitVec 4) (w : BitVec 2)
  /-- R218 Stores a line to the core's lane-private slice. -/
  | vstl (vd rs1 rs2 : BitVec 5) (la : BitVec 4) (w : BitVec 2)
  /-- R224 Loads a line through the constant cache. -/
  | vldk (vd rs1 rs2 : BitVec 5) (la : BitVec 4) (w : BitVec 2)
  /-- R222 Tagged line load that waits for in-flight copies and checks the tile tag. -/
  | vldt (vd rs1 rs2 : BitVec 5) (la : BitVec 4) (w : BitVec 2)
  /-- R239 Loads a doubleword through the constant cache. -/
  | ldk (rd rs1 rs2 : BitVec 5) (la : BitVec 4)
  /-- R239 Tagged doubleword load from a tile. -/
  | ldt (rd rs1 rs2 : BitVec 5) (la : BitVec 4)
  /-- R308 Sends a remote load whose reply lands in a receive queue. -/
  | rld (qd : BitVec 4) (rs1 rs2 : BitVec 5) (la : BitVec 4)
  /-- R309 Posts a remote store into the combining buffer. -/
  | rst (rd rs1 rs2 : BitVec 5) (la : BitVec 4)
  /-- R321 Posts a group store to the selected group. -/
  | gst (rd rs1 rs2 : BitVec 5) (la : BitVec 4)
  /-- R256 Sends a key-value record to a bin chosen by the key. -/
  | ksend (rd rs1 rs2 : BitVec 5) (la : BitVec 4)
  /-- R242 Atomic add on two bf16 lanes. -/
  | famoAddBf16x2 (rd rs1 rs2 : BitVec 5) (use : BitVec 2)
  /-- R242 Atomic add on two f16 lanes. -/
  | famoAddF16x2 (rd rs1 rs2 : BitVec 5) (use : BitVec 2)
  /-- R242 Atomic f32 add. -/
  | famoAddF32 (rd rs1 rs2 : BitVec 5) (use : BitVec 2)
  /-- R242 Atomic f64 add. -/
  | famoAddF64 (rd rs1 rs2 : BitVec 5) (use : BitVec 2)
  /-- R242 Atomic minimumNumber on two bf16 lanes. -/
  | famoMinBf16x2 (rd rs1 rs2 : BitVec 5) (use : BitVec 2)
  /-- R242 Atomic minimumNumber on two f16 lanes. -/
  | famoMinF16x2 (rd rs1 rs2 : BitVec 5) (use : BitVec 2)
  /-- R242 Atomic f32 minimumNumber. -/
  | famoMinF32 (rd rs1 rs2 : BitVec 5) (use : BitVec 2)
  /-- R242 Atomic f64 minimumNumber. -/
  | famoMinF64 (rd rs1 rs2 : BitVec 5) (use : BitVec 2)
  /-- R242 Atomic maximumNumber on two bf16 lanes. -/
  | famoMaxBf16x2 (rd rs1 rs2 : BitVec 5) (use : BitVec 2)
  /-- R242 Atomic maximumNumber on two f16 lanes. -/
  | famoMaxF16x2 (rd rs1 rs2 : BitVec 5) (use : BitVec 2)
  /-- R242 Atomic f32 maximumNumber. -/
  | famoMaxF32 (rd rs1 rs2 : BitVec 5) (use : BitVec 2)
  /-- R242 Atomic f64 maximumNumber. -/
  | famoMaxF64 (rd rs1 rs2 : BitVec 5) (use : BitVec 2)
  /-- R243 16-byte compare and swap on register pairs. -/
  | cas128 (rd : BitVec 4) (rs1 : BitVec 5) (rs2 : BitVec 4) (use : BitVec 2)
  /-- R241 Atomic 64-bit integer add. -/
  | iaddD (rd rs1 rs2 : BitVec 5) (use : BitVec 2)
  /-- R241 Atomic 32-bit integer add. -/
  | iaddW (rd rs1 rs2 : BitVec 5) (use : BitVec 2)
  /-- R241 Atomic 64-bit or. -/
  | iorD (rd rs1 rs2 : BitVec 5) (use : BitVec 2)
  /-- R241 Atomic 64-bit and. -/
  | iandD (rd rs1 rs2 : BitVec 5) (use : BitVec 2)
  /-- R287 Scoped fence raising earlier stores to the scope's reach after the waits of R266. -/
  | fenceS (scope : BitVec 5)
  /-- R287 Acquire load of a doubleword at a scope. -/
  | sldAcq (rd rs1 scope : BitVec 5)
  /-- R287 Release store of a doubleword at a scope. -/
  | sstRel (rs1 rs2 scope : BitVec 5)
  /-- R279 Arrives at a domain level's barrier channel for the running slot. -/
  | barr (sel : BitVec 5)
  /-- R279 Waits for release of the slot's barrier arrival, switching slots as needed. -/
  | bwait (sel : BitVec 5)
  /-- R289 Reads or writes a channel's membership or log word. -/
  | bmask (rd rs1 rs2 : BitVec 5)
  /-- R288 Reads the tick after earlier loads perform. -/
  | tickrd (rd : BitVec 5)
  /-- R288 Waits until the tick reaches a target. -/
  | tickw (rd rs1 : BitVec 5)
  /-- R281 barr then bwait, advancing the milestone on release. -/
  | sstep (sel : BitVec 5)
  /-- R284 Fences at chip scope and arrives at a count object with a generation. -/
  | abarr (rd rs1 rs2 : BitVec 5)
  /-- R286 Waits for a count object to complete or change generation, then acquires at system scope. -/
  | abwait (rd rs1 : BitVec 5)
  /-- R285 Re-initialises a count object with a new generation and count. -/
  | abinit (rd rs1 rs2 : BitVec 5)
  /-- R322 Opens the lowest free group table entry and returns its group number. -/
  | gopen (rd : BitVec 5)
  /-- R322 Selects an owned open group for gst. -/
  | gsel (rd rs1 : BitVec 5)
  /-- R322 Starts the commit of an owned group with a count object. -/
  | gcommit (rd rs1 rs2 : BitVec 5)
  /-- R322 Aborts an owned group with reason USER. -/
  | gabort (rd rs1 : BitVec 5)
  /-- R322 Reads a group's state word, GB or free-entry counts by selector. -/
  | gstat (rd rs1 rs2 : BitVec 5)
  /-- R240 Sets a tile's sequence tag and returns its old state. -/
  | tset (rd rs1 rs2 : BitVec 5)
  /-- R240 Sets a tile's layout mode and returns its old state. -/
  | tmode (rd rs1 rs2 : BitVec 5)
  /-- R255 Reads or sets key-route state by selector. -/
  | kbin (rd rs1 rs2 : BitVec 5)
  /-- R257 Reads, waits on or releases entries of the core's posted-store journal. -/
  | jrnl (rd rs1 rs2 : BitVec 5)
  /-- R115 Calls the function of an import slot, writing a return handle to ra; a miss parks and starts a fetch. -/
  | calld (imm : BitVec 12)
  /-- R115 Tail-calls the function of an import slot. -/
  | tcalld (imm : BitVec 12)
  /-- R116 Calls through a handle in a register. -/
  | callh (rs1 : BitVec 5)
  /-- R116 Tail-calls through a handle in a register. -/
  | tcallh (rs1 : BitVec 5)
  /-- R118 Returns through a return handle, or ends the program on the exit handle. -/
  | reth (rs1 : BitVec 5)
  /-- R121 Starts the lowest FREE helper in a function, or returns 0. -/
  | start (rd rs1 rs2 : BitVec 5)
  /-- R124 Moves the issuing helper to ENDING. -/
  | hend
  /-- R122 Waits for a helper to be FREE. -/
  | hjoin (rd rs1 : BitVec 5)
  /-- R123 Reads the busy mask of the core's helpers. -/
  | hpoll (rd : BitVec 5)
  /-- R109 Sets a one-shot format, scale and sparsity prefix for the strand's next instruction. -/
  | pfx (fmt1 fmt2 n : BitVec 5) (smode : BitVec 2) (sreg : BitVec 5)
  /-- R126 Submits a launch parameter block to the launch unit and writes the result word. -/
  | launch (rd rs1 : BitVec 5)
  /-- R127 Reads the state and status of a launch by LID. -/
  | lpoll (rd rs1 : BitVec 5)
  /-- R128 Posts a 64-byte system-call packet and returns its ticket. -/
  | sysc (rd rs1 : BitVec 5) (dep : BitVec 1)
  /-- R130 Waits for a system-call ticket and returns its status. -/
  | sysw (rd rs1 : BitVec 5)
  /-- R131 Posts a 32-byte record to a device-to-host notification queue after a system fence. -/
  | nfy (rd rs1 rs2 : BitVec 5)
  /-- R117 Writes the handle of an import slot. -/
  | fhand (rd : BitVec 5) (imm : BitVec 12)
  /-- R132 Reads a directory entry, rejection counter, count, page-map row or lookup by selector. -/
  | cprobe (rd rs1 rs2 : BitVec 5)
  /-- R133 Pins a shelf entry, fetching it first if absent. -/
  | cpin (rd rs1 : BitVec 5)
  /-- R133 Unpins a shelf entry. -/
  | cunpin (rd rs1 : BitVec 5)
  /-- R133 Evicts an evictable shelf entry. -/
  | cevict (rd rs1 : BitVec 5)
  /-- R134 Writes named strands' resident state to their context images. -/
  | ctxflush (rd rs1 : BitVec 5)
  /-- R135 Restores named non-live strands from their images. -/
  | ctxload (rd rs1 : BitVec 5)
  /-- R137 Switches a core's world: stops it, saves the outgoing world and loads the incoming descriptor. -/
  | wsw (rd rs1 rs2 : BitVec 5)
  /-- R138 Arms a watch and waits while a word equals an expected value. -/
  | waitev (rd rs1 rs2 : BitVec 5)
  /-- R139 Appends a trace record with a payload. -/
  | mark (rs1 : BitVec 5)
  /-- R27 Load upper immediate. -/
  | lui (rd : BitVec 5) (imm : BitVec 20)
  /-- R28 Adds a shifted immediate to the function-relative FPC. -/
  | auipc (rd : BitVec 5) (imm : BitVec 20)
  /-- R28 Jump within the form with bound check, link FPC. -/
  | jal (rd : BitVec 5) (imm : BitVec 20)
  /-- R28 Register jump within the form with bound check. -/
  | jalr (rd rs1 : BitVec 5) (imm : BitVec 12)
  /-- R28 Branch if equal. -/
  | beq (rs1 rs2 : BitVec 5) (imm : BitVec 12)
  /-- R28 Branch if not equal. -/
  | bne (rs1 rs2 : BitVec 5) (imm : BitVec 12)
  /-- R28 Branch if less, signed. -/
  | blt (rs1 rs2 : BitVec 5) (imm : BitVec 12)
  /-- R28 Branch if greater or equal, signed. -/
  | bge (rs1 rs2 : BitVec 5) (imm : BitVec 12)
  /-- R28 Branch if less, unsigned. -/
  | bltu (rs1 rs2 : BitVec 5) (imm : BitVec 12)
  /-- R28 Branch if greater or equal, unsigned. -/
  | bgeu (rs1 rs2 : BitVec 5) (imm : BitVec 12)
  /-- R32 Load signed byte. -/
  | lb (rd rs1 : BitVec 5) (imm : BitVec 12)
  /-- R32 Load signed halfword. -/
  | lh (rd rs1 : BitVec 5) (imm : BitVec 12)
  /-- R32 Load signed word. -/
  | lw (rd rs1 : BitVec 5) (imm : BitVec 12)
  /-- R32 Load doubleword. -/
  | ld (rd rs1 : BitVec 5) (imm : BitVec 12)
  /-- R32 Load unsigned byte. -/
  | lbu (rd rs1 : BitVec 5) (imm : BitVec 12)
  /-- R32 Load unsigned halfword. -/
  | lhu (rd rs1 : BitVec 5) (imm : BitVec 12)
  /-- R32 Load unsigned word. -/
  | lwu (rd rs1 : BitVec 5) (imm : BitVec 12)
  /-- R32 Store byte. -/
  | sb (rs1 rs2 : BitVec 5) (imm : BitVec 12)
  /-- R32 Store halfword. -/
  | sh (rs1 rs2 : BitVec 5) (imm : BitVec 12)
  /-- R32 Store word. -/
  | sw (rs1 rs2 : BitVec 5) (imm : BitVec 12)
  /-- R32 Store doubleword. -/
  | sd (rs1 rs2 : BitVec 5) (imm : BitVec 12)
  /-- R27 Add immediate. -/
  | addi (rd rs1 : BitVec 5) (imm : BitVec 12)
  /-- R27 Set if less than immediate, signed. -/
  | slti (rd rs1 : BitVec 5) (imm : BitVec 12)
  /-- R27 Set if less than immediate, unsigned. -/
  | sltiu (rd rs1 : BitVec 5) (imm : BitVec 12)
  /-- R27 Exclusive-or immediate. -/
  | xori (rd rs1 : BitVec 5) (imm : BitVec 12)
  /-- R27 Or immediate. -/
  | ori (rd rs1 : BitVec 5) (imm : BitVec 12)
  /-- R27 And immediate. -/
  | andi (rd rs1 : BitVec 5) (imm : BitVec 12)
  /-- R27 Shift left logical immediate. -/
  | slli (rd rs1 : BitVec 5) (shamt : BitVec 6)
  /-- R27 Shift right logical immediate. -/
  | srli (rd rs1 : BitVec 5) (shamt : BitVec 6)
  /-- R27 Shift right arithmetic immediate. -/
  | srai (rd rs1 : BitVec 5) (shamt : BitVec 6)
  /-- R27 Add immediate, 32-bit. -/
  | addiw (rd rs1 : BitVec 5) (imm : BitVec 12)
  /-- R27 Shift left immediate, 32-bit. -/
  | slliw (rd rs1 shamt : BitVec 5)
  /-- R27 Shift right logical immediate, 32-bit. -/
  | srliw (rd rs1 shamt : BitVec 5)
  /-- R27 Shift right arithmetic immediate, 32-bit. -/
  | sraiw (rd rs1 shamt : BitVec 5)
  /-- R27 Add. -/
  | add (rd rs1 rs2 : BitVec 5)
  /-- R27 Shift left logical. -/
  | sll (rd rs1 rs2 : BitVec 5)
  /-- R27 Set if less, signed. -/
  | slt (rd rs1 rs2 : BitVec 5)
  /-- R27 Set if less, unsigned. -/
  | sltu (rd rs1 rs2 : BitVec 5)
  /-- R27 Exclusive-or. -/
  | xor (rd rs1 rs2 : BitVec 5)
  /-- R27 Shift right logical. -/
  | srl (rd rs1 rs2 : BitVec 5)
  /-- R27 Or. -/
  | or (rd rs1 rs2 : BitVec 5)
  /-- R27 And. -/
  | and (rd rs1 rs2 : BitVec 5)
  /-- R27 Subtract. -/
  | sub (rd rs1 rs2 : BitVec 5)
  /-- R27 Shift right arithmetic. -/
  | sra (rd rs1 rs2 : BitVec 5)
  /-- R27 Multiply, low bits. -/
  | mul (rd rs1 rs2 : BitVec 5)
  /-- R27 Multiply high, signed. -/
  | mulh (rd rs1 rs2 : BitVec 5)
  /-- R27 Multiply high, signed by unsigned. -/
  | mulhsu (rd rs1 rs2 : BitVec 5)
  /-- R27 Multiply high, unsigned. -/
  | mulhu (rd rs1 rs2 : BitVec 5)
  /-- R27 Divide, signed. -/
  | div (rd rs1 rs2 : BitVec 5)
  /-- R27 Divide, unsigned. -/
  | divu (rd rs1 rs2 : BitVec 5)
  /-- R27 Remainder, signed. -/
  | rem (rd rs1 rs2 : BitVec 5)
  /-- R27 Remainder, unsigned. -/
  | remu (rd rs1 rs2 : BitVec 5)
  /-- R27 Add, 32-bit. -/
  | addw (rd rs1 rs2 : BitVec 5)
  /-- R27 Shift left, 32-bit. -/
  | sllw (rd rs1 rs2 : BitVec 5)
  /-- R27 Shift right logical, 32-bit. -/
  | srlw (rd rs1 rs2 : BitVec 5)
  /-- R27 Subtract, 32-bit. -/
  | subw (rd rs1 rs2 : BitVec 5)
  /-- R27 Shift right arithmetic, 32-bit. -/
  | sraw (rd rs1 rs2 : BitVec 5)
  /-- R27 Multiply, 32-bit. -/
  | mulw (rd rs1 rs2 : BitVec 5)
  /-- R27 Divide signed, 32-bit. -/
  | divw (rd rs1 rs2 : BitVec 5)
  /-- R27 Divide unsigned, 32-bit. -/
  | divuw (rd rs1 rs2 : BitVec 5)
  /-- R27 Remainder signed, 32-bit. -/
  | remw (rd rs1 rs2 : BitVec 5)
  /-- R27 Remainder unsigned, 32-bit. -/
  | remuw (rd rs1 rs2 : BitVec 5)
  /-- R29 Every fence encoding acts as fence.s at chip scope. -/
  | fence (rd rs1 : BitVec 5) (fm pred succ : BitVec 4)
  /-- R31 Load-reserved word on a 256-byte reservation set. -/
  | lrW (rd rs1 : BitVec 5) (aq rl : BitVec 1)
  /-- R31 Load-reserved doubleword. -/
  | lrD (rd rs1 : BitVec 5) (aq rl : BitVec 1)
  /-- R31 Store-conditional word. -/
  | scW (rd rs1 rs2 : BitVec 5) (aq rl : BitVec 1)
  /-- R31 Store-conditional doubleword. -/
  | scD (rd rs1 rs2 : BitVec 5) (aq rl : BitVec 1)
  /-- R31 Atomic swap word. -/
  | amoswapW (rd rs1 rs2 : BitVec 5) (aq rl : BitVec 1)
  /-- R31 Atomic swap doubleword. -/
  | amoswapD (rd rs1 rs2 : BitVec 5) (aq rl : BitVec 1)
  /-- R31 Atomic add word. -/
  | amoaddW (rd rs1 rs2 : BitVec 5) (aq rl : BitVec 1)
  /-- R31 Atomic add doubleword. -/
  | amoaddD (rd rs1 rs2 : BitVec 5) (aq rl : BitVec 1)
  /-- R31 Atomic xor word. -/
  | amoxorW (rd rs1 rs2 : BitVec 5) (aq rl : BitVec 1)
  /-- R31 Atomic xor doubleword. -/
  | amoxorD (rd rs1 rs2 : BitVec 5) (aq rl : BitVec 1)
  /-- R31 Atomic and word. -/
  | amoandW (rd rs1 rs2 : BitVec 5) (aq rl : BitVec 1)
  /-- R31 Atomic and doubleword. -/
  | amoandD (rd rs1 rs2 : BitVec 5) (aq rl : BitVec 1)
  /-- R31 Atomic or word. -/
  | amoorW (rd rs1 rs2 : BitVec 5) (aq rl : BitVec 1)
  /-- R31 Atomic or doubleword. -/
  | amoorD (rd rs1 rs2 : BitVec 5) (aq rl : BitVec 1)
  /-- R31 Atomic signed minimum word. -/
  | amominW (rd rs1 rs2 : BitVec 5) (aq rl : BitVec 1)
  /-- R31 Atomic signed minimum doubleword. -/
  | amominD (rd rs1 rs2 : BitVec 5) (aq rl : BitVec 1)
  /-- R31 Atomic signed maximum word. -/
  | amomaxW (rd rs1 rs2 : BitVec 5) (aq rl : BitVec 1)
  /-- R31 Atomic signed maximum doubleword. -/
  | amomaxD (rd rs1 rs2 : BitVec 5) (aq rl : BitVec 1)
  /-- R31 Atomic unsigned minimum word. -/
  | amominuW (rd rs1 rs2 : BitVec 5) (aq rl : BitVec 1)
  /-- R31 Atomic unsigned minimum doubleword. -/
  | amominuD (rd rs1 rs2 : BitVec 5) (aq rl : BitVec 1)
  /-- R31 Atomic unsigned maximum word. -/
  | amomaxuW (rd rs1 rs2 : BitVec 5) (aq rl : BitVec 1)
  /-- R31 Atomic unsigned maximum doubleword. -/
  | amomaxuD (rd rs1 rs2 : BitVec 5) (aq rl : BitVec 1)
  /-- R46 Atomic CSR read and write. -/
  | csrrw (rd rs1 : BitVec 5) (csr : BitVec 12)
  /-- R46 Atomic CSR read and set bits. -/
  | csrrs (rd rs1 : BitVec 5) (csr : BitVec 12)
  /-- R46 Atomic CSR read and clear bits. -/
  | csrrc (rd rs1 : BitVec 5) (csr : BitVec 12)
  /-- R46 CSR read and write immediate. -/
  | csrrwi (rd : BitVec 5) (csr : BitVec 12) (uimm : BitVec 5)
  /-- R46 CSR read and set immediate bits. -/
  | csrrsi (rd : BitVec 5) (csr : BitVec 12) (uimm : BitVec 5)
  /-- R46 CSR read and clear immediate bits. -/
  | csrrci (rd : BitVec 5) (csr : BitVec 12) (uimm : BitVec 5)
  /-- R329 Return from supervisor trap to the saved code position, restoring prefix and gp. -/
  | sret
  /-- R329 Return from machine trap. -/
  | mret
  /-- R33 Wait for interrupt. -/
  | wfi
  /-- R33 Invalidates matching core, bench and load-pipe TLB entries. -/
  | sfenceVma (rs1 rs2 : BitVec 5)
  /-- R34 Compressed form of addi from sp. -/
  | cAddi4spn (rd : BitVec 3) (imm : BitVec 8)
  /-- R34 Compressed lw. -/
  | cLw (rd rs1 : BitVec 3) (imm : BitVec 5)
  /-- R34 Compressed ld. -/
  | cLd (rd rs1 : BitVec 3) (imm : BitVec 5)
  /-- R34 Compressed sw. -/
  | cSw (rs2 rs1 : BitVec 3) (imm : BitVec 5)
  /-- R34 Compressed sd. -/
  | cSd (rs2 rs1 : BitVec 3) (imm : BitVec 5)
  /-- R34 Compressed no-operation. -/
  | cNop (imm : BitVec 6)
  /-- R34 Compressed addi. -/
  | cAddi (rd : BitVec 5) (imm : BitVec 6)
  /-- R34 Compressed addiw. -/
  | cAddiw (rd : BitVec 5) (imm : BitVec 6)
  /-- R34 Compressed load immediate. -/
  | cLi (rd : BitVec 5) (imm : BitVec 6)
  /-- R34 Compressed addi to sp. -/
  | cAddi16sp (imm : BitVec 6)
  /-- R34 Compressed lui. -/
  | cLui (rd : BitVec 5) (imm : BitVec 6)
  /-- R34 Compressed srli. -/
  | cSrli (rd : BitVec 3) (shamt : BitVec 6)
  /-- R34 Compressed srai. -/
  | cSrai (rd : BitVec 3) (shamt : BitVec 6)
  /-- R34 Compressed andi. -/
  | cAndi (rd : BitVec 3) (imm : BitVec 6)
  /-- R34 Compressed sub. -/
  | cSub (rd rs2 : BitVec 3)
  /-- R34 Compressed xor. -/
  | cXor (rd rs2 : BitVec 3)
  /-- R34 Compressed or. -/
  | cOr (rd rs2 : BitVec 3)
  /-- R34 Compressed and. -/
  | cAnd (rd rs2 : BitVec 3)
  /-- R34 Compressed subw. -/
  | cSubw (rd rs2 : BitVec 3)
  /-- R34 Compressed addw. -/
  | cAddw (rd rs2 : BitVec 3)
  /-- R34 Compressed jump. -/
  | cJ (imm : BitVec 11)
  /-- R34 Compressed branch if zero. -/
  | cBeqz (rs1 : BitVec 3) (imm : BitVec 8)
  /-- R34 Compressed branch if not zero. -/
  | cBnez (rs1 : BitVec 3) (imm : BitVec 8)
  /-- R34 Compressed slli. -/
  | cSlli (rd : BitVec 5) (shamt : BitVec 6)
  /-- R34 Compressed lw from sp. -/
  | cLwsp (rd : BitVec 5) (imm : BitVec 6)
  /-- R34 Compressed ld from sp. -/
  | cLdsp (rd : BitVec 5) (imm : BitVec 6)
  /-- R34 Compressed register jump. -/
  | cJr (rs1 : BitVec 5)
  /-- R34 Compressed move. -/
  | cMv (rd rs2 : BitVec 5)
  /-- R34 Compressed register jump and link. -/
  | cJalr (rs1 : BitVec 5)
  /-- R34 Compressed add. -/
  | cAdd (rd rs2 : BitVec 5)
  /-- R34 Compressed sw to sp. -/
  | cSwsp (rs2 : BitVec 5) (imm : BitVec 6)
  /-- R34 Compressed sd to sp. -/
  | cSdsp (rs2 : BitVec 5) (imm : BitVec 6)
  /-- R378 A cold reset runs the start stages: rails, measured firmware, HBM training, boot-record copy, port bring-up. -/
  | coldReset (b : BootInput)
  /-- R296 A chip locks its tick to the pod value, becomes LOCKED and thereafter advances the tick once per period. -/
  | tickLock (podTick : BitVec 64)
  /-- R377 Reaching the power or thermal limit lowers the core and arithmetic clocks together at the 2:1 ratio. -/
  | throttle
  /-- R377 When the limit clears, both clocks are restored. -/
  | throttleRestore
  /-- R379 An I3C write of PODCFG sets the pod extents and chip number, ignored when invalid or once LOCKED. -/
  | podcfgWrite (value : BitVec 32)
  /-- R351 A write of ACCEPT stores the written value AND OFFER; clearing ENABLE quiesces the logical device. -/
  | dvsecAcceptWrite (ld : BitVec 4) (a : DvsecAccess)
  /-- R44 A write to a register with no behaviour of its own stores its RW fields. -/
  | registerWrite (core strand : Nat) (csr : BitVec 12) (value : BitVec 64)
  /-- R346 The fabric manager binds a logical device to a host and sets its LID sequence to 1. -/
  | bindVppb (ld : BitVec 4) (hdmBase hdmSize : Nat)
  /-- R346 The fabric manager unbinds a logical device, which quiesces it as a warm restart. -/
  | unbindVppb (ld : BitVec 4)
  /-- R350 A CXL reset of a logical device quiesces it: launches discarded, queue pairs errored, windows invalidated, queues and deficit zeroed. -/
  | hostWarmRestart (ld : BitVec 4)
  /-- R346 A host CXL.mem access to the logical device's device memory, coherent at reach S. -/
  | cxlMemRequest (ld : BitVec 4) (write : Bool) (offset len : Nat) (data : List Byte)
  /-- R370 SPDM GET_VERSION answered with VERSION 1.3, resetting the endpoint's connection and transcript. -/
  | getVersion (ep : Nat) (req : List Byte)
  /-- R370 SPDM GET_CAPABILITIES answered with CAPABILITIES after VERSION, otherwise UnexpectedRequest. -/
  | getCapabilities (ep : Nat) (req : List Byte)
  /-- R370 SPDM NEGOTIATE_ALGORITHMS answered with Ed25519 and SHA-384. -/
  | negotiateAlgorithms (ep : Nat) (req : List Byte)
  /-- R370 SPDM GET_DIGESTS answered with the digests of certificate slot 0. -/
  | getDigests (ep : Nat) (req : List Byte)
  /-- R370 SPDM GET_CERTIFICATE answered with the requested portion of the slot-0 chain. -/
  | getCertificate (ep : Nat) (req : List Byte)
  /-- R371 SPDM CHALLENGE answered with CHALLENGE_AUTH signed over the transcript with Ed25519 and ML-DSA-65. -/
  | challenge (ep : Nat) (req : List Byte)
  /-- R370 SPDM GET_MEASUREMENTS returns the measurement registers or their count, signed when requested. -/
  | getMeasurements (ep : Nat) (req : List Byte)
  /-- R370 Any other SPDM request code is answered with ERROR UnsupportedRequest. -/
  | spdmUnsupportedRequest (ep : Nat) (req : List Byte)
  /-- R341 Control-queue entry setting a logical device's DRR weight. -/
  | setWeight (e : CtlArgs)
  /-- R341 Control-queue entry setting a logical device's cluster partition on a chip. -/
  | setPartition (e : CtlArgs)
  /-- R341 Control-queue entry giving the trust table base. -/
  | setTrust (e : CtlArgs)
  /-- R341 Control-queue entry giving the module store slot table and NSLOT. -/
  | setModstore (e : CtlArgs)
  /-- R341 Control-queue entry setting a logical device's chip-scratchpad range. -/
  | setSpad (e : CtlArgs)
  /-- R341 Control-queue entry setting or clearing a logical device's remote access map. -/
  | setRamap (e : CtlArgs)
  /-- R341 Control-queue entry setting a logical device's host-window page table. -/
  | setWindow (e : CtlArgs)
  /-- R341 Control-queue entry setting a logical device's notification queue table. -/
  | setQueues (e : CtlArgs)
  /-- R234 Control-queue entry that starts a translation shootdown and completes when every target acknowledges. -/
  | shootdown (e : ShootdownEntry)
  /-- R336 Control-queue entry that makes the pre-emption request interrupt pending for a strand mask of a core. -/
  | preempt (e : CtlArgs)
  /-- R337 Control-queue entry requesting a debug stop of a launch. -/
  | debugStop (e : DebugEntry)
  /-- R337 Control-queue entry withdrawing a debug stop so that held releases proceed. -/
  | debugResume (e : DebugEntry)
  /-- R341 Control-queue entry setting the code directory limit of a cluster. -/
  | setCdlim (e : CtlArgs)
  /-- R359 Control-queue entry settling a parked counter access by emulation, performance or illegal-instruction fault. -/
  | counterReply (e : CtlArgs)
  /-- R374 Control-queue entry passing a wrapped tenant key record to the security core, which installs or refuses it. -/
  | loadKey (e : CtlArgs)
  /-- R250 Control-queue entry resuming or declining a copy chain that waits on an engine fault. -/
  | engineReply (e : CtlArgs)
  /-- R341 A control-queue entry with an unknown OP completes with STATUS 1. -/
  | controlUnknownOp (e : CtlArgs)
  /-- R345 A host-to-device launch request record makes the executive execute launch on the named block. -/
  | launchRequest (core strand : Nat) (ld : BitVec 4) (queue : Nat)
  /-- R342 System-call service NOP completes OK. -/
  | nop (core : Nat) (ticket : BitVec 32)
  /-- R342 System-call service mapping zeroed device memory. -/
  | map (core : Nat) (ticket : BitVec 32) (frames : List Nat)
  /-- R342 System-call service unmapping pages after a shootdown. -/
  | unmap (core : Nat) (ticket : BitVec 32)
  /-- R342 System-call service posting a RoCE Send, complete once the payload is read. -/
  | ethSend (core : Nat) (p : ReadService)
  /-- R342 System-call service posting a receive buffer to a shared receive queue. -/
  | ethRecv (core : Nat) (ticket : BitVec 32)
  /-- R342 System-call service reading a storage object into memory. -/
  | storeRead (core : Nat) (p : WriteService) (data : List Byte)
  /-- R342 System-call service writing memory to a storage object. -/
  | storeWrite (core : Nat) (p : ReadService) (written : Nat)
  /-- R342 A packet naming no service, or with a nonzero reserved byte, completes with UNKNOWN or BAD_ARG. -/
  | syscallUnknown (core : Nat) (ticket : BitVec 32)
  /-- R130 A system-call packet completes with its status, waking strands parked in sysw on its ticket. -/
  | syscallComplete (core : Nat) (ticket : BitVec 32) (status : BitVec 64)
  /-- R348 An incoming RoCE Send takes a posted SRQ buffer and posts a receive completion, or is answered with RNR NAK. -/
  | rdmaSendReceived (ld : BitVec 4) (qp : Nat) (payload : List Byte) (imm : BitVec 32)
  /-- R348 An incoming RDMA Read, Write or Atomic is NAKed and its queue pair moves to the error state. -/
  | rdmaInvalidRequest (ld : BitVec 4) (qp : Nat)
  /-- R349 Delivery of a Send finishes and a send-complete record is posted. -/
  | ethSendCompletion (ld : BitVec 4) (qp : Nat) (cookie : BitVec 64) (status : BitVec 16)
  /-- R78 Each tick with a READY launch, the launch unit runs a deficit round-robin round that chooses and places candidates. -/
  | launchRound
  /-- R76 Every 1,024 ticks the launch unit re-examines QUEUED launches' prerequisites. -/
  | prereqRecheck
  /-- R83 A claimed chip receives its claim, loads and checks its route records and calendar claims. -/
  | claimMessage (m : ClaimMsg)
  /-- R83 The issuing chip receives a chip's table report; all successes move the launch to RUNNING, a failure discards it. -/
  | claimReport (lid : BitVec 32) (chip : Nat) (report : ClaimReport)
  /-- R84 The wake flood reaches the claimed clusters and each core computes and starts its share of vpes. -/
  | wakeMessage (key : LaunchKey)
  /-- R88 The issuing chip receives a chip's ended message and retires the launch when all have ended. -/
  | endedMessage (lid : BitVec 32) (chip : Nat)
  /-- R337 A claimed core meets the stop conditions, stops and flushes its strands; the last to stop posts the stop record. -/
  | coreDebugStopped (c : DebugStopped)
  /-- R93 A fetch source answers; offered forms are verified in order and a verified one is installed, or the fetch fails. -/
  | sourceAnswer (cluster : Nat) (digest : BitVec 256) (vf : BitVec 6) (source : Nat) (offers : List Offer)
  /-- R99 A pod peer receives a code fetch request, looks up its module store and replies with its objects. -/
  | codeRequest (fromChip : Nat) (digest : BitVec 256) (model : BitVec 32)
  /-- R102 A fetch waiting for shelf room retries after an event that can let it proceed. -/
  | fetchRetry (cluster : Nat)
  /-- R102 Every 2^30 core cycles the directory raises stale LAST values so that ages never wrap. -/
  | lastAging (cluster : Nat)
  /-- R28 Sequential execution reaches the end of a form, raising a code-bound fault. -/
  | formEndReached
  /-- R24 A parcel or word that decodes to no instruction raises an illegal-instruction fault at decode. -/
  | illegalWord (word : BitVec 32)
  /-- R106 A long-latency result arrives, ending parks and stalls that waited on it. -/
  | resultArrival (core strand index : Nat)
  /-- R104 An ENDING helper's outstanding results have arrived; it becomes FREE and hjoin waiters wake. -/
  | helperFree (core strand : Nat)
  /-- R108 The bench arbiter binds ready vector-queue heads to free lane groups by deficit round-robin. -/
  | vectorBind (bench : Nat)
  /-- R107 A bound vector entry completes after four arithmetic cycles, writing its results and flags. -/
  | vectorEntryComplete (bench group : Nat)
  /-- R110 A vector register line is filled into the bench register cache, decrypted and checked. -/
  | registerCacheFill (core strand : Nat) (reg : BitVec 5)
  /-- R176 vqred pops one arriving entry, adds it into vd and increments rqprog. -/
  | vqredStep (core : Nat)
  /-- R192 A matrix-queue entry finishes its checks and translations, retires and frees its strand. -/
  | matrixEntryRetire (core : Nat)
  /-- R189 A matrix-queue entry completes, making its effects on accumulators, coverage state, registers and memory. -/
  | matrixEntryComplete (core : Nat)
  /-- R327 A standard supervisor or machine timer interrupt is taken at an instruction boundary. -/
  | timerInterrupt (core strand : Nat) (machine : Bool)
  /-- R327 The executive's posted supervisor external interrupt is taken. -/
  | externalInterrupt (core strand : Nat)
  /-- R360 A pending counter overflow bit is delivered to the loaded vpe's control strand. -/
  | counterOverflowInterrupt (core : Nat)
  /-- R330 A REFUSED journal entry is delivered as the remote-refusal interrupt naming its index. -/
  | remoteRefusalInterrupt (core : Nat) (index : BitVec 6)
  /-- R336 The pre-emption request interrupt is taken by a named strand. -/
  | preemptionRequest (core strand : Nat)
  /-- R229 ECC finds an error; single-bit is corrected, double-bit drops a clean line or poisons data. -/
  | eccError (double dirty : Bool) (loc : Nat)
  /-- R232 A page walk completes, setting A and D by atomic OR and filling the TLB, or faulting. -/
  | pageWalk (core strand : Nat) (va : BitVec 64) (store : Bool)
  /-- R234 A shootdown target acknowledges once its egress queues have drained requests translated before invalidation. -/
  | shootdownAck (c : ChipCore)
  /-- R264 The head store of a store buffer drains into L1 at reach C, or to scratchpad at reach S. -/
  | drain (core strand : Nat)
  /-- R264 A line's drained stores rise one reach level, C to D or D to H. -/
  | evict (core line : Nat)
  /-- R264 A store at reach H takes reach S. -/
  | hostWriteBack (index : Nat)
  /-- R264 A load performs, returning the youngest own buffered store or the coherence-latest visible store. -/
  | performLoad (core strand index part : Nat)
  /-- R269 A copy entry starts: translates its addresses and takes its destination lines into the owned set. -/
  | takeOwnership (bench : Nat)
  /-- R269 The engine writes one destination line at reach D in one step. -/
  | writeLine (m : MovingEntry)
  /-- R269 The engine writes one scratchpad sector at reach S. -/
  | writeScratchpadSector (m : MovingEntry)
  /-- R248 A chain entry completes: writes raised to H, tile tags set, COUNT decremented, chain ended or continued. -/
  | entryComplete (m : MovingEntry)
  /-- R256 A key-route record arrives at its bench and is binned, or dropped when the bin is full. -/
  | ksendArrival (core strand bench : Nat)
  /-- R271 The head combining-buffer entry departs when a journal entry is free, becoming POSTED. -/
  | depart (core : Nat)
  /-- R298 A dynamic message reaching an intermediate chip is forwarded in dimension order. -/
  | routerForward (msg : List Byte)
  /-- R297 A message whose header breaks the layout is dropped and counted as a framing error. -/
  | malformedMessage (msg : List Byte)
  /-- R305 An RST message arrives at its destination and is applied at reach H or refused. -/
  | rstMessage (msg : List Byte)
  /-- R310 An acknowledgement arrives: the journal entry becomes FREE and the named count object is decremented. -/
  | rstAck (msg : List Byte)
  /-- R310 A refusal arrives: an rst entry becomes REFUSED with a pending trap; a gst entry is freed and fails its group. -/
  | rstRefuse (msg : List Byte)
  /-- R272 An RLD request performs at the destination home and a reply is sent. -/
  | rldMessage (msg : List Byte)
  /-- R308 An RLD reply fills its reserved receive-queue slot, or is dropped if the slot was cancelled. -/
  | rldReply (msg : List Byte)
  /-- R319 A group store arrives at a destination and is staged or refused. -/
  | gstMessage (msg : List Byte)
  /-- R319 A prepare arrives at a destination, which answers ready or refuse according to its staged count. -/
  | prepare (group : BitVec 18) (n : Nat)
  /-- R316 A ready arrives at the issuing chip; when all have answered, T is fixed and publish is sent. -/
  | ready (group : BitVec 18) (chip : Nat)
  /-- R316 A refuse arrives while PREPARING and the group moves to ABORTING. -/
  | groupRefuse (group : BitVec 18) (chip : Nat) (reason : BitVec 8)
  /-- R319 An abort arrives at a destination, which discards the group's staged stores and acknowledges. -/
  | abort (group : BitVec 18)
  /-- R319 A publish(T) arrives at a READY destination, which waits for tick T. -/
  | publish (group : BitVec 18) (atTick : BitVec 64)
  /-- R274 At the start of tick T a destination applies the group's staged stores at reach H and acknowledges. -/
  | groupApply (group : BitVec 18)
  /-- R316 A publish acknowledgement arrives; with all in, the group is COMMITTED and its count object signalled. -/
  | publishAck (group : BitVec 18) (chip : Nat)
  /-- R316 An abort acknowledgement arrives; with all in and journals free, the group is ABORTED and signalled. -/
  | abortAck (group : BitVec 18) (chip : Nat)
  /-- R315 Replies to prepare are still missing 65,536 ticks after the last prepare; the group aborts with TIMEOUT. -/
  | groupTimeout (group : BitVec 18)
  /-- R302 A scheduled route input arrives and is held for its firing. -/
  | routeMessage (key : LaunchKey) (route port firing : Nat) (payload : List Byte)
  /-- R302 At a record's slot tick a READY route combines its inputs and sends or delivers the result. -/
  | routeRecordTick (key : LaunchKey) (index : Nat)
  /-- R280 A barrier group is released: log record written, parked slots resume with an acquire, sstepcnt advances. -/
  | barrierRelease (core : Nat) (ch : BitVec 3)
  /-- R288 The tick reaches a tickw target and the parked strand resumes. -/
  | tickwExpiry (core strand : Nat)
  /-- R138 A store to the watched line, or its leaving L1, wakes a waitev strand. -/
  | waitevWake (core strand : Nat)
  /-- R354 A counter wraps from 2^48-1 to 0; with OVIE its pending bit is set and a trace record may be written. -/
  | counterOverflow (core : Nat) (i : BitVec 2)
  /-- R359 Every 1,024 ticks a counter-access record blocked by a full fault queue is offered again. -/
  | counterRecordRetry (core : Nat)
  /-- R338 A claimed chip receives, in the control lane, the order to withdraw its tables and discard a multi-chip launch, or the issuing chip receives a claimed chip's report that its vpes ended the launch with a fault. -/
  | launchDiscardMessage (key : LaunchKey) (code detail : BitVec 16)
  /-- R70 The resident executive ends a launch, which is then discarded with STACK_LIMIT or LAUNCH_FAULT on every claimed chip. -/
  | launchEndByExecutive (key : LaunchKey) (code detail : BitVec 16)
  deriving DecidableEq, Repr

end Sys2Proof
end

