-- ==== Sys2Proof/WellFormed.lean ====
section
/-! DEFINITION. Which instructions are well formed: the field values that the encoding rules leave legal, and
agents that exist in the steps of other agents. -/

namespace Sys2Proof

/-- R38: the format codes of a prefix. -/
def legalFormat (f : BitVec 5) : Bool := f.toNat ≤ 11

/-- R38: the scaling modes of a prefix with their register. -/
def legalScaling (smode : BitVec 2) (sreg : BitVec 5) : Bool :=
  match smode.toNat with
  | 0 => sreg == 0#5
  | 1 => sreg != 0#5
  | 2 => sreg != 0#5
  | _ => true

/-- R38: the sparsity codes of a prefix. -/
def legalSparsity (n : BitVec 5) : Bool :=
  n.toNat ∈ [0, 6, 8, 12, 16]

/-- Well-formedness: R34, R36, R38, R39, R41, R172, R244, R290 for words; the counts of R11 for agents. -/
def Instr.wf : Instr → Bool
  | .vadd _ _ _ _ _ => true
  | .vsub _ _ _ _ _ => true
  | .vmul _ _ _ _ _ => true
  | .vmulh _ _ _ _ _ => true
  | .vmulhn _ _ _ _ _ => true
  | .vand _ _ _ _ _ => true
  | .vor _ _ _ _ _ => true
  | .vxor _ _ _ _ _ => true
  | .vshl _ _ _ _ _ => true
  | .vshr _ _ _ _ _ => true
  | .vsra _ _ _ _ _ => true
  | .vmin _ _ _ _ _ => true
  | .vmax _ _ _ _ _ => true
  | .vminn _ _ _ _ _ => true
  | .vmaxn _ _ _ _ _ => true
  | .vadds _ _ _ _ _ => true
  | .vaddi _ _ _ _ _ => true
  | .vshli _ _ _ imm et => imm.toNat < 8 <<< et.toNat
  | .vshri _ _ _ imm et => imm.toNat < 8 <<< et.toNat
  | .vsrai _ _ _ imm et => imm.toNat < 8 <<< et.toNat
  | .vcmpeq _ _ _ _ _ => true
  | .vcmplt _ _ _ _ _ => true
  | .vcmple _ _ _ _ _ => true
  | .vcmpltn _ _ _ _ _ => true
  | .vcnt _ _ _ _ => true
  | .vclz _ _ _ _ => true
  | .vredsum _ _ _ _ => true
  | .vredmax _ _ _ _ => true
  | .vredmin _ _ _ _ => true
  | .vsel _ _ _ _ _ => true
  | .vmovi _ _ imm et => et != 0#2 || (imm.toInt ≥ -128 && imm.toInt ≤ 127)
  | .vmacc _ _ _ _ _ => true
  | .vfadd _ _ _ _ _ => true
  | .vfsub _ _ _ _ _ => true
  | .vfmul _ _ _ _ _ => true
  | .vfma _ _ _ _ _ => true
  | .vfms _ _ _ _ _ => true
  | .vfdiv _ _ _ _ _ => true
  | .vfsqrt _ _ _ _ => true
  | .vfmin _ _ _ _ _ => true
  | .vfmax _ _ _ _ _ => true
  | .vfabs _ _ _ _ => true
  | .vfneg _ _ _ _ => true
  | .vfexp2 _ _ _ _ => true
  | .vflog2 _ _ _ _ => true
  | .vfrcp _ _ _ _ => true
  | .vfcmpeq _ _ _ _ _ => true
  | .vfcmplt _ _ _ _ _ => true
  | .vfcmple _ _ _ _ _ => true
  | .vfcmpun _ _ _ _ _ => true
  | .vfredsum _ _ _ _ => true
  | .vfredmax _ _ _ _ => true
  | .vfredmin _ _ _ _ => true
  | .vfcvt _ _ _ ty _ => ty.toNat ∈ [4, 5, 6, 7, 8, 9, 10, 11]
  | .vfcvti _ _ _ ty _ => ty.toNat ∈ [0, 1, 2, 3, 12, 16, 17, 18, 19]
  | .vicvtf _ _ _ ty _ => ty.toNat ∈ [4, 5, 6, 7, 20, 21, 22, 23]
  | .vfwmacc _ _ _ _ et => et != 3#2
  | .vfclass _ _ _ _ => true
  | .vfround _ _ _ _ => true
  | .vfscale _ _ _ _ _ => true
  | .vfrsqrt _ _ _ _ => true
  | .vfmaxnum _ _ _ _ _ => true
  | .vmoviF _ _ _ _ => true
  | .vfminnum _ _ _ _ _ => true
  | .vbcast _ _ _ => true
  | .vext _ _ _ _ => true
  | .vins _ _ _ _ => true
  | .vperm _ _ _ _ => true
  | .vslideup _ _ _ _ => true
  | .vslidedn _ _ _ _ => true
  | .vzip _ _ _ _ => true
  | .vunzip _ _ _ => true
  | .vrev _ _ _ => true
  | .vcompress _ _ _ _ => true
  | .pand _ _ _ => true
  | .por _ _ _ => true
  | .pxor _ _ _ => true
  | .pnot _ _ => true
  | .pwhile _ _ _ _ => true
  | .pcount _ _ _ => true
  | .pfirst _ _ _ => true
  | .vqred _ _ _ _ => true
  | .vmv _ _ _ => true
  | .mcfg _ _ _ => true
  | .mma _ _ _ _ => true
  | .mmas _ _ _ _ => true
  | .mzero _ _ => true
  | .mst _ _ _ _ => true
  | .mld _ _ _ _ => true
  | .mrd _ _ _ _ => true
  | .mrec _ _ _ _ => true
  | .mprog _ _ => true
  | .mwr _ _ _ => true
  | .cvinit _ _ _ => true
  | .cvprobe _ _ _ => true
  | .cvcommit _ _ _ => true
  | .cvgain _ _ => true
  | .cvclr _ => true
  | .cvsel _ _ _ => true
  | .cvsave _ _ => true
  | .cvrest _ _ => true
  | .erun _ _ _ => true
  | .ewait _ _ => true
  | .estat _ _ => true
  | .qpush _ _ => true
  | .qpop _ _ => true
  | .qpushv _ _ => true
  | .qpopv _ _ => true
  | .qstat _ _ => true
  | .qbind _ _ => true
  | .vld _ _ _ _ _ => true
  | .vst _ _ _ _ _ => true
  | .vldx _ _ _ _ _ => true
  | .vstx _ _ _ _ _ => true
  | .vldl _ _ _ _ _ => true
  | .vstl _ _ _ _ _ => true
  | .vldk _ _ _ _ _ => true
  | .vldt _ _ _ _ _ => true
  | .ldk _ _ _ _ => true
  | .ldt _ _ _ _ => true
  | .rld _ _ _ _ => true
  | .rst _ _ _ _ => true
  | .gst _ _ _ _ => true
  | .ksend _ _ _ _ => true
  | .famoAddBf16x2 _ _ _ use => use != 3#2
  | .famoAddF16x2 _ _ _ use => use != 3#2
  | .famoAddF32 _ _ _ use => use != 3#2
  | .famoAddF64 _ _ _ use => use != 3#2
  | .famoMinBf16x2 _ _ _ use => use != 3#2
  | .famoMinF16x2 _ _ _ use => use != 3#2
  | .famoMinF32 _ _ _ use => use != 3#2
  | .famoMinF64 _ _ _ use => use != 3#2
  | .famoMaxBf16x2 _ _ _ use => use != 3#2
  | .famoMaxF16x2 _ _ _ use => use != 3#2
  | .famoMaxF32 _ _ _ use => use != 3#2
  | .famoMaxF64 _ _ _ use => use != 3#2
  | .cas128 _ _ _ use => use != 3#2 && use != 1#2
  | .iaddD _ _ _ use => use != 3#2
  | .iaddW _ _ _ use => use != 3#2
  | .iorD _ _ _ use => use != 3#2
  | .iandD _ _ _ use => use != 3#2
  | .fenceS scope => scope.toNat ≤ 6
  | .sldAcq _ _ scope => scope.toNat ≤ 6
  | .sstRel _ _ scope => scope.toNat ≤ 6
  | .barr sel => sel.toNat ≤ 4
  | .bwait sel => sel.toNat ≤ 4
  | .bmask _ _ _ => true
  | .tickrd _ => true
  | .tickw _ _ => true
  | .sstep sel => sel.toNat ≤ 4
  | .abarr _ _ _ => true
  | .abwait _ _ => true
  | .abinit _ _ _ => true
  | .gopen _ => true
  | .gsel _ _ => true
  | .gcommit _ _ _ => true
  | .gabort _ _ => true
  | .gstat _ _ _ => true
  | .tset _ _ _ => true
  | .tmode _ _ _ => true
  | .kbin _ _ _ => true
  | .jrnl _ _ _ => true
  | .calld _ => true
  | .tcalld _ => true
  | .callh _ => true
  | .tcallh _ => true
  | .reth _ => true
  | .start _ _ _ => true
  | .hend => true
  | .hjoin _ _ => true
  | .hpoll _ => true
  | .pfx fmt1 fmt2 n smode sreg => legalFormat fmt1 && legalFormat fmt2 && legalScaling smode sreg && legalSparsity n
  | .launch _ _ => true
  | .lpoll _ _ => true
  | .sysc _ _ _ => true
  | .sysw _ _ => true
  | .nfy _ _ _ => true
  | .fhand _ _ => true
  | .cprobe _ _ _ => true
  | .cpin _ _ => true
  | .cunpin _ _ => true
  | .cevict _ _ => true
  | .ctxflush _ _ => true
  | .ctxload _ _ => true
  | .wsw _ _ _ => true
  | .waitev _ _ _ => true
  | .mark _ => true
  | .lui _ _ => true
  | .auipc _ _ => true
  | .jal _ _ => true
  | .jalr _ _ _ => true
  | .beq _ _ _ => true
  | .bne _ _ _ => true
  | .blt _ _ _ => true
  | .bge _ _ _ => true
  | .bltu _ _ _ => true
  | .bgeu _ _ _ => true
  | .lb _ _ _ => true
  | .lh _ _ _ => true
  | .lw _ _ _ => true
  | .ld _ _ _ => true
  | .lbu _ _ _ => true
  | .lhu _ _ _ => true
  | .lwu _ _ _ => true
  | .sb _ _ _ => true
  | .sh _ _ _ => true
  | .sw _ _ _ => true
  | .sd _ _ _ => true
  | .addi _ _ _ => true
  | .slti _ _ _ => true
  | .sltiu _ _ _ => true
  | .xori _ _ _ => true
  | .ori _ _ _ => true
  | .andi _ _ _ => true
  | .slli _ _ _ => true
  | .srli _ _ _ => true
  | .srai _ _ _ => true
  | .addiw _ _ _ => true
  | .slliw _ _ _ => true
  | .srliw _ _ _ => true
  | .sraiw _ _ _ => true
  | .add _ _ _ => true
  | .sll _ _ _ => true
  | .slt _ _ _ => true
  | .sltu _ _ _ => true
  | .xor _ _ _ => true
  | .srl _ _ _ => true
  | .or _ _ _ => true
  | .and _ _ _ => true
  | .sub _ _ _ => true
  | .sra _ _ _ => true
  | .mul _ _ _ => true
  | .mulh _ _ _ => true
  | .mulhsu _ _ _ => true
  | .mulhu _ _ _ => true
  | .div _ _ _ => true
  | .divu _ _ _ => true
  | .rem _ _ _ => true
  | .remu _ _ _ => true
  | .addw _ _ _ => true
  | .sllw _ _ _ => true
  | .srlw _ _ _ => true
  | .subw _ _ _ => true
  | .sraw _ _ _ => true
  | .mulw _ _ _ => true
  | .divw _ _ _ => true
  | .divuw _ _ _ => true
  | .remw _ _ _ => true
  | .remuw _ _ _ => true
  | .fence _ _ _ _ _ => true
  | .lrW _ _ _ _ => true
  | .lrD _ _ _ _ => true
  | .scW _ _ _ _ _ => true
  | .scD _ _ _ _ _ => true
  | .amoswapW _ _ _ _ _ => true
  | .amoswapD _ _ _ _ _ => true
  | .amoaddW _ _ _ _ _ => true
  | .amoaddD _ _ _ _ _ => true
  | .amoxorW _ _ _ _ _ => true
  | .amoxorD _ _ _ _ _ => true
  | .amoandW _ _ _ _ _ => true
  | .amoandD _ _ _ _ _ => true
  | .amoorW _ _ _ _ _ => true
  | .amoorD _ _ _ _ _ => true
  | .amominW _ _ _ _ _ => true
  | .amominD _ _ _ _ _ => true
  | .amomaxW _ _ _ _ _ => true
  | .amomaxD _ _ _ _ _ => true
  | .amominuW _ _ _ _ _ => true
  | .amominuD _ _ _ _ _ => true
  | .amomaxuW _ _ _ _ _ => true
  | .amomaxuD _ _ _ _ _ => true
  | .csrrw _ _ _ => true
  | .csrrs _ _ _ => true
  | .csrrc _ _ _ => true
  | .csrrwi _ _ _ => true
  | .csrrsi _ _ _ => true
  | .csrrci _ _ _ => true
  | .sret => true
  | .mret => true
  | .wfi => true
  | .sfenceVma _ _ => true
  | .cAddi4spn _ imm => imm != 0#8
  | .cLw _ _ _ => true
  | .cLd _ _ _ => true
  | .cSw _ _ _ => true
  | .cSd _ _ _ => true
  | .cNop _ => true
  | .cAddi rd _ => rd != 0#5
  | .cAddiw rd _ => rd != 0#5
  | .cLi _ _ => true
  | .cAddi16sp imm => imm != 0#6
  | .cLui rd imm => rd != 2#5 && imm != 0#6
  | .cSrli _ _ => true
  | .cSrai _ _ => true
  | .cAndi _ _ => true
  | .cSub _ _ => true
  | .cXor _ _ => true
  | .cOr _ _ => true
  | .cAnd _ _ => true
  | .cSubw _ _ => true
  | .cAddw _ _ => true
  | .cJ _ => true
  | .cBeqz _ _ => true
  | .cBnez _ _ => true
  | .cSlli _ _ => true
  | .cLwsp rd _ => rd != 0#5
  | .cLdsp rd _ => rd != 0#5
  | .cJr rs1 => rs1 != 0#5
  | .cMv _ rs2 => rs2 != 0#5
  | .cJalr rs1 => rs1 != 0#5
  | .cAdd _ rs2 => rs2 != 0#5
  | .cSwsp _ _ => true
  | .cSdsp _ _ => true
  | .coldReset _ => true
  | .tickLock _ => true
  | .throttle => true
  | .throttleRestore => true
  | .podcfgWrite _ => true
  | .dvsecAcceptWrite _ _ => true
  | .registerWrite core strand _ _ => core < 4096 && strand < 11
  | .bindVppb _ _ _ => true
  | .unbindVppb _ => true
  | .hostWarmRestart _ => true
  | .cxlMemRequest _ _ _ _ _ => true
  | .getVersion ep _ => ep < 17
  | .getCapabilities ep _ => ep < 17
  | .negotiateAlgorithms ep _ => ep < 17
  | .getDigests ep _ => ep < 17
  | .getCertificate ep _ => ep < 17
  | .challenge ep _ => ep < 17
  | .getMeasurements ep _ => ep < 17
  | .spdmUnsupportedRequest ep _ => ep < 17
  | .setWeight _ => true
  | .setPartition _ => true
  | .setTrust _ => true
  | .setModstore _ => true
  | .setSpad _ => true
  | .setRamap _ => true
  | .setWindow _ => true
  | .setQueues _ => true
  | .shootdown _ => true
  | .preempt _ => true
  | .debugStop _ => true
  | .debugResume _ => true
  | .setCdlim _ => true
  | .counterReply _ => true
  | .loadKey _ => true
  | .engineReply _ => true
  | .controlUnknownOp _ => true
  | .launchRequest core strand _ _ => core < 4096 && strand < 11
  | .nop core _ => core < 4096
  | .map core _ _ => core < 4096
  | .unmap core _ => core < 4096
  | .ethSend core _ => core < 4096
  | .ethRecv core _ => core < 4096
  | .storeRead core _ _ => core < 4096
  | .storeWrite core _ _ => core < 4096
  | .syscallUnknown core _ => core < 4096
  | .syscallComplete core _ _ => core < 4096
  | .rdmaSendReceived _ _ _ _ => true
  | .rdmaInvalidRequest _ _ => true
  | .ethSendCompletion _ _ _ _ => true
  | .launchRound => true
  | .prereqRecheck => true
  | .claimMessage _ => true
  | .claimReport _ _ _ => true
  | .wakeMessage _ => true
  | .endedMessage _ _ => true
  | .coreDebugStopped c => c.core < 4096
  | .sourceAnswer cluster _ _ _ _ => cluster < 256
  | .codeRequest _ _ _ => true
  | .fetchRetry cluster => cluster < 256
  | .lastAging cluster => cluster < 256
  | .formEndReached => true
  | .illegalWord _ => true
  | .resultArrival core strand _ => core < 4096 && strand < 11
  | .helperFree core strand => core < 4096 && strand < 11
  | .vectorBind bench => bench < 1024
  | .vectorEntryComplete bench group => bench < 1024 && group < 4
  | .registerCacheFill core strand _ => core < 4096 && strand < 11
  | .vqredStep core => core < 4096
  | .matrixEntryRetire core => core < 4096
  | .matrixEntryComplete core => core < 4096
  | .timerInterrupt core strand _ => core < 4096 && strand < 11
  | .externalInterrupt core strand => core < 4096 && strand < 11
  | .counterOverflowInterrupt core => core < 4096
  | .remoteRefusalInterrupt core _ => core < 4096
  | .preemptionRequest core strand => core < 4096 && strand < 11
  | .eccError _ _ _ => true
  | .pageWalk core strand _ _ => core < 4096 && strand < 11
  | .shootdownAck c => c.chip < 1024 && c.core < 4096
  | .drain core strand => core < 4096 && strand < 11
  | .evict core _ => core < 4096
  | .hostWriteBack _ => true
  | .performLoad core strand _ _ => core < 4096 && strand < 11
  | .takeOwnership bench => bench < 1024
  | .writeLine m => m.bench < 1024
  | .writeScratchpadSector m => m.bench < 1024
  | .entryComplete m => m.bench < 1024
  | .ksendArrival core strand bench => core < 4096 && strand < 11 && bench < 1024
  | .depart core => core < 4096
  | .routerForward _ => true
  | .malformedMessage _ => true
  | .rstMessage _ => true
  | .rstAck _ => true
  | .rstRefuse _ => true
  | .rldMessage _ => true
  | .rldReply _ => true
  | .gstMessage _ => true
  | .prepare _ _ => true
  | .ready _ _ => true
  | .groupRefuse _ _ _ => true
  | .abort _ => true
  | .publish _ _ => true
  | .groupApply _ => true
  | .publishAck _ _ => true
  | .abortAck _ _ => true
  | .groupTimeout _ => true
  | .routeMessage _ _ _ _ _ => true
  | .routeRecordTick _ _ => true
  | .barrierRelease core ch => core < 4096 && ch.toNat ≤ 4
  | .tickwExpiry core strand => core < 4096 && strand < 11
  | .waitevWake core strand => core < 4096 && strand < 11
  | .counterOverflow core _ => core < 4096
  | .counterRecordRetry core => core < 4096
  | .launchDiscardMessage _ _ _ => true
  | .launchEndByExecutive _ _ _ => true

end Sys2Proof
end

