-- ==== Sys2Proof/Decode.lean ====
section
/-! DEFINITION. Decoding: total on any bytes, rejecting by name, and the encoder of the same tables (R23-R41). -/

namespace Sys2Proof

/-- Why bytes decode to no instruction; each is an illegal-instruction fault (R23-R25). -/
inductive DecodeError where
  | tooShort
  | reservedLength
  | zeroParcel
  | illegalMajor
  | reservedSelector (opcode : String)
  | reservedField (mnemonic : String)
  | reservedCompressed
  | illegalValue
  deriving DecidableEq, Repr

/-! ## 32-bit words -/

/-- R27: funct3 selects within opcode 0x03. -/
noncomputable def decodeLoad (w : BitVec 32) : Except DecodeError Instr :=
  match (w.extractLsb' 12 3).toNat with
  | 0 => .ok (.lb (w.extractLsb' 7 5) (w.extractLsb' 15 5) (w.extractLsb' 20 12))
  | 1 => .ok (.lh (w.extractLsb' 7 5) (w.extractLsb' 15 5) (w.extractLsb' 20 12))
  | 2 => .ok (.lw (w.extractLsb' 7 5) (w.extractLsb' 15 5) (w.extractLsb' 20 12))
  | 3 => .ok (.ld (w.extractLsb' 7 5) (w.extractLsb' 15 5) (w.extractLsb' 20 12))
  | 4 => .ok (.lbu (w.extractLsb' 7 5) (w.extractLsb' 15 5) (w.extractLsb' 20 12))
  | 5 => .ok (.lhu (w.extractLsb' 7 5) (w.extractLsb' 15 5) (w.extractLsb' 20 12))
  | 6 => .ok (.lwu (w.extractLsb' 7 5) (w.extractLsb' 15 5) (w.extractLsb' 20 12))
  | _ => .error (.reservedSelector "load")

/-- R37: opcode 0x0B, funct3 000. -/
noncomputable def decodeCustom00 (w : BitVec 32) : Except DecodeError Instr :=
  match (w.extractLsb' 7 5).toNat with
  | 0 => if w.extractLsb' 15 5 = 0#5 then .ok (.tcalld (w.extractLsb' 20 12)) else .error (.reservedField "TCALLD")
  | 1 => if w.extractLsb' 15 5 = 0#5 then .ok (.calld (w.extractLsb' 20 12)) else .error (.reservedField "CALLD")
  | _ => .error (.reservedSelector "custom0")

/-- R37: opcode 0x0B, funct3 001. -/
noncomputable def decodeCustom01 (w : BitVec 32) : Except DecodeError Instr :=
  match (w.extractLsb' 25 7).toNat with
  | 0 => if w.extractLsb' 20 5 = 0#5 ∧ w.extractLsb' 7 5 = 1#5 then .ok (.callh (w.extractLsb' 15 5)) else .error (.reservedField "CALLH")
  | 1 => if w.extractLsb' 20 5 = 0#5 ∧ w.extractLsb' 7 5 = 0#5 then .ok (.tcallh (w.extractLsb' 15 5)) else .error (.reservedField "TCALLH")
  | 2 => if w.extractLsb' 20 5 = 0#5 ∧ w.extractLsb' 7 5 = 0#5 then .ok (.reth (w.extractLsb' 15 5)) else .error (.reservedField "RETH")
  | _ => .error (.reservedSelector "custom0")

/-- R37: opcode 0x0B, funct3 010. -/
noncomputable def decodeCustom02 (w : BitVec 32) : Except DecodeError Instr :=
  match (w.extractLsb' 25 7).toNat with
  | 0 => .ok (.start (w.extractLsb' 7 5) (w.extractLsb' 15 5) (w.extractLsb' 20 5))
  | 1 => if w.extractLsb' 15 10 = 0#10 ∧ w.extractLsb' 7 5 = 0#5 then .ok .hend else .error (.reservedField "HEND")
  | 2 => if w.extractLsb' 20 5 = 0#5 then .ok (.hjoin (w.extractLsb' 7 5) (w.extractLsb' 15 5)) else .error (.reservedField "HJOIN")
  | 3 => if w.extractLsb' 15 10 = 0#10 then .ok (.hpoll (w.extractLsb' 7 5)) else .error (.reservedField "HPOLL")
  | _ => .error (.reservedSelector "custom0")

/-- R37: opcode 0x0B, funct3 100. -/
noncomputable def decodeCustom04 (w : BitVec 32) : Except DecodeError Instr :=
  match (w.extractLsb' 25 7).toNat with
  | 0 => if w.extractLsb' 20 5 = 0#5 then .ok (.launch (w.extractLsb' 7 5) (w.extractLsb' 15 5)) else .error (.reservedField "LAUNCH")
  | 1 => if w.extractLsb' 20 5 = 0#5 then .ok (.lpoll (w.extractLsb' 7 5) (w.extractLsb' 15 5)) else .error (.reservedField "LPOLL")
  | _ => .error (.reservedSelector "custom0")

/-- R37: opcode 0x0B, funct3 101. -/
noncomputable def decodeCustom05 (w : BitVec 32) : Except DecodeError Instr :=
  match (w.extractLsb' 25 7).toNat with
  | 0 => if w.extractLsb' 21 4 = 0#4 then .ok (.sysc (w.extractLsb' 7 5) (w.extractLsb' 15 5) (w.extractLsb' 20 1)) else .error (.reservedField "SYSC")
  | 1 => if w.extractLsb' 20 5 = 0#5 then .ok (.sysw (w.extractLsb' 7 5) (w.extractLsb' 15 5)) else .error (.reservedField "SYSW")
  | 2 => .ok (.nfy (w.extractLsb' 7 5) (w.extractLsb' 15 5) (w.extractLsb' 20 5))
  | _ => .error (.reservedSelector "custom0")

/-- R37: opcode 0x0B, funct3 111. -/
noncomputable def decodeCustom07 (w : BitVec 32) : Except DecodeError Instr :=
  match (w.extractLsb' 25 7).toNat with
  | 0 => .ok (.cprobe (w.extractLsb' 7 5) (w.extractLsb' 15 5) (w.extractLsb' 20 5))
  | 1 => if w.extractLsb' 20 5 = 0#5 then .ok (.cpin (w.extractLsb' 7 5) (w.extractLsb' 15 5)) else .error (.reservedField "CPIN")
  | 2 => if w.extractLsb' 20 5 = 0#5 then .ok (.cunpin (w.extractLsb' 7 5) (w.extractLsb' 15 5)) else .error (.reservedField "CUNPIN")
  | 3 => if w.extractLsb' 20 5 = 0#5 then .ok (.cevict (w.extractLsb' 7 5) (w.extractLsb' 15 5)) else .error (.reservedField "CEVICT")
  | 8 => if w.extractLsb' 20 5 = 0#5 then .ok (.ctxflush (w.extractLsb' 7 5) (w.extractLsb' 15 5)) else .error (.reservedField "CTXFLUSH")
  | 9 => if w.extractLsb' 20 5 = 0#5 then .ok (.ctxload (w.extractLsb' 7 5) (w.extractLsb' 15 5)) else .error (.reservedField "CTXLOAD")
  | 10 => .ok (.wsw (w.extractLsb' 7 5) (w.extractLsb' 15 5) (w.extractLsb' 20 5))
  | 12 => .ok (.waitev (w.extractLsb' 7 5) (w.extractLsb' 15 5) (w.extractLsb' 20 5))
  | 13 => if w.extractLsb' 20 5 = 0#5 ∧ w.extractLsb' 7 5 = 0#5 then .ok (.mark (w.extractLsb' 15 5)) else .error (.reservedField "MARK")
  | _ => .error (.reservedSelector "custom0")

/-- R37: funct3 selects within opcode 0x0B. -/
noncomputable def decodeCustom0 (w : BitVec 32) : Except DecodeError Instr :=
  match (w.extractLsb' 12 3).toNat with
  | 0 => decodeCustom00 w
  | 1 => decodeCustom01 w
  | 2 => decodeCustom02 w
  | 3 => .ok (.pfx (w.extractLsb' 7 5) (w.extractLsb' 15 5) (w.extractLsb' 27 5) (w.extractLsb' 25 2) (w.extractLsb' 20 5))
  | 4 => decodeCustom04 w
  | 5 => decodeCustom05 w
  | 6 => if w.extractLsb' 15 5 = 0#5 then .ok (.fhand (w.extractLsb' 7 5) (w.extractLsb' 20 12)) else .error (.reservedField "FHAND")
  | 7 => decodeCustom07 w
  | _ => .error (.reservedSelector "custom0")

/-- R27: funct3 selects within opcode 0x0F. -/
noncomputable def decodeMiscMem (w : BitVec 32) : Except DecodeError Instr :=
  match (w.extractLsb' 12 3).toNat with
  | 0 => .ok (.fence (w.extractLsb' 7 5) (w.extractLsb' 15 5) (w.extractLsb' 28 4) (w.extractLsb' 24 4) (w.extractLsb' 20 4))
  | _ => .error (.reservedSelector "miscMem")

/-- R27: opcode 0x13, funct3 101. -/
noncomputable def decodeOpImm5 (w : BitVec 32) : Except DecodeError Instr :=
  match (w.extractLsb' 26 6).toNat with
  | 0 => .ok (.srli (w.extractLsb' 7 5) (w.extractLsb' 15 5) (w.extractLsb' 20 6))
  | 16 => .ok (.srai (w.extractLsb' 7 5) (w.extractLsb' 15 5) (w.extractLsb' 20 6))
  | _ => .error (.reservedSelector "opImm")

/-- R27: funct3 selects within opcode 0x13. -/
noncomputable def decodeOpImm (w : BitVec 32) : Except DecodeError Instr :=
  match (w.extractLsb' 12 3).toNat with
  | 0 => .ok (.addi (w.extractLsb' 7 5) (w.extractLsb' 15 5) (w.extractLsb' 20 12))
  | 1 => if w.extractLsb' 26 6 = 0#6 then .ok (.slli (w.extractLsb' 7 5) (w.extractLsb' 15 5) (w.extractLsb' 20 6)) else .error (.reservedField "SLLI")
  | 2 => .ok (.slti (w.extractLsb' 7 5) (w.extractLsb' 15 5) (w.extractLsb' 20 12))
  | 3 => .ok (.sltiu (w.extractLsb' 7 5) (w.extractLsb' 15 5) (w.extractLsb' 20 12))
  | 4 => .ok (.xori (w.extractLsb' 7 5) (w.extractLsb' 15 5) (w.extractLsb' 20 12))
  | 5 => decodeOpImm5 w
  | 6 => .ok (.ori (w.extractLsb' 7 5) (w.extractLsb' 15 5) (w.extractLsb' 20 12))
  | 7 => .ok (.andi (w.extractLsb' 7 5) (w.extractLsb' 15 5) (w.extractLsb' 20 12))
  | _ => .error (.reservedSelector "opImm")

/-- R27: the one instruction of opcode 0x17. -/
noncomputable def decodeAuipc (w : BitVec 32) : Except DecodeError Instr :=
  .ok (.auipc (w.extractLsb' 7 5) (w.extractLsb' 12 20))

/-- R27: opcode 0x1B, funct3 101. -/
noncomputable def decodeOpImm325 (w : BitVec 32) : Except DecodeError Instr :=
  match (w.extractLsb' 25 7).toNat with
  | 0 => .ok (.srliw (w.extractLsb' 7 5) (w.extractLsb' 15 5) (w.extractLsb' 20 5))
  | 32 => .ok (.sraiw (w.extractLsb' 7 5) (w.extractLsb' 15 5) (w.extractLsb' 20 5))
  | _ => .error (.reservedSelector "opImm32")

/-- R27: funct3 selects within opcode 0x1B. -/
noncomputable def decodeOpImm32 (w : BitVec 32) : Except DecodeError Instr :=
  match (w.extractLsb' 12 3).toNat with
  | 0 => .ok (.addiw (w.extractLsb' 7 5) (w.extractLsb' 15 5) (w.extractLsb' 20 12))
  | 1 => if w.extractLsb' 25 7 = 0#7 then .ok (.slliw (w.extractLsb' 7 5) (w.extractLsb' 15 5) (w.extractLsb' 20 5)) else .error (.reservedField "SLLIW")
  | 5 => decodeOpImm325 w
  | _ => .error (.reservedSelector "opImm32")

/-- R27: funct3 selects within opcode 0x23. -/
noncomputable def decodeStore (w : BitVec 32) : Except DecodeError Instr :=
  match (w.extractLsb' 12 3).toNat with
  | 0 => .ok (.sb (w.extractLsb' 15 5) (w.extractLsb' 20 5) (w.extractLsb' 25 7 ++ w.extractLsb' 7 5))
  | 1 => .ok (.sh (w.extractLsb' 15 5) (w.extractLsb' 20 5) (w.extractLsb' 25 7 ++ w.extractLsb' 7 5))
  | 2 => .ok (.sw (w.extractLsb' 15 5) (w.extractLsb' 20 5) (w.extractLsb' 25 7 ++ w.extractLsb' 7 5))
  | 3 => .ok (.sd (w.extractLsb' 15 5) (w.extractLsb' 20 5) (w.extractLsb' 25 7 ++ w.extractLsb' 7 5))
  | _ => .error (.reservedSelector "store")

/-- R39: op5 selects the integer instruction of custom-1. -/
noncomputable def decodeCustom1Int (w : BitVec 32) : Except DecodeError Instr :=
  match (w.extractLsb' 27 5).toNat with
  | 0 => .ok (.vadd (w.extractLsb' 7 5) (w.extractLsb' 15 5) (w.extractLsb' 20 5) (w.extractLsb' 25 2) (w.extractLsb' 12 2))
  | 1 => .ok (.vsub (w.extractLsb' 7 5) (w.extractLsb' 15 5) (w.extractLsb' 20 5) (w.extractLsb' 25 2) (w.extractLsb' 12 2))
  | 2 => .ok (.vmul (w.extractLsb' 7 5) (w.extractLsb' 15 5) (w.extractLsb' 20 5) (w.extractLsb' 25 2) (w.extractLsb' 12 2))
  | 3 => .ok (.vmulh (w.extractLsb' 7 5) (w.extractLsb' 15 5) (w.extractLsb' 20 5) (w.extractLsb' 25 2) (w.extractLsb' 12 2))
  | 4 => .ok (.vmulhn (w.extractLsb' 7 5) (w.extractLsb' 15 5) (w.extractLsb' 20 5) (w.extractLsb' 25 2) (w.extractLsb' 12 2))
  | 5 => .ok (.vand (w.extractLsb' 7 5) (w.extractLsb' 15 5) (w.extractLsb' 20 5) (w.extractLsb' 25 2) (w.extractLsb' 12 2))
  | 6 => .ok (.vor (w.extractLsb' 7 5) (w.extractLsb' 15 5) (w.extractLsb' 20 5) (w.extractLsb' 25 2) (w.extractLsb' 12 2))
  | 7 => .ok (.vxor (w.extractLsb' 7 5) (w.extractLsb' 15 5) (w.extractLsb' 20 5) (w.extractLsb' 25 2) (w.extractLsb' 12 2))
  | 8 => .ok (.vshl (w.extractLsb' 7 5) (w.extractLsb' 15 5) (w.extractLsb' 20 5) (w.extractLsb' 25 2) (w.extractLsb' 12 2))
  | 9 => .ok (.vshr (w.extractLsb' 7 5) (w.extractLsb' 15 5) (w.extractLsb' 20 5) (w.extractLsb' 25 2) (w.extractLsb' 12 2))
  | 10 => .ok (.vsra (w.extractLsb' 7 5) (w.extractLsb' 15 5) (w.extractLsb' 20 5) (w.extractLsb' 25 2) (w.extractLsb' 12 2))
  | 11 => .ok (.vmin (w.extractLsb' 7 5) (w.extractLsb' 15 5) (w.extractLsb' 20 5) (w.extractLsb' 25 2) (w.extractLsb' 12 2))
  | 12 => .ok (.vmax (w.extractLsb' 7 5) (w.extractLsb' 15 5) (w.extractLsb' 20 5) (w.extractLsb' 25 2) (w.extractLsb' 12 2))
  | 13 => .ok (.vminn (w.extractLsb' 7 5) (w.extractLsb' 15 5) (w.extractLsb' 20 5) (w.extractLsb' 25 2) (w.extractLsb' 12 2))
  | 14 => .ok (.vmaxn (w.extractLsb' 7 5) (w.extractLsb' 15 5) (w.extractLsb' 20 5) (w.extractLsb' 25 2) (w.extractLsb' 12 2))
  | 15 => .ok (.vadds (w.extractLsb' 7 5) (w.extractLsb' 15 5) (w.extractLsb' 20 5) (w.extractLsb' 25 2) (w.extractLsb' 12 2))
  | 16 => .ok (.vaddi (w.extractLsb' 7 5) (w.extractLsb' 15 5) (w.extractLsb' 25 2) (w.extractLsb' 20 5) (w.extractLsb' 12 2))
  | 17 => .ok (.vshli (w.extractLsb' 7 5) (w.extractLsb' 15 5) (w.extractLsb' 25 2) (w.extractLsb' 20 5) (w.extractLsb' 12 2))
  | 18 => .ok (.vshri (w.extractLsb' 7 5) (w.extractLsb' 15 5) (w.extractLsb' 25 2) (w.extractLsb' 20 5) (w.extractLsb' 12 2))
  | 19 => .ok (.vsrai (w.extractLsb' 7 5) (w.extractLsb' 15 5) (w.extractLsb' 25 2) (w.extractLsb' 20 5) (w.extractLsb' 12 2))
  | 20 => if w.extractLsb' 10 2 = 0#2 then .ok (.vcmpeq (w.extractLsb' 7 3) (w.extractLsb' 15 5) (w.extractLsb' 20 5) (w.extractLsb' 25 2) (w.extractLsb' 12 2)) else .error (.reservedField "VCMPEQ")
  | 21 => if w.extractLsb' 10 2 = 0#2 then .ok (.vcmplt (w.extractLsb' 7 3) (w.extractLsb' 15 5) (w.extractLsb' 20 5) (w.extractLsb' 25 2) (w.extractLsb' 12 2)) else .error (.reservedField "VCMPLT")
  | 22 => if w.extractLsb' 10 2 = 0#2 then .ok (.vcmple (w.extractLsb' 7 3) (w.extractLsb' 15 5) (w.extractLsb' 20 5) (w.extractLsb' 25 2) (w.extractLsb' 12 2)) else .error (.reservedField "VCMPLE")
  | 23 => if w.extractLsb' 10 2 = 0#2 then .ok (.vcmpltn (w.extractLsb' 7 3) (w.extractLsb' 15 5) (w.extractLsb' 20 5) (w.extractLsb' 25 2) (w.extractLsb' 12 2)) else .error (.reservedField "VCMPLTN")
  | 24 => if w.extractLsb' 20 5 = 0#5 then .ok (.vcnt (w.extractLsb' 7 5) (w.extractLsb' 15 5) (w.extractLsb' 25 2) (w.extractLsb' 12 2)) else .error (.reservedField "VCNT")
  | 25 => if w.extractLsb' 20 5 = 0#5 then .ok (.vclz (w.extractLsb' 7 5) (w.extractLsb' 15 5) (w.extractLsb' 25 2) (w.extractLsb' 12 2)) else .error (.reservedField "VCLZ")
  | 26 => if w.extractLsb' 20 5 = 0#5 then .ok (.vredsum (w.extractLsb' 7 5) (w.extractLsb' 15 5) (w.extractLsb' 25 2) (w.extractLsb' 12 2)) else .error (.reservedField "VREDSUM")
  | 27 => if w.extractLsb' 20 5 = 0#5 then .ok (.vredmax (w.extractLsb' 7 5) (w.extractLsb' 15 5) (w.extractLsb' 25 2) (w.extractLsb' 12 2)) else .error (.reservedField "VREDMAX")
  | 28 => if w.extractLsb' 20 5 = 0#5 then .ok (.vredmin (w.extractLsb' 7 5) (w.extractLsb' 15 5) (w.extractLsb' 25 2) (w.extractLsb' 12 2)) else .error (.reservedField "VREDMIN")
  | 29 => .ok (.vsel (w.extractLsb' 7 5) (w.extractLsb' 15 5) (w.extractLsb' 20 5) (w.extractLsb' 25 2) (w.extractLsb' 12 2))
  | 30 => .ok (.vmovi (w.extractLsb' 7 5) (w.extractLsb' 25 2) (w.extractLsb' 15 10) (w.extractLsb' 12 2))
  | 31 => .ok (.vmacc (w.extractLsb' 7 5) (w.extractLsb' 15 5) (w.extractLsb' 20 5) (w.extractLsb' 25 2) (w.extractLsb' 12 2))
  | _ => .error (.reservedSelector "custom1")

/-- R39: op5 selects the floating instruction of custom-1. -/
noncomputable def decodeCustom1Float (w : BitVec 32) : Except DecodeError Instr :=
  match (w.extractLsb' 27 5).toNat with
  | 0 => .ok (.vfadd (w.extractLsb' 7 5) (w.extractLsb' 15 5) (w.extractLsb' 20 5) (w.extractLsb' 25 2) (w.extractLsb' 12 2))
  | 1 => .ok (.vfsub (w.extractLsb' 7 5) (w.extractLsb' 15 5) (w.extractLsb' 20 5) (w.extractLsb' 25 2) (w.extractLsb' 12 2))
  | 2 => .ok (.vfmul (w.extractLsb' 7 5) (w.extractLsb' 15 5) (w.extractLsb' 20 5) (w.extractLsb' 25 2) (w.extractLsb' 12 2))
  | 3 => .ok (.vfma (w.extractLsb' 7 5) (w.extractLsb' 15 5) (w.extractLsb' 20 5) (w.extractLsb' 25 2) (w.extractLsb' 12 2))
  | 4 => .ok (.vfms (w.extractLsb' 7 5) (w.extractLsb' 15 5) (w.extractLsb' 20 5) (w.extractLsb' 25 2) (w.extractLsb' 12 2))
  | 5 => .ok (.vfdiv (w.extractLsb' 7 5) (w.extractLsb' 15 5) (w.extractLsb' 20 5) (w.extractLsb' 25 2) (w.extractLsb' 12 2))
  | 6 => if w.extractLsb' 20 5 = 0#5 then .ok (.vfsqrt (w.extractLsb' 7 5) (w.extractLsb' 15 5) (w.extractLsb' 25 2) (w.extractLsb' 12 2)) else .error (.reservedField "VFSQRT")
  | 7 => .ok (.vfmin (w.extractLsb' 7 5) (w.extractLsb' 15 5) (w.extractLsb' 20 5) (w.extractLsb' 25 2) (w.extractLsb' 12 2))
  | 8 => .ok (.vfmax (w.extractLsb' 7 5) (w.extractLsb' 15 5) (w.extractLsb' 20 5) (w.extractLsb' 25 2) (w.extractLsb' 12 2))
  | 9 => if w.extractLsb' 20 5 = 0#5 then .ok (.vfabs (w.extractLsb' 7 5) (w.extractLsb' 15 5) (w.extractLsb' 25 2) (w.extractLsb' 12 2)) else .error (.reservedField "VFABS")
  | 10 => if w.extractLsb' 20 5 = 0#5 then .ok (.vfneg (w.extractLsb' 7 5) (w.extractLsb' 15 5) (w.extractLsb' 25 2) (w.extractLsb' 12 2)) else .error (.reservedField "VFNEG")
  | 11 => if w.extractLsb' 20 5 = 0#5 then .ok (.vfexp2 (w.extractLsb' 7 5) (w.extractLsb' 15 5) (w.extractLsb' 25 2) (w.extractLsb' 12 2)) else .error (.reservedField "VFEXP2")
  | 12 => if w.extractLsb' 20 5 = 0#5 then .ok (.vflog2 (w.extractLsb' 7 5) (w.extractLsb' 15 5) (w.extractLsb' 25 2) (w.extractLsb' 12 2)) else .error (.reservedField "VFLOG2")
  | 13 => if w.extractLsb' 20 5 = 0#5 then .ok (.vfrcp (w.extractLsb' 7 5) (w.extractLsb' 15 5) (w.extractLsb' 25 2) (w.extractLsb' 12 2)) else .error (.reservedField "VFRCP")
  | 14 => if w.extractLsb' 10 2 = 0#2 then .ok (.vfcmpeq (w.extractLsb' 7 3) (w.extractLsb' 15 5) (w.extractLsb' 20 5) (w.extractLsb' 25 2) (w.extractLsb' 12 2)) else .error (.reservedField "VFCMPEQ")
  | 15 => if w.extractLsb' 10 2 = 0#2 then .ok (.vfcmplt (w.extractLsb' 7 3) (w.extractLsb' 15 5) (w.extractLsb' 20 5) (w.extractLsb' 25 2) (w.extractLsb' 12 2)) else .error (.reservedField "VFCMPLT")
  | 16 => if w.extractLsb' 10 2 = 0#2 then .ok (.vfcmple (w.extractLsb' 7 3) (w.extractLsb' 15 5) (w.extractLsb' 20 5) (w.extractLsb' 25 2) (w.extractLsb' 12 2)) else .error (.reservedField "VFCMPLE")
  | 17 => if w.extractLsb' 10 2 = 0#2 then .ok (.vfcmpun (w.extractLsb' 7 3) (w.extractLsb' 15 5) (w.extractLsb' 20 5) (w.extractLsb' 25 2) (w.extractLsb' 12 2)) else .error (.reservedField "VFCMPUN")
  | 18 => if w.extractLsb' 20 5 = 0#5 then .ok (.vfredsum (w.extractLsb' 7 5) (w.extractLsb' 15 5) (w.extractLsb' 25 2) (w.extractLsb' 12 2)) else .error (.reservedField "VFREDSUM")
  | 19 => if w.extractLsb' 20 5 = 0#5 then .ok (.vfredmax (w.extractLsb' 7 5) (w.extractLsb' 15 5) (w.extractLsb' 25 2) (w.extractLsb' 12 2)) else .error (.reservedField "VFREDMAX")
  | 20 => if w.extractLsb' 20 5 = 0#5 then .ok (.vfredmin (w.extractLsb' 7 5) (w.extractLsb' 15 5) (w.extractLsb' 25 2) (w.extractLsb' 12 2)) else .error (.reservedField "VFREDMIN")
  | 21 => .ok (.vfcvt (w.extractLsb' 7 5) (w.extractLsb' 15 5) (w.extractLsb' 25 2) (w.extractLsb' 20 5) (w.extractLsb' 12 2))
  | 22 => .ok (.vfcvti (w.extractLsb' 7 5) (w.extractLsb' 15 5) (w.extractLsb' 25 2) (w.extractLsb' 20 5) (w.extractLsb' 12 2))
  | 23 => .ok (.vicvtf (w.extractLsb' 7 5) (w.extractLsb' 15 5) (w.extractLsb' 25 2) (w.extractLsb' 20 5) (w.extractLsb' 12 2))
  | 24 => .ok (.vfwmacc (w.extractLsb' 7 5) (w.extractLsb' 15 5) (w.extractLsb' 20 5) (w.extractLsb' 25 2) (w.extractLsb' 12 2))
  | 25 => if w.extractLsb' 20 5 = 0#5 then .ok (.vfclass (w.extractLsb' 7 5) (w.extractLsb' 15 5) (w.extractLsb' 25 2) (w.extractLsb' 12 2)) else .error (.reservedField "VFCLASS")
  | 26 => if w.extractLsb' 20 5 = 0#5 then .ok (.vfround (w.extractLsb' 7 5) (w.extractLsb' 15 5) (w.extractLsb' 25 2) (w.extractLsb' 12 2)) else .error (.reservedField "VFROUND")
  | 27 => .ok (.vfscale (w.extractLsb' 7 5) (w.extractLsb' 15 5) (w.extractLsb' 20 5) (w.extractLsb' 25 2) (w.extractLsb' 12 2))
  | 28 => if w.extractLsb' 20 5 = 0#5 then .ok (.vfrsqrt (w.extractLsb' 7 5) (w.extractLsb' 15 5) (w.extractLsb' 25 2) (w.extractLsb' 12 2)) else .error (.reservedField "VFRSQRT")
  | 29 => .ok (.vfmaxnum (w.extractLsb' 7 5) (w.extractLsb' 15 5) (w.extractLsb' 20 5) (w.extractLsb' 25 2) (w.extractLsb' 12 2))
  | 30 => if w.extractLsb' 23 2 = 0#2 then .ok (.vmoviF (w.extractLsb' 7 5) (w.extractLsb' 25 2) (w.extractLsb' 15 8) (w.extractLsb' 12 2)) else .error (.reservedField "VMOVI_F")
  | 31 => .ok (.vfminnum (w.extractLsb' 7 5) (w.extractLsb' 15 5) (w.extractLsb' 20 5) (w.extractLsb' 25 2) (w.extractLsb' 12 2))
  | _ => .error (.reservedSelector "custom1")

/-- R39: et [14] tells the integer from the floating column of custom-1. -/
noncomputable def decodeCustom1 (w : BitVec 32) : Except DecodeError Instr :=
  if w.extractLsb' 14 1 = 0#1 then decodeCustom1Int w else decodeCustom1Float w

/-- R27: opcode 0x2F, funct3 010. -/
noncomputable def decodeAmo2 (w : BitVec 32) : Except DecodeError Instr :=
  match (w.extractLsb' 27 5).toNat with
  | 0 => .ok (.amoaddW (w.extractLsb' 7 5) (w.extractLsb' 15 5) (w.extractLsb' 20 5) (w.extractLsb' 26 1) (w.extractLsb' 25 1))
  | 1 => .ok (.amoswapW (w.extractLsb' 7 5) (w.extractLsb' 15 5) (w.extractLsb' 20 5) (w.extractLsb' 26 1) (w.extractLsb' 25 1))
  | 2 => if w.extractLsb' 20 5 = 0#5 then .ok (.lrW (w.extractLsb' 7 5) (w.extractLsb' 15 5) (w.extractLsb' 26 1) (w.extractLsb' 25 1)) else .error (.reservedField "LR_W")
  | 3 => .ok (.scW (w.extractLsb' 7 5) (w.extractLsb' 15 5) (w.extractLsb' 20 5) (w.extractLsb' 26 1) (w.extractLsb' 25 1))
  | 4 => .ok (.amoxorW (w.extractLsb' 7 5) (w.extractLsb' 15 5) (w.extractLsb' 20 5) (w.extractLsb' 26 1) (w.extractLsb' 25 1))
  | 8 => .ok (.amoorW (w.extractLsb' 7 5) (w.extractLsb' 15 5) (w.extractLsb' 20 5) (w.extractLsb' 26 1) (w.extractLsb' 25 1))
  | 12 => .ok (.amoandW (w.extractLsb' 7 5) (w.extractLsb' 15 5) (w.extractLsb' 20 5) (w.extractLsb' 26 1) (w.extractLsb' 25 1))
  | 16 => .ok (.amominW (w.extractLsb' 7 5) (w.extractLsb' 15 5) (w.extractLsb' 20 5) (w.extractLsb' 26 1) (w.extractLsb' 25 1))
  | 20 => .ok (.amomaxW (w.extractLsb' 7 5) (w.extractLsb' 15 5) (w.extractLsb' 20 5) (w.extractLsb' 26 1) (w.extractLsb' 25 1))
  | 24 => .ok (.amominuW (w.extractLsb' 7 5) (w.extractLsb' 15 5) (w.extractLsb' 20 5) (w.extractLsb' 26 1) (w.extractLsb' 25 1))
  | 28 => .ok (.amomaxuW (w.extractLsb' 7 5) (w.extractLsb' 15 5) (w.extractLsb' 20 5) (w.extractLsb' 26 1) (w.extractLsb' 25 1))
  | _ => .error (.reservedSelector "amo")

/-- R27: opcode 0x2F, funct3 011. -/
noncomputable def decodeAmo3 (w : BitVec 32) : Except DecodeError Instr :=
  match (w.extractLsb' 27 5).toNat with
  | 0 => .ok (.amoaddD (w.extractLsb' 7 5) (w.extractLsb' 15 5) (w.extractLsb' 20 5) (w.extractLsb' 26 1) (w.extractLsb' 25 1))
  | 1 => .ok (.amoswapD (w.extractLsb' 7 5) (w.extractLsb' 15 5) (w.extractLsb' 20 5) (w.extractLsb' 26 1) (w.extractLsb' 25 1))
  | 2 => if w.extractLsb' 20 5 = 0#5 then .ok (.lrD (w.extractLsb' 7 5) (w.extractLsb' 15 5) (w.extractLsb' 26 1) (w.extractLsb' 25 1)) else .error (.reservedField "LR_D")
  | 3 => .ok (.scD (w.extractLsb' 7 5) (w.extractLsb' 15 5) (w.extractLsb' 20 5) (w.extractLsb' 26 1) (w.extractLsb' 25 1))
  | 4 => .ok (.amoxorD (w.extractLsb' 7 5) (w.extractLsb' 15 5) (w.extractLsb' 20 5) (w.extractLsb' 26 1) (w.extractLsb' 25 1))
  | 8 => .ok (.amoorD (w.extractLsb' 7 5) (w.extractLsb' 15 5) (w.extractLsb' 20 5) (w.extractLsb' 26 1) (w.extractLsb' 25 1))
  | 12 => .ok (.amoandD (w.extractLsb' 7 5) (w.extractLsb' 15 5) (w.extractLsb' 20 5) (w.extractLsb' 26 1) (w.extractLsb' 25 1))
  | 16 => .ok (.amominD (w.extractLsb' 7 5) (w.extractLsb' 15 5) (w.extractLsb' 20 5) (w.extractLsb' 26 1) (w.extractLsb' 25 1))
  | 20 => .ok (.amomaxD (w.extractLsb' 7 5) (w.extractLsb' 15 5) (w.extractLsb' 20 5) (w.extractLsb' 26 1) (w.extractLsb' 25 1))
  | 24 => .ok (.amominuD (w.extractLsb' 7 5) (w.extractLsb' 15 5) (w.extractLsb' 20 5) (w.extractLsb' 26 1) (w.extractLsb' 25 1))
  | 28 => .ok (.amomaxuD (w.extractLsb' 7 5) (w.extractLsb' 15 5) (w.extractLsb' 20 5) (w.extractLsb' 26 1) (w.extractLsb' 25 1))
  | _ => .error (.reservedSelector "amo")

/-- R27: funct3 selects within opcode 0x2F. -/
noncomputable def decodeAmo (w : BitVec 32) : Except DecodeError Instr :=
  match (w.extractLsb' 12 3).toNat with
  | 2 => decodeAmo2 w
  | 3 => decodeAmo3 w
  | _ => .error (.reservedSelector "amo")

/-- R27: opcode 0x33, funct3 000. -/
noncomputable def decodeOp0 (w : BitVec 32) : Except DecodeError Instr :=
  match (w.extractLsb' 25 7).toNat with
  | 0 => .ok (.add (w.extractLsb' 7 5) (w.extractLsb' 15 5) (w.extractLsb' 20 5))
  | 1 => .ok (.mul (w.extractLsb' 7 5) (w.extractLsb' 15 5) (w.extractLsb' 20 5))
  | 32 => .ok (.sub (w.extractLsb' 7 5) (w.extractLsb' 15 5) (w.extractLsb' 20 5))
  | _ => .error (.reservedSelector "op")

/-- R27: opcode 0x33, funct3 001. -/
noncomputable def decodeOp1 (w : BitVec 32) : Except DecodeError Instr :=
  match (w.extractLsb' 25 7).toNat with
  | 0 => .ok (.sll (w.extractLsb' 7 5) (w.extractLsb' 15 5) (w.extractLsb' 20 5))
  | 1 => .ok (.mulh (w.extractLsb' 7 5) (w.extractLsb' 15 5) (w.extractLsb' 20 5))
  | _ => .error (.reservedSelector "op")

/-- R27: opcode 0x33, funct3 010. -/
noncomputable def decodeOp2 (w : BitVec 32) : Except DecodeError Instr :=
  match (w.extractLsb' 25 7).toNat with
  | 0 => .ok (.slt (w.extractLsb' 7 5) (w.extractLsb' 15 5) (w.extractLsb' 20 5))
  | 1 => .ok (.mulhsu (w.extractLsb' 7 5) (w.extractLsb' 15 5) (w.extractLsb' 20 5))
  | _ => .error (.reservedSelector "op")

/-- R27: opcode 0x33, funct3 011. -/
noncomputable def decodeOp3 (w : BitVec 32) : Except DecodeError Instr :=
  match (w.extractLsb' 25 7).toNat with
  | 0 => .ok (.sltu (w.extractLsb' 7 5) (w.extractLsb' 15 5) (w.extractLsb' 20 5))
  | 1 => .ok (.mulhu (w.extractLsb' 7 5) (w.extractLsb' 15 5) (w.extractLsb' 20 5))
  | _ => .error (.reservedSelector "op")

/-- R27: opcode 0x33, funct3 100. -/
noncomputable def decodeOp4 (w : BitVec 32) : Except DecodeError Instr :=
  match (w.extractLsb' 25 7).toNat with
  | 0 => .ok (.xor (w.extractLsb' 7 5) (w.extractLsb' 15 5) (w.extractLsb' 20 5))
  | 1 => .ok (.div (w.extractLsb' 7 5) (w.extractLsb' 15 5) (w.extractLsb' 20 5))
  | _ => .error (.reservedSelector "op")

/-- R27: opcode 0x33, funct3 101. -/
noncomputable def decodeOp5 (w : BitVec 32) : Except DecodeError Instr :=
  match (w.extractLsb' 25 7).toNat with
  | 0 => .ok (.srl (w.extractLsb' 7 5) (w.extractLsb' 15 5) (w.extractLsb' 20 5))
  | 1 => .ok (.divu (w.extractLsb' 7 5) (w.extractLsb' 15 5) (w.extractLsb' 20 5))
  | 32 => .ok (.sra (w.extractLsb' 7 5) (w.extractLsb' 15 5) (w.extractLsb' 20 5))
  | _ => .error (.reservedSelector "op")

/-- R27: opcode 0x33, funct3 110. -/
noncomputable def decodeOp6 (w : BitVec 32) : Except DecodeError Instr :=
  match (w.extractLsb' 25 7).toNat with
  | 0 => .ok (.or (w.extractLsb' 7 5) (w.extractLsb' 15 5) (w.extractLsb' 20 5))
  | 1 => .ok (.rem (w.extractLsb' 7 5) (w.extractLsb' 15 5) (w.extractLsb' 20 5))
  | _ => .error (.reservedSelector "op")

/-- R27: opcode 0x33, funct3 111. -/
noncomputable def decodeOp7 (w : BitVec 32) : Except DecodeError Instr :=
  match (w.extractLsb' 25 7).toNat with
  | 0 => .ok (.and (w.extractLsb' 7 5) (w.extractLsb' 15 5) (w.extractLsb' 20 5))
  | 1 => .ok (.remu (w.extractLsb' 7 5) (w.extractLsb' 15 5) (w.extractLsb' 20 5))
  | _ => .error (.reservedSelector "op")

/-- R27: funct3 selects within opcode 0x33. -/
noncomputable def decodeOp (w : BitVec 32) : Except DecodeError Instr :=
  match (w.extractLsb' 12 3).toNat with
  | 0 => decodeOp0 w
  | 1 => decodeOp1 w
  | 2 => decodeOp2 w
  | 3 => decodeOp3 w
  | 4 => decodeOp4 w
  | 5 => decodeOp5 w
  | 6 => decodeOp6 w
  | 7 => decodeOp7 w
  | _ => .error (.reservedSelector "op")

/-- R27: the one instruction of opcode 0x37. -/
noncomputable def decodeLui (w : BitVec 32) : Except DecodeError Instr :=
  .ok (.lui (w.extractLsb' 7 5) (w.extractLsb' 12 20))

/-- R27: opcode 0x3B, funct3 000. -/
noncomputable def decodeOp320 (w : BitVec 32) : Except DecodeError Instr :=
  match (w.extractLsb' 25 7).toNat with
  | 0 => .ok (.addw (w.extractLsb' 7 5) (w.extractLsb' 15 5) (w.extractLsb' 20 5))
  | 1 => .ok (.mulw (w.extractLsb' 7 5) (w.extractLsb' 15 5) (w.extractLsb' 20 5))
  | 32 => .ok (.subw (w.extractLsb' 7 5) (w.extractLsb' 15 5) (w.extractLsb' 20 5))
  | _ => .error (.reservedSelector "op32")

/-- R27: opcode 0x3B, funct3 101. -/
noncomputable def decodeOp325 (w : BitVec 32) : Except DecodeError Instr :=
  match (w.extractLsb' 25 7).toNat with
  | 0 => .ok (.srlw (w.extractLsb' 7 5) (w.extractLsb' 15 5) (w.extractLsb' 20 5))
  | 1 => .ok (.divuw (w.extractLsb' 7 5) (w.extractLsb' 15 5) (w.extractLsb' 20 5))
  | 32 => .ok (.sraw (w.extractLsb' 7 5) (w.extractLsb' 15 5) (w.extractLsb' 20 5))
  | _ => .error (.reservedSelector "op32")

/-- R27: funct3 selects within opcode 0x3B. -/
noncomputable def decodeOp32 (w : BitVec 32) : Except DecodeError Instr :=
  match (w.extractLsb' 12 3).toNat with
  | 0 => decodeOp320 w
  | 1 => if w.extractLsb' 25 7 = 0#7 then .ok (.sllw (w.extractLsb' 7 5) (w.extractLsb' 15 5) (w.extractLsb' 20 5)) else .error (.reservedField "SLLW")
  | 4 => if w.extractLsb' 25 7 = 1#7 then .ok (.divw (w.extractLsb' 7 5) (w.extractLsb' 15 5) (w.extractLsb' 20 5)) else .error (.reservedField "DIVW")
  | 5 => decodeOp325 w
  | 6 => if w.extractLsb' 25 7 = 1#7 then .ok (.remw (w.extractLsb' 7 5) (w.extractLsb' 15 5) (w.extractLsb' 20 5)) else .error (.reservedField "REMW")
  | 7 => if w.extractLsb' 25 7 = 1#7 then .ok (.remuw (w.extractLsb' 7 5) (w.extractLsb' 15 5) (w.extractLsb' 20 5)) else .error (.reservedField "REMUW")
  | _ => .error (.reservedSelector "op32")

/-- R40: opcode 0x5B, funct3 000. -/
noncomputable def decodeCustom20 (w : BitVec 32) : Except DecodeError Instr :=
  match (w.extractLsb' 27 5).toNat with
  | 0 => if w.extractLsb' 20 5 = 0#5 then .ok (.vbcast (w.extractLsb' 7 5) (w.extractLsb' 15 5) (w.extractLsb' 25 2)) else .error (.reservedField "VBCAST")
  | 1 => .ok (.vext (w.extractLsb' 7 5) (w.extractLsb' 15 5) (w.extractLsb' 20 5) (w.extractLsb' 25 2))
  | 2 => .ok (.vins (w.extractLsb' 7 5) (w.extractLsb' 15 5) (w.extractLsb' 20 5) (w.extractLsb' 25 2))
  | 3 => .ok (.vperm (w.extractLsb' 7 5) (w.extractLsb' 15 5) (w.extractLsb' 20 5) (w.extractLsb' 25 2))
  | 4 => .ok (.vslideup (w.extractLsb' 7 5) (w.extractLsb' 15 5) (w.extractLsb' 20 5) (w.extractLsb' 25 2))
  | 5 => .ok (.vslidedn (w.extractLsb' 7 5) (w.extractLsb' 15 5) (w.extractLsb' 20 5) (w.extractLsb' 25 2))
  | 6 => .ok (.vzip (w.extractLsb' 7 5) (w.extractLsb' 15 5) (w.extractLsb' 20 5) (w.extractLsb' 25 2))
  | 7 => if w.extractLsb' 20 5 = 0#5 then .ok (.vunzip (w.extractLsb' 7 5) (w.extractLsb' 15 5) (w.extractLsb' 25 2)) else .error (.reservedField "VUNZIP")
  | 8 => if w.extractLsb' 20 5 = 0#5 then .ok (.vrev (w.extractLsb' 7 5) (w.extractLsb' 15 5) (w.extractLsb' 25 2)) else .error (.reservedField "VREV")
  | 9 => if w.extractLsb' 23 2 = 0#2 then .ok (.vcompress (w.extractLsb' 7 5) (w.extractLsb' 15 5) (w.extractLsb' 20 3) (w.extractLsb' 25 2)) else .error (.reservedField "VCOMPRESS")
  | 10 => if w.extractLsb' 23 4 = 0#4 ∧ w.extractLsb' 18 2 = 0#2 ∧ w.extractLsb' 10 2 = 0#2 then .ok (.pand (w.extractLsb' 7 3) (w.extractLsb' 15 3) (w.extractLsb' 20 3)) else .error (.reservedField "PAND")
  | 11 => if w.extractLsb' 23 4 = 0#4 ∧ w.extractLsb' 18 2 = 0#2 ∧ w.extractLsb' 10 2 = 0#2 then .ok (.por (w.extractLsb' 7 3) (w.extractLsb' 15 3) (w.extractLsb' 20 3)) else .error (.reservedField "POR")
  | 12 => if w.extractLsb' 23 4 = 0#4 ∧ w.extractLsb' 18 2 = 0#2 ∧ w.extractLsb' 10 2 = 0#2 then .ok (.pxor (w.extractLsb' 7 3) (w.extractLsb' 15 3) (w.extractLsb' 20 3)) else .error (.reservedField "PXOR")
  | 13 => if w.extractLsb' 18 9 = 0#9 ∧ w.extractLsb' 10 2 = 0#2 then .ok (.pnot (w.extractLsb' 7 3) (w.extractLsb' 15 3)) else .error (.reservedField "PNOT")
  | 14 => if w.extractLsb' 10 2 = 0#2 then .ok (.pwhile (w.extractLsb' 7 3) (w.extractLsb' 15 5) (w.extractLsb' 20 5) (w.extractLsb' 25 2)) else .error (.reservedField "PWHILE")
  | 15 => if w.extractLsb' 18 7 = 0#7 then .ok (.pcount (w.extractLsb' 7 5) (w.extractLsb' 15 3) (w.extractLsb' 25 2)) else .error (.reservedField "PCOUNT")
  | 16 => if w.extractLsb' 18 7 = 0#7 then .ok (.pfirst (w.extractLsb' 7 5) (w.extractLsb' 15 3) (w.extractLsb' 25 2)) else .error (.reservedField "PFIRST")
  | 17 => if w.extractLsb' 18 2 = 0#2 then .ok (.vqred (w.extractLsb' 7 5) (w.extractLsb' 15 3) (w.extractLsb' 20 5) (w.extractLsb' 25 2)) else .error (.reservedField "VQRED")
  | 18 => if w.extractLsb' 20 5 = 0#5 then .ok (.vmv (w.extractLsb' 7 5) (w.extractLsb' 15 5) (w.extractLsb' 25 2)) else .error (.reservedField "VMV")
  | _ => .error (.reservedSelector "custom2")

/-- R40: opcode 0x5B, funct3 001. -/
def decodeCustom21 (w : BitVec 32) : Except DecodeError Instr :=
  match (w.extractLsb' 25 3).toNat with
  | 0 => if w.extractLsb' 20 5 = 0#5 then .ok (.mcfg (w.extractLsb' 7 5) (w.extractLsb' 15 5) (w.extractLsb' 28 4)) else .error (.reservedField "MCFG")
  | 1 => if w.extractLsb' 10 2 = 0#2 then .ok (.mma (w.extractLsb' 7 3) (w.extractLsb' 15 5) (w.extractLsb' 20 5) (w.extractLsb' 28 4)) else .error (.reservedField "MMA")
  | 2 => if w.extractLsb' 10 2 = 0#2 then .ok (.mmas (w.extractLsb' 7 3) (w.extractLsb' 15 5) (w.extractLsb' 20 5) (w.extractLsb' 28 4)) else .error (.reservedField "MMAS")
  | 3 => if w.extractLsb' 15 10 = 0#10 ∧ w.extractLsb' 10 2 = 0#2 then .ok (.mzero (w.extractLsb' 7 3) (w.extractLsb' 28 4)) else .error (.reservedField "MZERO")
  | 4 => if w.extractLsb' 10 2 = 0#2 then .ok (.mst (w.extractLsb' 7 3) (w.extractLsb' 15 5) (w.extractLsb' 20 5) (w.extractLsb' 28 4)) else .error (.reservedField "MST")
  | 5 => if w.extractLsb' 10 2 = 0#2 then .ok (.mld (w.extractLsb' 7 3) (w.extractLsb' 15 5) (w.extractLsb' 20 5) (w.extractLsb' 28 4)) else .error (.reservedField "MLD")
  | 6 => if w.extractLsb' 18 2 = 0#2 then .ok (.mrd (w.extractLsb' 7 5) (w.extractLsb' 15 3) (w.extractLsb' 20 5) (w.extractLsb' 28 4)) else .error (.reservedField "MRD")
  | 7 => if w.extractLsb' 10 2 = 0#2 then .ok (.mrec (w.extractLsb' 7 3) (w.extractLsb' 15 5) (w.extractLsb' 20 5) (w.extractLsb' 28 4)) else .error (.reservedField "MREC")
  | _ => .error (.reservedSelector "custom2")

/-- R40: opcode 0x5B, funct3 010. -/
noncomputable def decodeCustom22 (w : BitVec 32) : Except DecodeError Instr :=
  match (w.extractLsb' 25 7).toNat with
  | 0 => if w.extractLsb' 20 5 = 0#5 then .ok (.mprog (w.extractLsb' 7 5) (w.extractLsb' 15 5)) else .error (.reservedField "MPROG")
  | 1 => if w.extractLsb' 10 2 = 0#2 then .ok (.mwr (w.extractLsb' 7 3) (w.extractLsb' 15 5) (w.extractLsb' 20 5)) else .error (.reservedField "MWR")
  | 16 => if w.extractLsb' 9 3 = 0#3 then .ok (.cvinit (w.extractLsb' 7 2) (w.extractLsb' 15 5) (w.extractLsb' 20 5)) else .error (.reservedField "CVINIT")
  | 17 => if w.extractLsb' 10 2 = 0#2 then .ok (.cvprobe (w.extractLsb' 7 3) (w.extractLsb' 15 5) (w.extractLsb' 20 5)) else .error (.reservedField "CVPROBE")
  | 18 => if w.extractLsb' 10 2 = 0#2 then .ok (.cvcommit (w.extractLsb' 7 3) (w.extractLsb' 15 5) (w.extractLsb' 20 5)) else .error (.reservedField "CVCOMMIT")
  | 19 => if w.extractLsb' 17 8 = 0#8 then .ok (.cvgain (w.extractLsb' 7 5) (w.extractLsb' 15 2)) else .error (.reservedField "CVGAIN")
  | 20 => if w.extractLsb' 15 10 = 0#10 ∧ w.extractLsb' 9 3 = 0#3 then .ok (.cvclr (w.extractLsb' 7 2)) else .error (.reservedField "CVCLR")
  | 21 => if w.extractLsb' 17 3 = 0#3 then .ok (.cvsel (w.extractLsb' 7 5) (w.extractLsb' 15 2) (w.extractLsb' 20 5)) else .error (.reservedField "CVSEL")
  | 22 => if w.extractLsb' 20 5 = 0#5 ∧ w.extractLsb' 9 3 = 0#3 then .ok (.cvsave (w.extractLsb' 7 2) (w.extractLsb' 15 5)) else .error (.reservedField "CVSAVE")
  | 23 => if w.extractLsb' 20 5 = 0#5 ∧ w.extractLsb' 9 3 = 0#3 then .ok (.cvrest (w.extractLsb' 7 2) (w.extractLsb' 15 5)) else .error (.reservedField "CVREST")
  | _ => .error (.reservedSelector "custom2")

/-- R40: opcode 0x5B, funct3 011. -/
noncomputable def decodeCustom23 (w : BitVec 32) : Except DecodeError Instr :=
  match (w.extractLsb' 25 7).toNat with
  | 0 => .ok (.erun (w.extractLsb' 7 5) (w.extractLsb' 15 5) (w.extractLsb' 20 5))
  | 1 => if w.extractLsb' 20 5 = 0#5 then .ok (.ewait (w.extractLsb' 7 5) (w.extractLsb' 15 5)) else .error (.reservedField "EWAIT")
  | 2 => if w.extractLsb' 20 5 = 0#5 then .ok (.estat (w.extractLsb' 7 5) (w.extractLsb' 15 5)) else .error (.reservedField "ESTAT")
  | 8 => if w.extractLsb' 20 5 = 0#5 ∧ w.extractLsb' 10 2 = 0#2 then .ok (.qpush (w.extractLsb' 7 3) (w.extractLsb' 15 5)) else .error (.reservedField "QPUSH")
  | 9 => if w.extractLsb' 18 7 = 0#7 then .ok (.qpop (w.extractLsb' 7 5) (w.extractLsb' 15 3)) else .error (.reservedField "QPOP")
  | 10 => if w.extractLsb' 20 5 = 0#5 ∧ w.extractLsb' 10 2 = 0#2 then .ok (.qpushv (w.extractLsb' 7 3) (w.extractLsb' 15 5)) else .error (.reservedField "QPUSHV")
  | 11 => if w.extractLsb' 18 7 = 0#7 then .ok (.qpopv (w.extractLsb' 7 5) (w.extractLsb' 15 3)) else .error (.reservedField "QPOPV")
  | 12 => if w.extractLsb' 18 7 = 0#7 then .ok (.qstat (w.extractLsb' 7 5) (w.extractLsb' 15 3)) else .error (.reservedField "QSTAT")
  | 13 => if w.extractLsb' 20 5 = 0#5 ∧ w.extractLsb' 10 2 = 0#2 then .ok (.qbind (w.extractLsb' 7 3) (w.extractLsb' 15 5)) else .error (.reservedField "QBIND")
  | _ => .error (.reservedSelector "custom2")

/-- R40: funct3 selects within opcode 0x5B. -/
noncomputable def decodeCustom2 (w : BitVec 32) : Except DecodeError Instr :=
  match (w.extractLsb' 12 3).toNat with
  | 0 => decodeCustom20 w
  | 1 => decodeCustom21 w
  | 2 => decodeCustom22 w
  | 3 => decodeCustom23 w
  | _ => .error (.reservedSelector "custom2")

/-- R27: funct3 selects within opcode 0x63. -/
noncomputable def decodeBranch (w : BitVec 32) : Except DecodeError Instr :=
  match (w.extractLsb' 12 3).toNat with
  | 0 => .ok (.beq (w.extractLsb' 15 5) (w.extractLsb' 20 5) (w.extractLsb' 31 1 ++ w.extractLsb' 7 1 ++ w.extractLsb' 25 6 ++ w.extractLsb' 8 4))
  | 1 => .ok (.bne (w.extractLsb' 15 5) (w.extractLsb' 20 5) (w.extractLsb' 31 1 ++ w.extractLsb' 7 1 ++ w.extractLsb' 25 6 ++ w.extractLsb' 8 4))
  | 4 => .ok (.blt (w.extractLsb' 15 5) (w.extractLsb' 20 5) (w.extractLsb' 31 1 ++ w.extractLsb' 7 1 ++ w.extractLsb' 25 6 ++ w.extractLsb' 8 4))
  | 5 => .ok (.bge (w.extractLsb' 15 5) (w.extractLsb' 20 5) (w.extractLsb' 31 1 ++ w.extractLsb' 7 1 ++ w.extractLsb' 25 6 ++ w.extractLsb' 8 4))
  | 6 => .ok (.bltu (w.extractLsb' 15 5) (w.extractLsb' 20 5) (w.extractLsb' 31 1 ++ w.extractLsb' 7 1 ++ w.extractLsb' 25 6 ++ w.extractLsb' 8 4))
  | 7 => .ok (.bgeu (w.extractLsb' 15 5) (w.extractLsb' 20 5) (w.extractLsb' 31 1 ++ w.extractLsb' 7 1 ++ w.extractLsb' 25 6 ++ w.extractLsb' 8 4))
  | _ => .error (.reservedSelector "branch")

/-- R27: funct3 selects within opcode 0x67. -/
noncomputable def decodeJalr (w : BitVec 32) : Except DecodeError Instr :=
  match (w.extractLsb' 12 3).toNat with
  | 0 => .ok (.jalr (w.extractLsb' 7 5) (w.extractLsb' 15 5) (w.extractLsb' 20 12))
  | _ => .error (.reservedSelector "jalr")

/-- R27: the one instruction of opcode 0x6F. -/
noncomputable def decodeJal (w : BitVec 32) : Except DecodeError Instr :=
  .ok (.jal (w.extractLsb' 7 5) (w.extractLsb' 31 1 ++ w.extractLsb' 12 8 ++ w.extractLsb' 20 1 ++ w.extractLsb' 21 10))

/-- R27: the whole words sret, mret and wfi, and sfence.vma, of SYSTEM funct3 000. -/
noncomputable def decodeSystem0 (w : BitVec 32) : Except DecodeError Instr :=
  if w = 0x10200073#32 then .ok .sret
  else if w = 0x30200073#32 then .ok .mret
  else if w = 0x10500073#32 then .ok .wfi
  else if w.extractLsb' 25 7 = 9#7 ∧ w.extractLsb' 7 5 = 0#5 then .ok (.sfenceVma (w.extractLsb' 15 5) (w.extractLsb' 20 5)) else .error (.reservedField "SFENCE_VMA")

/-- R27: funct3 selects within opcode 0x73. -/
noncomputable def decodeSystem (w : BitVec 32) : Except DecodeError Instr :=
  match (w.extractLsb' 12 3).toNat with
  | 0 => decodeSystem0 w
  | 1 => .ok (.csrrw (w.extractLsb' 7 5) (w.extractLsb' 15 5) (w.extractLsb' 20 12))
  | 2 => .ok (.csrrs (w.extractLsb' 7 5) (w.extractLsb' 15 5) (w.extractLsb' 20 12))
  | 3 => .ok (.csrrc (w.extractLsb' 7 5) (w.extractLsb' 15 5) (w.extractLsb' 20 12))
  | 5 => .ok (.csrrwi (w.extractLsb' 7 5) (w.extractLsb' 20 12) (w.extractLsb' 15 5))
  | 6 => .ok (.csrrsi (w.extractLsb' 7 5) (w.extractLsb' 20 12) (w.extractLsb' 15 5))
  | 7 => .ok (.csrrci (w.extractLsb' 7 5) (w.extractLsb' 20 12) (w.extractLsb' 15 5))
  | _ => .error (.reservedSelector "system")

/-- R41: opcode 0x7B, funct3 000-011. -/
noncomputable def decodeCustom30 (w : BitVec 32) : Except DecodeError Instr :=
  match (w.extractLsb' 25 3).toNat with
  | 0 => .ok (.vld (w.extractLsb' 7 5) (w.extractLsb' 15 5) (w.extractLsb' 20 5) (w.extractLsb' 28 4) (w.extractLsb' 12 2))
  | 1 => .ok (.vst (w.extractLsb' 7 5) (w.extractLsb' 15 5) (w.extractLsb' 20 5) (w.extractLsb' 28 4) (w.extractLsb' 12 2))
  | 2 => .ok (.vldx (w.extractLsb' 7 5) (w.extractLsb' 15 5) (w.extractLsb' 20 5) (w.extractLsb' 28 4) (w.extractLsb' 12 2))
  | 3 => .ok (.vstx (w.extractLsb' 7 5) (w.extractLsb' 15 5) (w.extractLsb' 20 5) (w.extractLsb' 28 4) (w.extractLsb' 12 2))
  | 4 => .ok (.vldl (w.extractLsb' 7 5) (w.extractLsb' 15 5) (w.extractLsb' 20 5) (w.extractLsb' 28 4) (w.extractLsb' 12 2))
  | 5 => .ok (.vstl (w.extractLsb' 7 5) (w.extractLsb' 15 5) (w.extractLsb' 20 5) (w.extractLsb' 28 4) (w.extractLsb' 12 2))
  | 6 => .ok (.vldk (w.extractLsb' 7 5) (w.extractLsb' 15 5) (w.extractLsb' 20 5) (w.extractLsb' 28 4) (w.extractLsb' 12 2))
  | 7 => .ok (.vldt (w.extractLsb' 7 5) (w.extractLsb' 15 5) (w.extractLsb' 20 5) (w.extractLsb' 28 4) (w.extractLsb' 12 2))
  | _ => .error (.reservedSelector "custom3")

/-- R41: opcode 0x7B, funct3 100. -/
noncomputable def decodeCustom34 (w : BitVec 32) : Except DecodeError Instr :=
  match (w.extractLsb' 25 3).toNat with
  | 0 => .ok (.ldk (w.extractLsb' 7 5) (w.extractLsb' 15 5) (w.extractLsb' 20 5) (w.extractLsb' 28 4))
  | 1 => .ok (.ldt (w.extractLsb' 7 5) (w.extractLsb' 15 5) (w.extractLsb' 20 5) (w.extractLsb' 28 4))
  | 2 => if w.extractLsb' 11 1 = 0#1 then .ok (.rld (w.extractLsb' 7 4) (w.extractLsb' 15 5) (w.extractLsb' 20 5) (w.extractLsb' 28 4)) else .error (.reservedField "RLD")
  | 3 => .ok (.rst (w.extractLsb' 7 5) (w.extractLsb' 15 5) (w.extractLsb' 20 5) (w.extractLsb' 28 4))
  | 4 => .ok (.gst (w.extractLsb' 7 5) (w.extractLsb' 15 5) (w.extractLsb' 20 5) (w.extractLsb' 28 4))
  | 5 => .ok (.ksend (w.extractLsb' 7 5) (w.extractLsb' 15 5) (w.extractLsb' 20 5) (w.extractLsb' 28 4))
  | _ => .error (.reservedSelector "custom3")

/-- R41: opcode 0x7B, funct3 101. -/
noncomputable def decodeCustom35 (w : BitVec 32) : Except DecodeError Instr :=
  match (w.extractLsb' 27 5).toNat with
  | 0 => .ok (.famoAddBf16x2 (w.extractLsb' 7 5) (w.extractLsb' 15 5) (w.extractLsb' 20 5) (w.extractLsb' 25 2))
  | 1 => .ok (.famoAddF16x2 (w.extractLsb' 7 5) (w.extractLsb' 15 5) (w.extractLsb' 20 5) (w.extractLsb' 25 2))
  | 2 => .ok (.famoAddF32 (w.extractLsb' 7 5) (w.extractLsb' 15 5) (w.extractLsb' 20 5) (w.extractLsb' 25 2))
  | 3 => .ok (.famoAddF64 (w.extractLsb' 7 5) (w.extractLsb' 15 5) (w.extractLsb' 20 5) (w.extractLsb' 25 2))
  | 4 => .ok (.famoMinBf16x2 (w.extractLsb' 7 5) (w.extractLsb' 15 5) (w.extractLsb' 20 5) (w.extractLsb' 25 2))
  | 5 => .ok (.famoMinF16x2 (w.extractLsb' 7 5) (w.extractLsb' 15 5) (w.extractLsb' 20 5) (w.extractLsb' 25 2))
  | 6 => .ok (.famoMinF32 (w.extractLsb' 7 5) (w.extractLsb' 15 5) (w.extractLsb' 20 5) (w.extractLsb' 25 2))
  | 7 => .ok (.famoMinF64 (w.extractLsb' 7 5) (w.extractLsb' 15 5) (w.extractLsb' 20 5) (w.extractLsb' 25 2))
  | 8 => .ok (.famoMaxBf16x2 (w.extractLsb' 7 5) (w.extractLsb' 15 5) (w.extractLsb' 20 5) (w.extractLsb' 25 2))
  | 9 => .ok (.famoMaxF16x2 (w.extractLsb' 7 5) (w.extractLsb' 15 5) (w.extractLsb' 20 5) (w.extractLsb' 25 2))
  | 10 => .ok (.famoMaxF32 (w.extractLsb' 7 5) (w.extractLsb' 15 5) (w.extractLsb' 20 5) (w.extractLsb' 25 2))
  | 11 => .ok (.famoMaxF64 (w.extractLsb' 7 5) (w.extractLsb' 15 5) (w.extractLsb' 20 5) (w.extractLsb' 25 2))
  | 12 => if w.extractLsb' 20 1 = 0#1 ∧ w.extractLsb' 7 1 = 0#1 then .ok (.cas128 (w.extractLsb' 8 4) (w.extractLsb' 15 5) (w.extractLsb' 21 4) (w.extractLsb' 25 2)) else .error (.reservedField "CAS128")
  | 13 => .ok (.iaddD (w.extractLsb' 7 5) (w.extractLsb' 15 5) (w.extractLsb' 20 5) (w.extractLsb' 25 2))
  | 14 => .ok (.iaddW (w.extractLsb' 7 5) (w.extractLsb' 15 5) (w.extractLsb' 20 5) (w.extractLsb' 25 2))
  | 15 => .ok (.iorD (w.extractLsb' 7 5) (w.extractLsb' 15 5) (w.extractLsb' 20 5) (w.extractLsb' 25 2))
  | 16 => .ok (.iandD (w.extractLsb' 7 5) (w.extractLsb' 15 5) (w.extractLsb' 20 5) (w.extractLsb' 25 2))
  | _ => .error (.reservedSelector "custom3")

/-- R41: opcode 0x7B, funct3 110. -/
noncomputable def decodeCustom36 (w : BitVec 32) : Except DecodeError Instr :=
  match (w.extractLsb' 25 7).toNat with
  | 0 => if w.extractLsb' 15 10 = 0#10 then .ok (.fenceS (w.extractLsb' 7 5)) else .error (.reservedField "FENCE_S")
  | 1 => .ok (.sldAcq (w.extractLsb' 7 5) (w.extractLsb' 15 5) (w.extractLsb' 20 5))
  | 2 => .ok (.sstRel (w.extractLsb' 15 5) (w.extractLsb' 20 5) (w.extractLsb' 7 5))
  | 3 => if w.extractLsb' 15 10 = 0#10 then .ok (.barr (w.extractLsb' 7 5)) else .error (.reservedField "BARR")
  | 4 => if w.extractLsb' 15 10 = 0#10 then .ok (.bwait (w.extractLsb' 7 5)) else .error (.reservedField "BWAIT")
  | 5 => .ok (.bmask (w.extractLsb' 7 5) (w.extractLsb' 15 5) (w.extractLsb' 20 5))
  | 6 => if w.extractLsb' 15 10 = 0#10 then .ok (.tickrd (w.extractLsb' 7 5)) else .error (.reservedField "TICKRD")
  | 7 => if w.extractLsb' 20 5 = 0#5 then .ok (.tickw (w.extractLsb' 7 5) (w.extractLsb' 15 5)) else .error (.reservedField "TICKW")
  | 8 => if w.extractLsb' 15 10 = 0#10 then .ok (.sstep (w.extractLsb' 7 5)) else .error (.reservedField "SSTEP")
  | 9 => .ok (.abarr (w.extractLsb' 7 5) (w.extractLsb' 15 5) (w.extractLsb' 20 5))
  | 10 => if w.extractLsb' 20 5 = 0#5 then .ok (.abwait (w.extractLsb' 7 5) (w.extractLsb' 15 5)) else .error (.reservedField "ABWAIT")
  | 11 => .ok (.abinit (w.extractLsb' 7 5) (w.extractLsb' 15 5) (w.extractLsb' 20 5))
  | _ => .error (.reservedSelector "custom3")

/-- R41: opcode 0x7B, funct3 111. -/
noncomputable def decodeCustom37 (w : BitVec 32) : Except DecodeError Instr :=
  match (w.extractLsb' 25 7).toNat with
  | 0 => if w.extractLsb' 15 10 = 0#10 then .ok (.gopen (w.extractLsb' 7 5)) else .error (.reservedField "GOPEN")
  | 1 => if w.extractLsb' 20 5 = 0#5 then .ok (.gsel (w.extractLsb' 7 5) (w.extractLsb' 15 5)) else .error (.reservedField "GSEL")
  | 2 => .ok (.gcommit (w.extractLsb' 7 5) (w.extractLsb' 15 5) (w.extractLsb' 20 5))
  | 3 => if w.extractLsb' 20 5 = 0#5 then .ok (.gabort (w.extractLsb' 7 5) (w.extractLsb' 15 5)) else .error (.reservedField "GABORT")
  | 4 => .ok (.gstat (w.extractLsb' 7 5) (w.extractLsb' 15 5) (w.extractLsb' 20 5))
  | 8 => .ok (.tset (w.extractLsb' 7 5) (w.extractLsb' 15 5) (w.extractLsb' 20 5))
  | 9 => .ok (.tmode (w.extractLsb' 7 5) (w.extractLsb' 15 5) (w.extractLsb' 20 5))
  | 10 => .ok (.kbin (w.extractLsb' 7 5) (w.extractLsb' 15 5) (w.extractLsb' 20 5))
  | 11 => .ok (.jrnl (w.extractLsb' 7 5) (w.extractLsb' 15 5) (w.extractLsb' 20 5))
  | _ => .error (.reservedSelector "custom3")

/-- R41: funct3 selects within opcode 0x7B. -/
noncomputable def decodeCustom3 (w : BitVec 32) : Except DecodeError Instr :=
  match (w.extractLsb' 12 3).toNat with
  | 0 | 1 | 2 | 3 => decodeCustom30 w
  | 4 => decodeCustom34 w
  | 5 => decodeCustom35 w
  | 6 => decodeCustom36 w
  | 7 => decodeCustom37 w
  | _ => .error (.reservedSelector "custom3")

/-- R24: bits [6:0] select the major opcode; every other cell is illegal. -/
noncomputable def decodeMajor (w : BitVec 32) : Except DecodeError Instr :=
  match (w.extractLsb' 0 7).toNat with
  | 0x03 => decodeLoad w
  | 0x0B => decodeCustom0 w
  | 0x0F => decodeMiscMem w
  | 0x13 => decodeOpImm w
  | 0x17 => decodeAuipc w
  | 0x1B => decodeOpImm32 w
  | 0x23 => decodeStore w
  | 0x2B => decodeCustom1 w
  | 0x2F => decodeAmo w
  | 0x33 => decodeOp w
  | 0x37 => decodeLui w
  | 0x3B => decodeOp32 w
  | 0x5B => decodeCustom2 w
  | 0x63 => decodeBranch w
  | 0x67 => decodeJalr w
  | 0x6F => decodeJal w
  | 0x73 => decodeSystem w
  | 0x7B => decodeCustom3 w
  | _ => .error .illegalMajor

/-! ## Compressed forms (R34) -/

/-- R34: quadrant 00. -/
noncomputable def decodeC0 (w : BitVec 16) : Except DecodeError Instr :=
  match (w.extractLsb' 13 3).toNat with
  | 0 => .ok (.cAddi4spn (w.extractLsb' 2 3)
      (w.extractLsb' 7 4 ++ w.extractLsb' 11 2 ++ w.extractLsb' 5 1 ++ w.extractLsb' 6 1))
  | 2 => .ok (.cLw (w.extractLsb' 2 3) (w.extractLsb' 7 3)
      (w.extractLsb' 5 1 ++ w.extractLsb' 10 3 ++ w.extractLsb' 6 1))
  | 3 => .ok (.cLd (w.extractLsb' 2 3) (w.extractLsb' 7 3) (w.extractLsb' 5 2 ++ w.extractLsb' 10 3))
  | 6 => .ok (.cSw (w.extractLsb' 2 3) (w.extractLsb' 7 3)
      (w.extractLsb' 5 1 ++ w.extractLsb' 10 3 ++ w.extractLsb' 6 1))
  | 7 => .ok (.cSd (w.extractLsb' 2 3) (w.extractLsb' 7 3) (w.extractLsb' 5 2 ++ w.extractLsb' 10 3))
  | _ => .error .reservedCompressed

/-- R34: quadrant 01, funct3 100. -/
noncomputable def decodeC1Arith (w : BitVec 16) : Except DecodeError Instr :=
  match (w.extractLsb' 10 2).toNat with
  | 0 => .ok (.cSrli (w.extractLsb' 7 3) (w.extractLsb' 12 1 ++ w.extractLsb' 2 5))
  | 1 => .ok (.cSrai (w.extractLsb' 7 3) (w.extractLsb' 12 1 ++ w.extractLsb' 2 5))
  | 2 => .ok (.cAndi (w.extractLsb' 7 3) (w.extractLsb' 12 1 ++ w.extractLsb' 2 5))
  | _ =>
    match (w.extractLsb' 12 1 ++ w.extractLsb' 5 2).toNat with
    | 0 => .ok (.cSub (w.extractLsb' 7 3) (w.extractLsb' 2 3))
    | 1 => .ok (.cXor (w.extractLsb' 7 3) (w.extractLsb' 2 3))
    | 2 => .ok (.cOr (w.extractLsb' 7 3) (w.extractLsb' 2 3))
    | 3 => .ok (.cAnd (w.extractLsb' 7 3) (w.extractLsb' 2 3))
    | 4 => .ok (.cSubw (w.extractLsb' 7 3) (w.extractLsb' 2 3))
    | 5 => .ok (.cAddw (w.extractLsb' 7 3) (w.extractLsb' 2 3))
    | _ => .error .reservedCompressed

/-- The offset of a compressed branch, without its low zero bit. -/
def cbOffset (w : BitVec 16) : BitVec 8 :=
  w.extractLsb' 12 1 ++ w.extractLsb' 5 2 ++ w.extractLsb' 2 1 ++ w.extractLsb' 10 2 ++ w.extractLsb' 3 2

/-- R34: quadrant 01. -/
noncomputable def decodeC1 (w : BitVec 16) : Except DecodeError Instr :=
  match (w.extractLsb' 13 3).toNat with
  | 0 =>
    if w.extractLsb' 7 5 = 0#5 then .ok (.cNop (w.extractLsb' 12 1 ++ w.extractLsb' 2 5))
    else .ok (.cAddi (w.extractLsb' 7 5) (w.extractLsb' 12 1 ++ w.extractLsb' 2 5))
  | 1 => .ok (.cAddiw (w.extractLsb' 7 5) (w.extractLsb' 12 1 ++ w.extractLsb' 2 5))
  | 2 => .ok (.cLi (w.extractLsb' 7 5) (w.extractLsb' 12 1 ++ w.extractLsb' 2 5))
  | 3 =>
    if w.extractLsb' 7 5 = 2#5 then
      .ok (.cAddi16sp (w.extractLsb' 12 1 ++ w.extractLsb' 3 2 ++ w.extractLsb' 5 1 ++ w.extractLsb' 2 1 ++
        w.extractLsb' 6 1))
    else .ok (.cLui (w.extractLsb' 7 5) (w.extractLsb' 12 1 ++ w.extractLsb' 2 5))
  | 4 => decodeC1Arith w
  | 5 => .ok (.cJ (w.extractLsb' 12 1 ++ w.extractLsb' 8 1 ++ w.extractLsb' 9 2 ++ w.extractLsb' 6 1 ++
      w.extractLsb' 7 1 ++ w.extractLsb' 2 1 ++ w.extractLsb' 11 1 ++ w.extractLsb' 3 3))
  | 6 => .ok (.cBeqz (w.extractLsb' 7 3) (cbOffset w))
  | _ => .ok (.cBnez (w.extractLsb' 7 3) (cbOffset w))

/-- R34: quadrant 10. -/
noncomputable def decodeC2 (w : BitVec 16) : Except DecodeError Instr :=
  match (w.extractLsb' 13 3).toNat with
  | 0 => .ok (.cSlli (w.extractLsb' 7 5) (w.extractLsb' 12 1 ++ w.extractLsb' 2 5))
  | 2 => .ok (.cLwsp (w.extractLsb' 7 5) (w.extractLsb' 2 2 ++ w.extractLsb' 12 1 ++ w.extractLsb' 4 3))
  | 3 => .ok (.cLdsp (w.extractLsb' 7 5) (w.extractLsb' 2 3 ++ w.extractLsb' 12 1 ++ w.extractLsb' 5 2))
  | 4 =>
    if w.extractLsb' 12 1 = 0#1 then
      if w.extractLsb' 2 5 = 0#5 then .ok (.cJr (w.extractLsb' 7 5))
      else .ok (.cMv (w.extractLsb' 7 5) (w.extractLsb' 2 5))
    else if w.extractLsb' 2 5 = 0#5 then .ok (.cJalr (w.extractLsb' 7 5))
    else .ok (.cAdd (w.extractLsb' 7 5) (w.extractLsb' 2 5))
  | 6 => .ok (.cSwsp (w.extractLsb' 2 5) (w.extractLsb' 7 2 ++ w.extractLsb' 9 4))
  | 7 => .ok (.cSdsp (w.extractLsb' 2 5) (w.extractLsb' 7 3 ++ w.extractLsb' 10 3))
  | _ => .error .reservedCompressed

/-! ## The decoder -/

/-- R39, R172, R290: an instruction whose field values are illegal is rejected. -/
def checked (r : Except DecodeError Instr) : Except DecodeError Instr :=
  match r with
  | .ok i => if i.wf then .ok i else .error .illegalValue
  | .error e => .error e

/-- R23: a 16-bit parcel that begins no 32-bit word. -/
noncomputable def decodeParcel (w : BitVec 16) : Except DecodeError Instr :=
  if w = 0#16 then .error .zeroParcel
  else
    checked
      (match (w.extractLsb' 0 2).toNat with
      | 0 => decodeC0 w
      | 1 => decodeC1 w
      | _ => decodeC2 w)

/-- R24: a 32-bit word. -/
noncomputable def decodeWord (w : BitVec 32) : Except DecodeError Instr := checked (decodeMajor w)

/-- R23: does the parcel begin a 32-bit word? -/
def isLong (p : BitVec 16) : Bool := p.extractLsb' 0 2 == 3#2 && p.extractLsb' 2 3 != 7#3

/-- R23: the class of parcels that no length covers. -/
def isReservedLength (p : BitVec 16) : Bool := p.extractLsb' 0 5 == 31#5

/-- Two bytes as a parcel, little-endian (R4, R23). -/
def parcelOf (b0 b1 : Byte) : BitVec 16 := b1 ++ b0

/-- R23: the instruction at the head of the bytes, with its length in bytes. -/
noncomputable def decode : List Byte → Except DecodeError (Instr × Nat)
  | b0 :: b1 :: rest =>
    let p := parcelOf b0 b1
    if isReservedLength p then .error .reservedLength
    else if isLong p then
      match rest with
      | b2 :: b3 :: _ => (decodeWord (parcelOf b2 b3 ++ p)).map (·, 4)
      | _ => .error .tooShort
    else (decodeParcel p).map (·, 2)
  | _ => .error .tooShort

/-- The instruction read from a word whose bits are numbered as the opcode table numbers them. -/
noncomputable def decodeTableWord (nbits w : Nat) : Option Instr :=
  match decode (leBytes (max 4 (nbits / 8)) w) with
  | .ok (i, _) => some i
  | .error _ => none

/-! ## The encoder -/

/-- R27, R35-R41: the 32-bit word of an instruction that has one. -/
def encodeWord : Instr → Option (BitVec 32)
  | .vadd vd vs1 vs2 pg et => some (0#5 ++ pg ++ vs2 ++ vs1 ++ 0#1 ++ et ++ vd ++ 43#7)
  | .vsub vd vs1 vs2 pg et => some (1#5 ++ pg ++ vs2 ++ vs1 ++ 0#1 ++ et ++ vd ++ 43#7)
  | .vmul vd vs1 vs2 pg et => some (2#5 ++ pg ++ vs2 ++ vs1 ++ 0#1 ++ et ++ vd ++ 43#7)
  | .vmulh vd vs1 vs2 pg et => some (3#5 ++ pg ++ vs2 ++ vs1 ++ 0#1 ++ et ++ vd ++ 43#7)
  | .vmulhn vd vs1 vs2 pg et => some (4#5 ++ pg ++ vs2 ++ vs1 ++ 0#1 ++ et ++ vd ++ 43#7)
  | .vand vd vs1 vs2 pg et => some (5#5 ++ pg ++ vs2 ++ vs1 ++ 0#1 ++ et ++ vd ++ 43#7)
  | .vor vd vs1 vs2 pg et => some (6#5 ++ pg ++ vs2 ++ vs1 ++ 0#1 ++ et ++ vd ++ 43#7)
  | .vxor vd vs1 vs2 pg et => some (7#5 ++ pg ++ vs2 ++ vs1 ++ 0#1 ++ et ++ vd ++ 43#7)
  | .vshl vd vs1 vs2 pg et => some (8#5 ++ pg ++ vs2 ++ vs1 ++ 0#1 ++ et ++ vd ++ 43#7)
  | .vshr vd vs1 vs2 pg et => some (9#5 ++ pg ++ vs2 ++ vs1 ++ 0#1 ++ et ++ vd ++ 43#7)
  | .vsra vd vs1 vs2 pg et => some (10#5 ++ pg ++ vs2 ++ vs1 ++ 0#1 ++ et ++ vd ++ 43#7)
  | .vmin vd vs1 vs2 pg et => some (11#5 ++ pg ++ vs2 ++ vs1 ++ 0#1 ++ et ++ vd ++ 43#7)
  | .vmax vd vs1 vs2 pg et => some (12#5 ++ pg ++ vs2 ++ vs1 ++ 0#1 ++ et ++ vd ++ 43#7)
  | .vminn vd vs1 vs2 pg et => some (13#5 ++ pg ++ vs2 ++ vs1 ++ 0#1 ++ et ++ vd ++ 43#7)
  | .vmaxn vd vs1 vs2 pg et => some (14#5 ++ pg ++ vs2 ++ vs1 ++ 0#1 ++ et ++ vd ++ 43#7)
  | .vadds vd vs1 vs2 pg et => some (15#5 ++ pg ++ vs2 ++ vs1 ++ 0#1 ++ et ++ vd ++ 43#7)
  | .vaddi vd vs1 pg imm et => some (16#5 ++ pg ++ imm ++ vs1 ++ 0#1 ++ et ++ vd ++ 43#7)
  | .vshli vd vs1 pg imm et => some (17#5 ++ pg ++ imm ++ vs1 ++ 0#1 ++ et ++ vd ++ 43#7)
  | .vshri vd vs1 pg imm et => some (18#5 ++ pg ++ imm ++ vs1 ++ 0#1 ++ et ++ vd ++ 43#7)
  | .vsrai vd vs1 pg imm et => some (19#5 ++ pg ++ imm ++ vs1 ++ 0#1 ++ et ++ vd ++ 43#7)
  | .vcmpeq pd vs1 vs2 pg et => some (20#5 ++ pg ++ vs2 ++ vs1 ++ 0#1 ++ et ++ 0#2 ++ pd ++ 43#7)
  | .vcmplt pd vs1 vs2 pg et => some (21#5 ++ pg ++ vs2 ++ vs1 ++ 0#1 ++ et ++ 0#2 ++ pd ++ 43#7)
  | .vcmple pd vs1 vs2 pg et => some (22#5 ++ pg ++ vs2 ++ vs1 ++ 0#1 ++ et ++ 0#2 ++ pd ++ 43#7)
  | .vcmpltn pd vs1 vs2 pg et => some (23#5 ++ pg ++ vs2 ++ vs1 ++ 0#1 ++ et ++ 0#2 ++ pd ++ 43#7)
  | .vcnt vd vs1 pg et => some (24#5 ++ pg ++ 0#5 ++ vs1 ++ 0#1 ++ et ++ vd ++ 43#7)
  | .vclz vd vs1 pg et => some (25#5 ++ pg ++ 0#5 ++ vs1 ++ 0#1 ++ et ++ vd ++ 43#7)
  | .vredsum vd vs1 pg et => some (26#5 ++ pg ++ 0#5 ++ vs1 ++ 0#1 ++ et ++ vd ++ 43#7)
  | .vredmax vd vs1 pg et => some (27#5 ++ pg ++ 0#5 ++ vs1 ++ 0#1 ++ et ++ vd ++ 43#7)
  | .vredmin vd vs1 pg et => some (28#5 ++ pg ++ 0#5 ++ vs1 ++ 0#1 ++ et ++ vd ++ 43#7)
  | .vsel vd vs1 vs2 pg et => some (29#5 ++ pg ++ vs2 ++ vs1 ++ 0#1 ++ et ++ vd ++ 43#7)
  | .vmovi vd pg imm et => some (30#5 ++ pg ++ imm ++ 0#1 ++ et ++ vd ++ 43#7)
  | .vmacc vd vs1 vs2 pg et => some (31#5 ++ pg ++ vs2 ++ vs1 ++ 0#1 ++ et ++ vd ++ 43#7)
  | .vfadd vd vs1 vs2 pg et => some (0#5 ++ pg ++ vs2 ++ vs1 ++ 1#1 ++ et ++ vd ++ 43#7)
  | .vfsub vd vs1 vs2 pg et => some (1#5 ++ pg ++ vs2 ++ vs1 ++ 1#1 ++ et ++ vd ++ 43#7)
  | .vfmul vd vs1 vs2 pg et => some (2#5 ++ pg ++ vs2 ++ vs1 ++ 1#1 ++ et ++ vd ++ 43#7)
  | .vfma vd vs1 vs2 pg et => some (3#5 ++ pg ++ vs2 ++ vs1 ++ 1#1 ++ et ++ vd ++ 43#7)
  | .vfms vd vs1 vs2 pg et => some (4#5 ++ pg ++ vs2 ++ vs1 ++ 1#1 ++ et ++ vd ++ 43#7)
  | .vfdiv vd vs1 vs2 pg et => some (5#5 ++ pg ++ vs2 ++ vs1 ++ 1#1 ++ et ++ vd ++ 43#7)
  | .vfsqrt vd vs1 pg et => some (6#5 ++ pg ++ 0#5 ++ vs1 ++ 1#1 ++ et ++ vd ++ 43#7)
  | .vfmin vd vs1 vs2 pg et => some (7#5 ++ pg ++ vs2 ++ vs1 ++ 1#1 ++ et ++ vd ++ 43#7)
  | .vfmax vd vs1 vs2 pg et => some (8#5 ++ pg ++ vs2 ++ vs1 ++ 1#1 ++ et ++ vd ++ 43#7)
  | .vfabs vd vs1 pg et => some (9#5 ++ pg ++ 0#5 ++ vs1 ++ 1#1 ++ et ++ vd ++ 43#7)
  | .vfneg vd vs1 pg et => some (10#5 ++ pg ++ 0#5 ++ vs1 ++ 1#1 ++ et ++ vd ++ 43#7)
  | .vfexp2 vd vs1 pg et => some (11#5 ++ pg ++ 0#5 ++ vs1 ++ 1#1 ++ et ++ vd ++ 43#7)
  | .vflog2 vd vs1 pg et => some (12#5 ++ pg ++ 0#5 ++ vs1 ++ 1#1 ++ et ++ vd ++ 43#7)
  | .vfrcp vd vs1 pg et => some (13#5 ++ pg ++ 0#5 ++ vs1 ++ 1#1 ++ et ++ vd ++ 43#7)
  | .vfcmpeq pd vs1 vs2 pg et => some (14#5 ++ pg ++ vs2 ++ vs1 ++ 1#1 ++ et ++ 0#2 ++ pd ++ 43#7)
  | .vfcmplt pd vs1 vs2 pg et => some (15#5 ++ pg ++ vs2 ++ vs1 ++ 1#1 ++ et ++ 0#2 ++ pd ++ 43#7)
  | .vfcmple pd vs1 vs2 pg et => some (16#5 ++ pg ++ vs2 ++ vs1 ++ 1#1 ++ et ++ 0#2 ++ pd ++ 43#7)
  | .vfcmpun pd vs1 vs2 pg et => some (17#5 ++ pg ++ vs2 ++ vs1 ++ 1#1 ++ et ++ 0#2 ++ pd ++ 43#7)
  | .vfredsum vd vs1 pg et => some (18#5 ++ pg ++ 0#5 ++ vs1 ++ 1#1 ++ et ++ vd ++ 43#7)
  | .vfredmax vd vs1 pg et => some (19#5 ++ pg ++ 0#5 ++ vs1 ++ 1#1 ++ et ++ vd ++ 43#7)
  | .vfredmin vd vs1 pg et => some (20#5 ++ pg ++ 0#5 ++ vs1 ++ 1#1 ++ et ++ vd ++ 43#7)
  | .vfcvt vd vs1 pg ty et => some (21#5 ++ pg ++ ty ++ vs1 ++ 1#1 ++ et ++ vd ++ 43#7)
  | .vfcvti vd vs1 pg ty et => some (22#5 ++ pg ++ ty ++ vs1 ++ 1#1 ++ et ++ vd ++ 43#7)
  | .vicvtf vd vs1 pg ty et => some (23#5 ++ pg ++ ty ++ vs1 ++ 1#1 ++ et ++ vd ++ 43#7)
  | .vfwmacc vd vs1 vs2 pg et => some (24#5 ++ pg ++ vs2 ++ vs1 ++ 1#1 ++ et ++ vd ++ 43#7)
  | .vfclass vd vs1 pg et => some (25#5 ++ pg ++ 0#5 ++ vs1 ++ 1#1 ++ et ++ vd ++ 43#7)
  | .vfround vd vs1 pg et => some (26#5 ++ pg ++ 0#5 ++ vs1 ++ 1#1 ++ et ++ vd ++ 43#7)
  | .vfscale vd vs1 vs2 pg et => some (27#5 ++ pg ++ vs2 ++ vs1 ++ 1#1 ++ et ++ vd ++ 43#7)
  | .vfrsqrt vd vs1 pg et => some (28#5 ++ pg ++ 0#5 ++ vs1 ++ 1#1 ++ et ++ vd ++ 43#7)
  | .vfmaxnum vd vs1 vs2 pg et => some (29#5 ++ pg ++ vs2 ++ vs1 ++ 1#1 ++ et ++ vd ++ 43#7)
  | .vmoviF vd pg imm et => some (30#5 ++ pg ++ 0#2 ++ imm ++ 1#1 ++ et ++ vd ++ 43#7)
  | .vfminnum vd vs1 vs2 pg et => some (31#5 ++ pg ++ vs2 ++ vs1 ++ 1#1 ++ et ++ vd ++ 43#7)
  | .vbcast vd rs1 w => some (0#5 ++ w ++ 0#5 ++ rs1 ++ 0#3 ++ vd ++ 91#7)
  | .vext rd vs1 rs2 w => some (1#5 ++ w ++ rs2 ++ vs1 ++ 0#3 ++ rd ++ 91#7)
  | .vins vd rs1 rs2 w => some (2#5 ++ w ++ rs2 ++ rs1 ++ 0#3 ++ vd ++ 91#7)
  | .vperm vd vs1 vs2 w => some (3#5 ++ w ++ vs2 ++ vs1 ++ 0#3 ++ vd ++ 91#7)
  | .vslideup vd vs1 rs2 w => some (4#5 ++ w ++ rs2 ++ vs1 ++ 0#3 ++ vd ++ 91#7)
  | .vslidedn vd vs1 rs2 w => some (5#5 ++ w ++ rs2 ++ vs1 ++ 0#3 ++ vd ++ 91#7)
  | .vzip vd vs1 vs2 w => some (6#5 ++ w ++ vs2 ++ vs1 ++ 0#3 ++ vd ++ 91#7)
  | .vunzip vd vs1 w => some (7#5 ++ w ++ 0#5 ++ vs1 ++ 0#3 ++ vd ++ 91#7)
  | .vrev vd vs1 w => some (8#5 ++ w ++ 0#5 ++ vs1 ++ 0#3 ++ vd ++ 91#7)
  | .vcompress vd vs1 ps2 w => some (9#5 ++ w ++ 0#2 ++ ps2 ++ vs1 ++ 0#3 ++ vd ++ 91#7)
  | .pand pd ps1 ps2 => some (160#9 ++ ps2 ++ 0#2 ++ ps1 ++ 0#5 ++ pd ++ 91#7)
  | .por pd ps1 ps2 => some (176#9 ++ ps2 ++ 0#2 ++ ps1 ++ 0#5 ++ pd ++ 91#7)
  | .pxor pd ps1 ps2 => some (192#9 ++ ps2 ++ 0#2 ++ ps1 ++ 0#5 ++ pd ++ 91#7)
  | .pnot pd ps1 => some (6656#14 ++ ps1 ++ 0#5 ++ pd ++ 91#7)
  | .pwhile pd rs1 rs2 w => some (14#5 ++ w ++ rs2 ++ rs1 ++ 0#5 ++ pd ++ 91#7)
  | .pcount rd ps1 w => some (15#5 ++ w ++ 0#7 ++ ps1 ++ 0#3 ++ rd ++ 91#7)
  | .pfirst rd ps1 w => some (16#5 ++ w ++ 0#7 ++ ps1 ++ 0#3 ++ rd ++ 91#7)
  | .vqred vd qs1 rs2 w => some (17#5 ++ w ++ rs2 ++ 0#2 ++ qs1 ++ 0#3 ++ vd ++ 91#7)
  | .vmv vd vs1 w => some (18#5 ++ w ++ 0#5 ++ vs1 ++ 0#3 ++ vd ++ 91#7)
  | .mcfg rd rs1 la => some (la ++ 0#8 ++ rs1 ++ 1#3 ++ rd ++ 91#7)
  | .mma kd rs1 rs2 la => some (la ++ 1#3 ++ rs2 ++ rs1 ++ 4#5 ++ kd ++ 91#7)
  | .mmas kd rs1 rs2 la => some (la ++ 2#3 ++ rs2 ++ rs1 ++ 4#5 ++ kd ++ 91#7)
  | .mzero kd la => some (la ++ 98308#18 ++ kd ++ 91#7)
  | .mst kd rs1 rs2 la => some (la ++ 4#3 ++ rs2 ++ rs1 ++ 4#5 ++ kd ++ 91#7)
  | .mld kd rs1 rs2 la => some (la ++ 5#3 ++ rs2 ++ rs1 ++ 4#5 ++ kd ++ 91#7)
  | .mrd vd ks1 rs2 la => some (la ++ 6#3 ++ rs2 ++ 0#2 ++ ks1 ++ 1#3 ++ vd ++ 91#7)
  | .mrec kd rs1 rs2 la => some (la ++ 7#3 ++ rs2 ++ rs1 ++ 4#5 ++ kd ++ 91#7)
  | .mprog rd rs1 => some (0#12 ++ rs1 ++ 2#3 ++ rd ++ 91#7)
  | .mwr kd vs1 rs2 => some (1#7 ++ rs2 ++ vs1 ++ 8#5 ++ kd ++ 91#7)
  | .cvinit sa rs1 rs2 => some (16#7 ++ rs2 ++ rs1 ++ 16#6 ++ sa ++ 91#7)
  | .cvprobe kd vs1 rs2 => some (17#7 ++ rs2 ++ vs1 ++ 8#5 ++ kd ++ 91#7)
  | .cvcommit kd rs1 rs2 => some (18#7 ++ rs2 ++ rs1 ++ 8#5 ++ kd ++ 91#7)
  | .cvgain vd sa => some (4864#15 ++ sa ++ 2#3 ++ vd ++ 91#7)
  | .cvclr sa => some (1310736#23 ++ sa ++ 91#7)
  | .cvsel rd sa vs2 => some (21#7 ++ vs2 ++ 0#3 ++ sa ++ 2#3 ++ rd ++ 91#7)
  | .cvsave sa rs1 => some (704#12 ++ rs1 ++ 16#6 ++ sa ++ 91#7)
  | .cvrest sa rs1 => some (736#12 ++ rs1 ++ 16#6 ++ sa ++ 91#7)
  | .erun rd rs1 rs2 => some (0#7 ++ rs2 ++ rs1 ++ 3#3 ++ rd ++ 91#7)
  | .ewait rd rs1 => some (32#12 ++ rs1 ++ 3#3 ++ rd ++ 91#7)
  | .estat rd rs1 => some (64#12 ++ rs1 ++ 3#3 ++ rd ++ 91#7)
  | .qpush qd rs1 => some (256#12 ++ rs1 ++ 12#5 ++ qd ++ 91#7)
  | .qpop rd qs1 => some (1152#14 ++ qs1 ++ 3#3 ++ rd ++ 91#7)
  | .qpushv qd rs1 => some (320#12 ++ rs1 ++ 12#5 ++ qd ++ 91#7)
  | .qpopv rd qs1 => some (1408#14 ++ qs1 ++ 3#3 ++ rd ++ 91#7)
  | .qstat rd qs1 => some (1536#14 ++ qs1 ++ 3#3 ++ rd ++ 91#7)
  | .qbind qd rs1 => some (416#12 ++ rs1 ++ 12#5 ++ qd ++ 91#7)
  | .vld vd rs1 rs2 la w => some (la ++ 0#3 ++ rs2 ++ rs1 ++ 0#1 ++ w ++ vd ++ 123#7)
  | .vst vd rs1 rs2 la w => some (la ++ 1#3 ++ rs2 ++ rs1 ++ 0#1 ++ w ++ vd ++ 123#7)
  | .vldx vd rs1 rs2 la w => some (la ++ 2#3 ++ rs2 ++ rs1 ++ 0#1 ++ w ++ vd ++ 123#7)
  | .vstx vd rs1 rs2 la w => some (la ++ 3#3 ++ rs2 ++ rs1 ++ 0#1 ++ w ++ vd ++ 123#7)
  | .vldl vd rs1 rs2 la w => some (la ++ 4#3 ++ rs2 ++ rs1 ++ 0#1 ++ w ++ vd ++ 123#7)
  | .vstl vd rs1 rs2 la w => some (la ++ 5#3 ++ rs2 ++ rs1 ++ 0#1 ++ w ++ vd ++ 123#7)
  | .vldk vd rs1 rs2 la w => some (la ++ 6#3 ++ rs2 ++ rs1 ++ 0#1 ++ w ++ vd ++ 123#7)
  | .vldt vd rs1 rs2 la w => some (la ++ 7#3 ++ rs2 ++ rs1 ++ 0#1 ++ w ++ vd ++ 123#7)
  | .ldk rd rs1 rs2 la => some (la ++ 0#3 ++ rs2 ++ rs1 ++ 4#3 ++ rd ++ 123#7)
  | .ldt rd rs1 rs2 la => some (la ++ 1#3 ++ rs2 ++ rs1 ++ 4#3 ++ rd ++ 123#7)
  | .rld qd rs1 rs2 la => some (la ++ 2#3 ++ rs2 ++ rs1 ++ 8#4 ++ qd ++ 123#7)
  | .rst rd rs1 rs2 la => some (la ++ 3#3 ++ rs2 ++ rs1 ++ 4#3 ++ rd ++ 123#7)
  | .gst rd rs1 rs2 la => some (la ++ 4#3 ++ rs2 ++ rs1 ++ 4#3 ++ rd ++ 123#7)
  | .ksend rd rs1 rs2 la => some (la ++ 5#3 ++ rs2 ++ rs1 ++ 4#3 ++ rd ++ 123#7)
  | .famoAddBf16x2 rd rs1 rs2 use => some (0#5 ++ use ++ rs2 ++ rs1 ++ 5#3 ++ rd ++ 123#7)
  | .famoAddF16x2 rd rs1 rs2 use => some (1#5 ++ use ++ rs2 ++ rs1 ++ 5#3 ++ rd ++ 123#7)
  | .famoAddF32 rd rs1 rs2 use => some (2#5 ++ use ++ rs2 ++ rs1 ++ 5#3 ++ rd ++ 123#7)
  | .famoAddF64 rd rs1 rs2 use => some (3#5 ++ use ++ rs2 ++ rs1 ++ 5#3 ++ rd ++ 123#7)
  | .famoMinBf16x2 rd rs1 rs2 use => some (4#5 ++ use ++ rs2 ++ rs1 ++ 5#3 ++ rd ++ 123#7)
  | .famoMinF16x2 rd rs1 rs2 use => some (5#5 ++ use ++ rs2 ++ rs1 ++ 5#3 ++ rd ++ 123#7)
  | .famoMinF32 rd rs1 rs2 use => some (6#5 ++ use ++ rs2 ++ rs1 ++ 5#3 ++ rd ++ 123#7)
  | .famoMinF64 rd rs1 rs2 use => some (7#5 ++ use ++ rs2 ++ rs1 ++ 5#3 ++ rd ++ 123#7)
  | .famoMaxBf16x2 rd rs1 rs2 use => some (8#5 ++ use ++ rs2 ++ rs1 ++ 5#3 ++ rd ++ 123#7)
  | .famoMaxF16x2 rd rs1 rs2 use => some (9#5 ++ use ++ rs2 ++ rs1 ++ 5#3 ++ rd ++ 123#7)
  | .famoMaxF32 rd rs1 rs2 use => some (10#5 ++ use ++ rs2 ++ rs1 ++ 5#3 ++ rd ++ 123#7)
  | .famoMaxF64 rd rs1 rs2 use => some (11#5 ++ use ++ rs2 ++ rs1 ++ 5#3 ++ rd ++ 123#7)
  | .cas128 rd rs1 rs2 use => some (12#5 ++ use ++ rs2 ++ 0#1 ++ rs1 ++ 5#3 ++ rd ++ 123#8)
  | .iaddD rd rs1 rs2 use => some (13#5 ++ use ++ rs2 ++ rs1 ++ 5#3 ++ rd ++ 123#7)
  | .iaddW rd rs1 rs2 use => some (14#5 ++ use ++ rs2 ++ rs1 ++ 5#3 ++ rd ++ 123#7)
  | .iorD rd rs1 rs2 use => some (15#5 ++ use ++ rs2 ++ rs1 ++ 5#3 ++ rd ++ 123#7)
  | .iandD rd rs1 rs2 use => some (16#5 ++ use ++ rs2 ++ rs1 ++ 5#3 ++ rd ++ 123#7)
  | .fenceS scope => some (6#20 ++ scope ++ 123#7)
  | .sldAcq rd rs1 scope => some (1#7 ++ scope ++ rs1 ++ 6#3 ++ rd ++ 123#7)
  | .sstRel rs1 rs2 scope => some (2#7 ++ rs2 ++ rs1 ++ 6#3 ++ scope ++ 123#7)
  | .barr sel => some (24582#20 ++ sel ++ 123#7)
  | .bwait sel => some (32774#20 ++ sel ++ 123#7)
  | .bmask rd rs1 rs2 => some (5#7 ++ rs2 ++ rs1 ++ 6#3 ++ rd ++ 123#7)
  | .tickrd rd => some (49158#20 ++ rd ++ 123#7)
  | .tickw rd rs1 => some (224#12 ++ rs1 ++ 6#3 ++ rd ++ 123#7)
  | .sstep sel => some (65542#20 ++ sel ++ 123#7)
  | .abarr rd rs1 rs2 => some (9#7 ++ rs2 ++ rs1 ++ 6#3 ++ rd ++ 123#7)
  | .abwait rd rs1 => some (320#12 ++ rs1 ++ 6#3 ++ rd ++ 123#7)
  | .abinit rd rs1 rs2 => some (11#7 ++ rs2 ++ rs1 ++ 6#3 ++ rd ++ 123#7)
  | .gopen rd => some (7#20 ++ rd ++ 123#7)
  | .gsel rd rs1 => some (32#12 ++ rs1 ++ 7#3 ++ rd ++ 123#7)
  | .gcommit rd rs1 rs2 => some (2#7 ++ rs2 ++ rs1 ++ 7#3 ++ rd ++ 123#7)
  | .gabort rd rs1 => some (96#12 ++ rs1 ++ 7#3 ++ rd ++ 123#7)
  | .gstat rd rs1 rs2 => some (4#7 ++ rs2 ++ rs1 ++ 7#3 ++ rd ++ 123#7)
  | .tset rd rs1 rs2 => some (8#7 ++ rs2 ++ rs1 ++ 7#3 ++ rd ++ 123#7)
  | .tmode rd rs1 rs2 => some (9#7 ++ rs2 ++ rs1 ++ 7#3 ++ rd ++ 123#7)
  | .kbin rd rs1 rs2 => some (10#7 ++ rs2 ++ rs1 ++ 7#3 ++ rd ++ 123#7)
  | .jrnl rd rs1 rs2 => some (11#7 ++ rs2 ++ rs1 ++ 7#3 ++ rd ++ 123#7)
  | .calld imm => some (imm ++ 139#20)
  | .tcalld imm => some (imm ++ 11#20)
  | .callh rs1 => some (0#12 ++ rs1 ++ 4235#15)
  | .tcallh rs1 => some (32#12 ++ rs1 ++ 4107#15)
  | .reth rs1 => some (64#12 ++ rs1 ++ 4107#15)
  | .start rd rs1 rs2 => some (0#7 ++ rs2 ++ rs1 ++ 2#3 ++ rd ++ 11#7)
  | .hend => some (33562635#32)
  | .hjoin rd rs1 => some (64#12 ++ rs1 ++ 2#3 ++ rd ++ 11#7)
  | .hpoll rd => some (24578#20 ++ rd ++ 11#7)
  | .pfx fmt1 fmt2 n smode sreg => some (n ++ smode ++ sreg ++ fmt2 ++ 3#3 ++ fmt1 ++ 11#7)
  | .launch rd rs1 => some (0#12 ++ rs1 ++ 4#3 ++ rd ++ 11#7)
  | .lpoll rd rs1 => some (32#12 ++ rs1 ++ 4#3 ++ rd ++ 11#7)
  | .sysc rd rs1 dep => some (0#11 ++ dep ++ rs1 ++ 5#3 ++ rd ++ 11#7)
  | .sysw rd rs1 => some (32#12 ++ rs1 ++ 5#3 ++ rd ++ 11#7)
  | .nfy rd rs1 rs2 => some (2#7 ++ rs2 ++ rs1 ++ 5#3 ++ rd ++ 11#7)
  | .fhand rd imm => some (imm ++ 6#8 ++ rd ++ 11#7)
  | .cprobe rd rs1 rs2 => some (0#7 ++ rs2 ++ rs1 ++ 7#3 ++ rd ++ 11#7)
  | .cpin rd rs1 => some (32#12 ++ rs1 ++ 7#3 ++ rd ++ 11#7)
  | .cunpin rd rs1 => some (64#12 ++ rs1 ++ 7#3 ++ rd ++ 11#7)
  | .cevict rd rs1 => some (96#12 ++ rs1 ++ 7#3 ++ rd ++ 11#7)
  | .ctxflush rd rs1 => some (256#12 ++ rs1 ++ 7#3 ++ rd ++ 11#7)
  | .ctxload rd rs1 => some (288#12 ++ rs1 ++ 7#3 ++ rd ++ 11#7)
  | .wsw rd rs1 rs2 => some (10#7 ++ rs2 ++ rs1 ++ 7#3 ++ rd ++ 11#7)
  | .waitev rd rs1 rs2 => some (12#7 ++ rs2 ++ rs1 ++ 7#3 ++ rd ++ 11#7)
  | .mark rs1 => some (416#12 ++ rs1 ++ 28683#15)
  | .lui rd imm => some (imm ++ rd ++ 55#7)
  | .auipc rd imm => some (imm ++ rd ++ 23#7)
  | .jal rd imm => some (imm.extractLsb' 19 1 ++ imm.extractLsb' 0 10 ++ imm.extractLsb' 10 1 ++ imm.extractLsb' 11 8 ++ rd ++ 111#7)
  | .jalr rd rs1 imm => some (imm ++ rs1 ++ 0#3 ++ rd ++ 103#7)
  | .beq rs1 rs2 imm => some (imm.extractLsb' 11 1 ++ imm.extractLsb' 4 6 ++ rs2 ++ rs1 ++ 0#3 ++ imm.extractLsb' 0 4 ++ imm.extractLsb' 10 1 ++ 99#7)
  | .bne rs1 rs2 imm => some (imm.extractLsb' 11 1 ++ imm.extractLsb' 4 6 ++ rs2 ++ rs1 ++ 1#3 ++ imm.extractLsb' 0 4 ++ imm.extractLsb' 10 1 ++ 99#7)
  | .blt rs1 rs2 imm => some (imm.extractLsb' 11 1 ++ imm.extractLsb' 4 6 ++ rs2 ++ rs1 ++ 4#3 ++ imm.extractLsb' 0 4 ++ imm.extractLsb' 10 1 ++ 99#7)
  | .bge rs1 rs2 imm => some (imm.extractLsb' 11 1 ++ imm.extractLsb' 4 6 ++ rs2 ++ rs1 ++ 5#3 ++ imm.extractLsb' 0 4 ++ imm.extractLsb' 10 1 ++ 99#7)
  | .bltu rs1 rs2 imm => some (imm.extractLsb' 11 1 ++ imm.extractLsb' 4 6 ++ rs2 ++ rs1 ++ 6#3 ++ imm.extractLsb' 0 4 ++ imm.extractLsb' 10 1 ++ 99#7)
  | .bgeu rs1 rs2 imm => some (imm.extractLsb' 11 1 ++ imm.extractLsb' 4 6 ++ rs2 ++ rs1 ++ 7#3 ++ imm.extractLsb' 0 4 ++ imm.extractLsb' 10 1 ++ 99#7)
  | .lb rd rs1 imm => some (imm ++ rs1 ++ 0#3 ++ rd ++ 3#7)
  | .lh rd rs1 imm => some (imm ++ rs1 ++ 1#3 ++ rd ++ 3#7)
  | .lw rd rs1 imm => some (imm ++ rs1 ++ 2#3 ++ rd ++ 3#7)
  | .ld rd rs1 imm => some (imm ++ rs1 ++ 3#3 ++ rd ++ 3#7)
  | .lbu rd rs1 imm => some (imm ++ rs1 ++ 4#3 ++ rd ++ 3#7)
  | .lhu rd rs1 imm => some (imm ++ rs1 ++ 5#3 ++ rd ++ 3#7)
  | .lwu rd rs1 imm => some (imm ++ rs1 ++ 6#3 ++ rd ++ 3#7)
  | .sb rs1 rs2 imm => some (imm.extractLsb' 5 7 ++ rs2 ++ rs1 ++ 0#3 ++ imm.extractLsb' 0 5 ++ 35#7)
  | .sh rs1 rs2 imm => some (imm.extractLsb' 5 7 ++ rs2 ++ rs1 ++ 1#3 ++ imm.extractLsb' 0 5 ++ 35#7)
  | .sw rs1 rs2 imm => some (imm.extractLsb' 5 7 ++ rs2 ++ rs1 ++ 2#3 ++ imm.extractLsb' 0 5 ++ 35#7)
  | .sd rs1 rs2 imm => some (imm.extractLsb' 5 7 ++ rs2 ++ rs1 ++ 3#3 ++ imm.extractLsb' 0 5 ++ 35#7)
  | .addi rd rs1 imm => some (imm ++ rs1 ++ 0#3 ++ rd ++ 19#7)
  | .slti rd rs1 imm => some (imm ++ rs1 ++ 2#3 ++ rd ++ 19#7)
  | .sltiu rd rs1 imm => some (imm ++ rs1 ++ 3#3 ++ rd ++ 19#7)
  | .xori rd rs1 imm => some (imm ++ rs1 ++ 4#3 ++ rd ++ 19#7)
  | .ori rd rs1 imm => some (imm ++ rs1 ++ 6#3 ++ rd ++ 19#7)
  | .andi rd rs1 imm => some (imm ++ rs1 ++ 7#3 ++ rd ++ 19#7)
  | .slli rd rs1 shamt => some (0#6 ++ shamt ++ rs1 ++ 1#3 ++ rd ++ 19#7)
  | .srli rd rs1 shamt => some (0#6 ++ shamt ++ rs1 ++ 5#3 ++ rd ++ 19#7)
  | .srai rd rs1 shamt => some (16#6 ++ shamt ++ rs1 ++ 5#3 ++ rd ++ 19#7)
  | .addiw rd rs1 imm => some (imm ++ rs1 ++ 0#3 ++ rd ++ 27#7)
  | .slliw rd rs1 shamt => some (0#7 ++ shamt ++ rs1 ++ 1#3 ++ rd ++ 27#7)
  | .srliw rd rs1 shamt => some (0#7 ++ shamt ++ rs1 ++ 5#3 ++ rd ++ 27#7)
  | .sraiw rd rs1 shamt => some (32#7 ++ shamt ++ rs1 ++ 5#3 ++ rd ++ 27#7)
  | .add rd rs1 rs2 => some (0#7 ++ rs2 ++ rs1 ++ 0#3 ++ rd ++ 51#7)
  | .sll rd rs1 rs2 => some (0#7 ++ rs2 ++ rs1 ++ 1#3 ++ rd ++ 51#7)
  | .slt rd rs1 rs2 => some (0#7 ++ rs2 ++ rs1 ++ 2#3 ++ rd ++ 51#7)
  | .sltu rd rs1 rs2 => some (0#7 ++ rs2 ++ rs1 ++ 3#3 ++ rd ++ 51#7)
  | .xor rd rs1 rs2 => some (0#7 ++ rs2 ++ rs1 ++ 4#3 ++ rd ++ 51#7)
  | .srl rd rs1 rs2 => some (0#7 ++ rs2 ++ rs1 ++ 5#3 ++ rd ++ 51#7)
  | .or rd rs1 rs2 => some (0#7 ++ rs2 ++ rs1 ++ 6#3 ++ rd ++ 51#7)
  | .and rd rs1 rs2 => some (0#7 ++ rs2 ++ rs1 ++ 7#3 ++ rd ++ 51#7)
  | .sub rd rs1 rs2 => some (32#7 ++ rs2 ++ rs1 ++ 0#3 ++ rd ++ 51#7)
  | .sra rd rs1 rs2 => some (32#7 ++ rs2 ++ rs1 ++ 5#3 ++ rd ++ 51#7)
  | .mul rd rs1 rs2 => some (1#7 ++ rs2 ++ rs1 ++ 0#3 ++ rd ++ 51#7)
  | .mulh rd rs1 rs2 => some (1#7 ++ rs2 ++ rs1 ++ 1#3 ++ rd ++ 51#7)
  | .mulhsu rd rs1 rs2 => some (1#7 ++ rs2 ++ rs1 ++ 2#3 ++ rd ++ 51#7)
  | .mulhu rd rs1 rs2 => some (1#7 ++ rs2 ++ rs1 ++ 3#3 ++ rd ++ 51#7)
  | .div rd rs1 rs2 => some (1#7 ++ rs2 ++ rs1 ++ 4#3 ++ rd ++ 51#7)
  | .divu rd rs1 rs2 => some (1#7 ++ rs2 ++ rs1 ++ 5#3 ++ rd ++ 51#7)
  | .rem rd rs1 rs2 => some (1#7 ++ rs2 ++ rs1 ++ 6#3 ++ rd ++ 51#7)
  | .remu rd rs1 rs2 => some (1#7 ++ rs2 ++ rs1 ++ 7#3 ++ rd ++ 51#7)
  | .addw rd rs1 rs2 => some (0#7 ++ rs2 ++ rs1 ++ 0#3 ++ rd ++ 59#7)
  | .sllw rd rs1 rs2 => some (0#7 ++ rs2 ++ rs1 ++ 1#3 ++ rd ++ 59#7)
  | .srlw rd rs1 rs2 => some (0#7 ++ rs2 ++ rs1 ++ 5#3 ++ rd ++ 59#7)
  | .subw rd rs1 rs2 => some (32#7 ++ rs2 ++ rs1 ++ 0#3 ++ rd ++ 59#7)
  | .sraw rd rs1 rs2 => some (32#7 ++ rs2 ++ rs1 ++ 5#3 ++ rd ++ 59#7)
  | .mulw rd rs1 rs2 => some (1#7 ++ rs2 ++ rs1 ++ 0#3 ++ rd ++ 59#7)
  | .divw rd rs1 rs2 => some (1#7 ++ rs2 ++ rs1 ++ 4#3 ++ rd ++ 59#7)
  | .divuw rd rs1 rs2 => some (1#7 ++ rs2 ++ rs1 ++ 5#3 ++ rd ++ 59#7)
  | .remw rd rs1 rs2 => some (1#7 ++ rs2 ++ rs1 ++ 6#3 ++ rd ++ 59#7)
  | .remuw rd rs1 rs2 => some (1#7 ++ rs2 ++ rs1 ++ 7#3 ++ rd ++ 59#7)
  | .fence rd rs1 fm pred succ => some (fm ++ pred ++ succ ++ rs1 ++ 0#3 ++ rd ++ 15#7)
  | .lrW rd rs1 aq rl => some (2#5 ++ aq ++ rl ++ 0#5 ++ rs1 ++ 2#3 ++ rd ++ 47#7)
  | .lrD rd rs1 aq rl => some (2#5 ++ aq ++ rl ++ 0#5 ++ rs1 ++ 3#3 ++ rd ++ 47#7)
  | .scW rd rs1 rs2 aq rl => some (3#5 ++ aq ++ rl ++ rs2 ++ rs1 ++ 2#3 ++ rd ++ 47#7)
  | .scD rd rs1 rs2 aq rl => some (3#5 ++ aq ++ rl ++ rs2 ++ rs1 ++ 3#3 ++ rd ++ 47#7)
  | .amoswapW rd rs1 rs2 aq rl => some (1#5 ++ aq ++ rl ++ rs2 ++ rs1 ++ 2#3 ++ rd ++ 47#7)
  | .amoswapD rd rs1 rs2 aq rl => some (1#5 ++ aq ++ rl ++ rs2 ++ rs1 ++ 3#3 ++ rd ++ 47#7)
  | .amoaddW rd rs1 rs2 aq rl => some (0#5 ++ aq ++ rl ++ rs2 ++ rs1 ++ 2#3 ++ rd ++ 47#7)
  | .amoaddD rd rs1 rs2 aq rl => some (0#5 ++ aq ++ rl ++ rs2 ++ rs1 ++ 3#3 ++ rd ++ 47#7)
  | .amoxorW rd rs1 rs2 aq rl => some (4#5 ++ aq ++ rl ++ rs2 ++ rs1 ++ 2#3 ++ rd ++ 47#7)
  | .amoxorD rd rs1 rs2 aq rl => some (4#5 ++ aq ++ rl ++ rs2 ++ rs1 ++ 3#3 ++ rd ++ 47#7)
  | .amoandW rd rs1 rs2 aq rl => some (12#5 ++ aq ++ rl ++ rs2 ++ rs1 ++ 2#3 ++ rd ++ 47#7)
  | .amoandD rd rs1 rs2 aq rl => some (12#5 ++ aq ++ rl ++ rs2 ++ rs1 ++ 3#3 ++ rd ++ 47#7)
  | .amoorW rd rs1 rs2 aq rl => some (8#5 ++ aq ++ rl ++ rs2 ++ rs1 ++ 2#3 ++ rd ++ 47#7)
  | .amoorD rd rs1 rs2 aq rl => some (8#5 ++ aq ++ rl ++ rs2 ++ rs1 ++ 3#3 ++ rd ++ 47#7)
  | .amominW rd rs1 rs2 aq rl => some (16#5 ++ aq ++ rl ++ rs2 ++ rs1 ++ 2#3 ++ rd ++ 47#7)
  | .amominD rd rs1 rs2 aq rl => some (16#5 ++ aq ++ rl ++ rs2 ++ rs1 ++ 3#3 ++ rd ++ 47#7)
  | .amomaxW rd rs1 rs2 aq rl => some (20#5 ++ aq ++ rl ++ rs2 ++ rs1 ++ 2#3 ++ rd ++ 47#7)
  | .amomaxD rd rs1 rs2 aq rl => some (20#5 ++ aq ++ rl ++ rs2 ++ rs1 ++ 3#3 ++ rd ++ 47#7)
  | .amominuW rd rs1 rs2 aq rl => some (24#5 ++ aq ++ rl ++ rs2 ++ rs1 ++ 2#3 ++ rd ++ 47#7)
  | .amominuD rd rs1 rs2 aq rl => some (24#5 ++ aq ++ rl ++ rs2 ++ rs1 ++ 3#3 ++ rd ++ 47#7)
  | .amomaxuW rd rs1 rs2 aq rl => some (28#5 ++ aq ++ rl ++ rs2 ++ rs1 ++ 2#3 ++ rd ++ 47#7)
  | .amomaxuD rd rs1 rs2 aq rl => some (28#5 ++ aq ++ rl ++ rs2 ++ rs1 ++ 3#3 ++ rd ++ 47#7)
  | .csrrw rd rs1 csr => some (csr ++ rs1 ++ 1#3 ++ rd ++ 115#7)
  | .csrrs rd rs1 csr => some (csr ++ rs1 ++ 2#3 ++ rd ++ 115#7)
  | .csrrc rd rs1 csr => some (csr ++ rs1 ++ 3#3 ++ rd ++ 115#7)
  | .csrrwi rd csr uimm => some (csr ++ uimm ++ 5#3 ++ rd ++ 115#7)
  | .csrrsi rd csr uimm => some (csr ++ uimm ++ 6#3 ++ rd ++ 115#7)
  | .csrrci rd csr uimm => some (csr ++ uimm ++ 7#3 ++ rd ++ 115#7)
  | .sret => some (270532723#32)
  | .mret => some (807403635#32)
  | .wfi => some (273678451#32)
  | .sfenceVma rs1 rs2 => some (9#7 ++ rs2 ++ rs1 ++ 115#15)
  | _ => none

/-- R34: the 16-bit parcel of a compressed instruction. -/
def encodeParcel : Instr → Option (BitVec 16)
  | .cAddi4spn rd imm => some (0#3 ++ imm.extractLsb' 2 2 ++ imm.extractLsb' 4 4 ++ imm.extractLsb' 0 1 ++ imm.extractLsb' 1 1 ++ rd ++ 0#2)
  | .cLw rd rs1 imm => some (2#3 ++ imm.extractLsb' 1 3 ++ rs1 ++ imm.extractLsb' 0 1 ++ imm.extractLsb' 4 1 ++ rd ++ 0#2)
  | .cLd rd rs1 imm => some (3#3 ++ imm.extractLsb' 0 3 ++ rs1 ++ imm.extractLsb' 3 2 ++ rd ++ 0#2)
  | .cSw rs2 rs1 imm => some (6#3 ++ imm.extractLsb' 1 3 ++ rs1 ++ imm.extractLsb' 0 1 ++ imm.extractLsb' 4 1 ++ rs2 ++ 0#2)
  | .cSd rs2 rs1 imm => some (7#3 ++ imm.extractLsb' 0 3 ++ rs1 ++ imm.extractLsb' 3 2 ++ rs2 ++ 0#2)
  | .cNop imm => some (0#3 ++ imm.extractLsb' 5 1 ++ 0#5 ++ imm.extractLsb' 0 5 ++ 1#2)
  | .cAddi rd imm => some (0#3 ++ imm.extractLsb' 5 1 ++ rd ++ imm.extractLsb' 0 5 ++ 1#2)
  | .cAddiw rd imm => some (1#3 ++ imm.extractLsb' 5 1 ++ rd ++ imm.extractLsb' 0 5 ++ 1#2)
  | .cLi rd imm => some (2#3 ++ imm.extractLsb' 5 1 ++ rd ++ imm.extractLsb' 0 5 ++ 1#2)
  | .cAddi16sp imm => some (3#3 ++ imm.extractLsb' 5 1 ++ 2#5 ++ imm.extractLsb' 0 1 ++ imm.extractLsb' 2 1 ++ imm.extractLsb' 3 2 ++ imm.extractLsb' 1 1 ++ 1#2)
  | .cLui rd imm => some (3#3 ++ imm.extractLsb' 5 1 ++ rd ++ imm.extractLsb' 0 5 ++ 1#2)
  | .cSrli rd shamt => some (4#3 ++ shamt.extractLsb' 5 1 ++ 0#2 ++ rd ++ shamt.extractLsb' 0 5 ++ 1#2)
  | .cSrai rd shamt => some (4#3 ++ shamt.extractLsb' 5 1 ++ 1#2 ++ rd ++ shamt.extractLsb' 0 5 ++ 1#2)
  | .cAndi rd imm => some (4#3 ++ imm.extractLsb' 5 1 ++ 2#2 ++ rd ++ imm.extractLsb' 0 5 ++ 1#2)
  | .cSub rd rs2 => some (4#3 ++ 0#1 ++ 3#2 ++ rd ++ 0#2 ++ rs2 ++ 1#2)
  | .cXor rd rs2 => some (4#3 ++ 0#1 ++ 3#2 ++ rd ++ 1#2 ++ rs2 ++ 1#2)
  | .cOr rd rs2 => some (4#3 ++ 0#1 ++ 3#2 ++ rd ++ 2#2 ++ rs2 ++ 1#2)
  | .cAnd rd rs2 => some (4#3 ++ 0#1 ++ 3#2 ++ rd ++ 3#2 ++ rs2 ++ 1#2)
  | .cSubw rd rs2 => some (4#3 ++ 1#1 ++ 3#2 ++ rd ++ 0#2 ++ rs2 ++ 1#2)
  | .cAddw rd rs2 => some (4#3 ++ 1#1 ++ 3#2 ++ rd ++ 1#2 ++ rs2 ++ 1#2)
  | .cJ imm => some (5#3 ++ imm.extractLsb' 10 1 ++ imm.extractLsb' 3 1 ++ imm.extractLsb' 7 2 ++ imm.extractLsb' 9 1 ++ imm.extractLsb' 5 1 ++ imm.extractLsb' 6 1 ++ imm.extractLsb' 0 3 ++ imm.extractLsb' 4 1 ++ 1#2)
  | .cBeqz rs1 imm => some (6#3 ++ imm.extractLsb' 7 1 ++ imm.extractLsb' 2 2 ++ rs1 ++ imm.extractLsb' 5 2 ++ imm.extractLsb' 0 2 ++ imm.extractLsb' 4 1 ++ 1#2)
  | .cBnez rs1 imm => some (7#3 ++ imm.extractLsb' 7 1 ++ imm.extractLsb' 2 2 ++ rs1 ++ imm.extractLsb' 5 2 ++ imm.extractLsb' 0 2 ++ imm.extractLsb' 4 1 ++ 1#2)
  | .cSlli rd shamt => some (0#3 ++ shamt.extractLsb' 5 1 ++ rd ++ shamt.extractLsb' 0 5 ++ 2#2)
  | .cLwsp rd imm => some (2#3 ++ imm.extractLsb' 3 1 ++ rd ++ imm.extractLsb' 0 3 ++ imm.extractLsb' 4 2 ++ 2#2)
  | .cLdsp rd imm => some (3#3 ++ imm.extractLsb' 2 1 ++ rd ++ imm.extractLsb' 0 2 ++ imm.extractLsb' 3 3 ++ 2#2)
  | .cJr rs1 => some (4#3 ++ 0#1 ++ rs1 ++ 0#5 ++ 2#2)
  | .cMv rd rs2 => some (4#3 ++ 0#1 ++ rd ++ rs2 ++ 2#2)
  | .cJalr rs1 => some (4#3 ++ 1#1 ++ rs1 ++ 0#5 ++ 2#2)
  | .cAdd rd rs2 => some (4#3 ++ 1#1 ++ rd ++ rs2 ++ 2#2)
  | .cSwsp rs2 imm => some (6#3 ++ imm.extractLsb' 0 4 ++ imm.extractLsb' 4 2 ++ rs2 ++ 2#2)
  | .cSdsp rs2 imm => some (7#3 ++ imm.extractLsb' 0 3 ++ imm.extractLsb' 3 3 ++ rs2 ++ 2#2)
  | _ => none

/-- The bytes of an instruction that has an encoding, lowest address first (R4, R23). -/
def encode (i : Instr) : Option (List Byte) :=
  match encodeWord i with
  | some w => some [w.extractLsb' 0 8, w.extractLsb' 8 8, w.extractLsb' 16 8, w.extractLsb' 24 8]
  | none =>
    match encodeParcel i with
    | some p => some [p.extractLsb' 0 8, p.extractLsb' 8 8]
    | none => none

end Sys2Proof
end

