-- ==== Sys2Proof/Config.lean ====
section
/-! DEFINITION. What the implementation fixes: the part's constants, the values that the manual leaves open, and
the cryptographic functions that it names by other standards. A constant with no body is a free value (log entries 6, 7,
9, 27, 46, 61, 63, 81, 93 and 140). -/

namespace Sys2Proof.Config

/-- R1, R45: the chip model of this part. -/
def chipModel : BitVec 32 := 0x4B4D0100#32

/-- R60: the capability register. -/
def capabilities : BitVec 128 := 0x1FF#128

/-- R230: bytes of device memory. -/
def deviceBytes : Nat := 864 * 2 ^ 30

/-- R340, R378: where the firmware copies the boot record. -/
def bootRecordLoc : Nat := 0x0D7FFFFFF00

/-- Replacement in the TLBs is not given: the entry that a fill replaces in a full structure. -/
opaque tlbVictim : Nat → Nat

/-- Replacement in the constant cache is not given: the line that a fill replaces in a full cache. -/
opaque constantVictim : Nat → Nat

/-- R224: whether a sector of a constant-cache line that memory has changed since its fill is read as it was filled. -/
opaque constantKeepsOld : Nat → Bool

/-- R304: the factor 2^(m1 − m) where m1 and m are both +∞ is not given: its f32 word. -/
opaque rscFactor : BitVec 32 → BitVec 32

/-- R69: the page where the range of the stack of a strand begins, which the resident executive chooses: by the chip and the
LID of the launch, the vpe and the strand. -/
opaque stackPage : Nat → BitVec 32 → BitVec 24 → Nat → BitVec 34

/-- R69, R70: the page of memory that the resident executive gives at each occasion, for a table or for a page that it
maps. -/
opaque executivePage : Nat → BitVec 40

/-- R69, R72: the base of the strand-local block, which the resident executive chooses. -/
opaque localBlock : Nat → BitVec 32 → BitVec 24 → Nat → Word

/-- R332: the context image of a strand of a vpe of a launch, which the resident executive chooses. -/
opaque contextImage : Nat → BitVec 32 → BitVec 24 → Nat → Word

/-- R225: replacement in the caches is not given: the way of a full set that a fill replaces. -/
opaque cacheVictim : Nat → Nat

/-- R268: whether a commutative atomic performs at the home of its location. -/
opaque performsAtHome : Nat → Bool

/-- R19, R305: is a port of another chip link-down? -/
opaque peerLinkDown : Nat → Nat → Bool

/-- R297: the flits of a code fetch message beyond its first, at each occasion; the layout of its payload is not given. -/
opaque codeFlits : Nat → Nat

/-- R351: the features that a logical device offers are not given: OFFER [5:0]. -/
opaque offer : BitVec 6

/-- RFC 8032 Ed25519 verification: public key, message, signature (R96, R368). -/
opaque ed25519Verify : List Byte → List Byte → List Byte → Bool

/-- FIPS 204 ML-DSA-65 verification with an empty context string: public key, message, signature (R96, R368). -/
opaque mldsaVerify : List Byte → List Byte → List Byte → Bool

/-- The Ed25519 signature over a message of the device identity key with a public key (R371). -/
opaque ed25519Sign : List Byte → List Byte → List Byte

/-- The ML-DSA-65 signature over a message of the device identity key with a public key (R371). -/
opaque mldsaSign : List Byte → List Byte → List Byte

/-- The X25519 and the ML-KEM-768 shared secrets, joined, of a public key and a ciphertext with the private keys of the
device (R374). -/
opaque sharedSecrets : List Byte → List Byte → List Byte

/-- The bytes of an SPDM response that the manual leaves to SPDM 1.3 and to the responder, by occasion: its nonce,
its transfer sizes, the type of a measurement (R370). -/
opaque spdmFree : Nat → Nat → Byte

end Sys2Proof.Config
end

