-- ==== Sys2Proof/Machine/State.lean ====
section
/-! DEFINITION. The state of one module: strands, cores, benches, clusters, the launch unit, memory in its
ordering machine, the fabric, hosts and the security core, with the state after reset. -/

namespace Sys2Proof.Machine

/-- A sparse map: keys strictly rising, and no entry equal to the default of the map's use. -/
abbrev SMap (α : Type) := List (Nat × α)

/-- Memory: addresses strictly rising, and no entry equal to what an unlisted address reads as. -/
abbrev Memory := List Host.Cell

/-! ## Names -/

/-- R328, R333: the privilege of a strand. -/
inductive Priv where
  | user | supervisor | machine
  deriving DecidableEq, Repr

/-- R104: the state of a strand. -/
inductive StrandStatus where
  | free | live | ending
  deriving DecidableEq, Repr

/-- R90: the kind of a form. -/
inductive FormKind where
  | portable | native
  deriving DecidableEq, Repr

/-- R262: how far a drained store has reached. -/
inductive Reach where
  | c | d | h | s
  deriving DecidableEq, Repr

/-- R257: the state of a journal entry that is not FREE. -/
inductive JState where
  | posted | refused
  deriving DecidableEq, Repr

/-- R76: the state of a launch. -/
inductive LaunchState where
  | queued | ready | claiming | running | retired | discarded
  deriving DecidableEq, Repr

/-- R316: the state of a group table entry that is not FREE. -/
inductive GroupState where
  | opened | failed | preparing | publishing | aborting | committed | aborted
  deriving DecidableEq, Repr

/-- R319: the state of a group at a destination that is not NONE. -/
inductive DestState where
  | staging | refused | ready | applying
  deriving DecidableEq, Repr

/-- R302: the state of a route. -/
inductive RouteState where
  | idle | armed | ready
  deriving DecidableEq, Repr

/-! ## Strands -/

/-- R92, R101, R329, R333: where a strand resumes when the form it waits for is installed: at the entry, at a
waypoint, or at an offset of a form of one kind and content digest (`none`: of any form). -/
inductive Resume where
  | entry
  | waypoint (n : Nat)
  | exact (form : Option (FormKind × Digest)) (fpc : BitVec 24)
  deriving DecidableEq, Repr

/-- R101, R140, R333: the values kept with a strand parked on a code miss (form `none`: PFORM 2). -/
structure SavedPos where
  dir : BitVec 24
  fpc : BitVec 24
  form : Option FormKind
  ra : Word
  gp : Word
  dig : Digest
  deriving DecidableEq, Repr

/-- R92: a code miss. `handler` holds the cause of the trap whose handler entry it is (R328), and `counts` says that it is
the miss of a call or return, which retires when it is resumed (R365). -/
structure Miss where
  digest : Digest
  resume : Resume
  saved : SavedPos
  handler : Option Word
  counts : Bool
  deriving DecidableEq, Repr

/-- R92, R102, R121: where a strand is executing: in no form; in the form of a directory entry of its cluster; at
a first look-up not yet made, with the record that it looks up; parked on a code miss; on its way into the handler of a
trap, when a line of the handler's record is owned by a unit (R112, R265). -/
inductive Pos where
  | nowhere
  | inForm (entry : Nat)
  | first (record : List Byte)
  | miss (m : Miss)
  | entering (machine : Bool) (cause : Word) (saved : SavedPos)
  deriving DecidableEq, Repr

/-- R104: what a strand that is parked waits for; it executes the instruction at FPC again when the wait ends. -/
inductive Park where
  | vectorQueue
  | matrixQueue
  | matrixEntry
  | combining
  | engineQueue
  | syscallQueue
  | fifoFull (i : Nat)
  | fifoEmpty (i : Nat)
  | rxFull (q : Nat)
  | rxEmpty (q : Nat)
  | engineEmpty
  | helperFree (s : Nat)
  | helpersEnded
  | results
  | matrixDone
  | fence (scope : Nat)
  | exitStores
  | exitPosted
  | journalMask (mask : BitVec 64) (refused : Nat)
  | chain (ticket : BitVec 32)
  | tile (t : Nat)
  | ticket (t : BitVec 32)
  | watchWord
  | countObject (loc : Nat) (gen : BitVec 32)
  | barrier (ch : Nat)
  | arrival (ch : Nat)
  | helpersForBarrier
  | untilTick (t : Word)
  | counterReply (csr : BitVec 12) (op : Nat) (value tick : Word) (offered : Option Word)
  | wfi
  | holding
  | worldStop (t : Nat)
  | stackLimit (vpe : BitVec 24)
  | fetch (digest : Digest) (pin : Option (BitVec 5))
  | fill (reg : BitVec 5)
  | walk (va : Word) (store : Bool)
  | vqred
  | ownedLine (line : Nat)
  deriving DecidableEq, Repr

/-- The destination of a long-latency result (R106): an x register, a v register, or a pair of x registers (R243). -/
inductive Dst where
  | discard
  | x (rd : BitVec 5)
  | v (vd : BitVec 5)
  | pair (rd : BitVec 4)
  deriving DecidableEq, Repr

/-- R242: the lanes of a floating atomic. -/
inductive AtomFmt where
  | bf16x2
  | f16x2
  | f32
  | f64
  deriving DecidableEq, Repr

/-- R31, R241-R243: what an atomic makes of the value in memory. A compare-and-swap holds the value that it expects. -/
inductive AtomOp where
  | swap
  | add
  | xor
  | and
  | or
  | min
  | max
  | minu
  | maxu
  | fadd (f : AtomFmt)
  | fmin (f : AtomFmt)
  | fmax (f : AtomFmt)
  | cas (expected : Nat)
  deriving DecidableEq, Repr

/-- R244: an atomic that has issued and has still to take effect: its operation, its operand and its use. -/
structure AtomicWork where
  op : AtomOp
  operand : Nat
  use : BitVec 2
  deriving DecidableEq, Repr

/-- R106: an outstanding long-latency result: the steps that its load has still to perform, each with its place in the
result and its locations, and the bytes read so far; how a scalar is extended from `bits` bits; the instructions its
window still admits; whether a queue entry of the core brings it; the atomic that it is (R244); and whether it was
translated before the last shootdown (R234). -/
structure Pending where
  dst : Dst
  todo : List (Nat × List Nat)
  got : List Byte
  bits : Nat
  signed : Bool
  window : Nat
  queued : Bool
  atomic : Option AtomicWork := none
  early : Bool := false
  deriving DecidableEq, Repr

/-- R233, R261: a translated store in a store buffer; `early` says that it was there at the last shootdown (R234). -/
structure Store where
  cells : List (Nat × Byte)
  early : Bool := false
  deriving DecidableEq, Repr

/-- A strand (R43, R45, R104, R111, R328). `vAbsent` marks the v registers that must be filled from the image before
use, `vDirty` those that the image does not hold yet (R110). `heldS` and `heldM` hold, for each trap that has not
returned, the innermost first, the directory entry that the interrupted form keeps executed in (R328), if there was one.
`onHold` says that a ctxflush holds the strand (R134), `vPoison` marks the v registers whose line in the register cache is
poisoned (R229), and `failedWalks` the addresses whose walks have failed while the next instruction waited (R258). -/
structure Strand where
  status : StrandStatus
  x : Vector Word 32
  v : Vector Line 32
  p : Vector Pred 8
  q : Vector Word 8
  vAbsent : BitVec 32
  vDirty : BitVec 32
  vPoison : BitVec 32
  curdir : BitVec 24
  fpc : BitVec 24
  pos : Pos
  heldS : List (Option Nat)
  heldM : List (Option Nat)
  onHold : Bool
  priv : Priv
  pp : Bool
  kpfx : BitVec 32
  vround : BitVec 3
  vfflags : BitVec 5
  mcfgw : Word
  mstra : Word
  mstrb : Word
  mkLen : Word
  mrp : Word
  gsel : Word
  rqprog : Word
  instret : Word
  ctxbase : Word
  vpeid : BitVec 24
  vpecnt : BitVec 24
  sstepcnt : Word
  mstatus : Word
  sie : Word
  mie : Word
  ip : Word
  stvec : Word
  sscratch : Word
  sepc : Word
  scause : Word
  stval : Word
  medeleg : Word
  mideleg : Word
  mtvec : Word
  mscratch : Word
  mepc : Word
  mcause : Word
  mtval : Word
  mcounteren : Word
  park : Option Park
  failedWalks : List Word
  storeBuf : List Store
  pending : List Pending
  deriving DecidableEq, Repr

/-! ## Cores -/

/-- R107, R380: a vector-queue entry: its instruction, the x operands and vround.RM read at issue, and its place among
the entries of the core's two queues. -/
structure VEntry where
  strand : Nat
  instr : Instr
  xa : Word
  xb : Word
  rm : BitVec 3
  stamp : Nat
  deriving DecidableEq, Repr

/-- R189, R380: a matrix-queue entry: its instruction and everything it reads in its issue cycle. `chain` is the
ticket of the engine chain that placed it (R249). Once it has retired, `rowsA`, `rowsB` and `scales` are the operand
bytes that it read, from row `mrp` on, and `locs` the destinations of its rows (R190, R192). -/
structure MEntry where
  strand : Nat
  instr : Instr
  xa : Word
  xb : Word
  mcfgw : Word
  mstra : Word
  mstrb : Word
  mkLen : Word
  mrp : Word
  prefixWord : Option (BitVec 32)
  sregVal : Word
  chain : Option (BitVec 32)
  retired : Bool
  rowsA : List (List Byte)
  rowsB : List (List Byte)
  scales : List Byte
  locs : List (List Nat)
  stamp : Nat
  early : Bool := false
  deriving DecidableEq, Repr

/-- R253: an entry of a core FIFO or of a stream. -/
inductive QEntry where
  | scalar (w : Word)
  | vector (l : Line)
  deriving DecidableEq, Repr

/-- R308: a reserved slot of a receive queue and the request that fills it. A cancelled one takes no slot (R306). -/
structure RxSlot where
  chip : Nat
  addr : Nat
  tag : BitVec 16
  len : Nat
  cancelled : Bool
  deriving DecidableEq, Repr

/-- R306: a receive queue. -/
structure RxQueue where
  entries : List Line
  reserved : List RxSlot
  deriving DecidableEq, Repr

/-- R271, R309, R321: an entry of the combining buffer. -/
structure Combining where
  paddr : Nat
  data : List Byte
  cnt : Word
  cntLoc : Nat
  strand : Nat
  group : Option (BitVec 18)
  early : Bool := false
  deriving DecidableEq, Repr

/-- R257: an occupied journal entry. -/
structure JEntry where
  state : JState
  paddr : Nat
  len : Nat
  reason : BitVec 8
  strand : Nat
  tick : Word
  cnt : Word
  cntLoc : Nat
  gen : BitVec 32
  group : Option (BitVec 18)
  delivered : Bool
  early : Bool := false
  deriving DecidableEq, Repr

/-- R289: a write of a channel's word: of the membership word or else of the log word, by a strand below supervisor or not.
-/
structure ChannelWrite where
  membership : Bool
  user : Bool
  value : Word
  deriving DecidableEq, Repr

/-- R276-R282: a barrier channel of a core: membership word, log word, the slots arrived with their ticks, the arrival
standing in the tree, and the writes that wait for its release. -/
structure Channel where
  member : Word
  log : Word
  arrived : List (Nat × Word)
  sent : Option Word
  later : List ChannelWrite
  deriving DecidableEq, Repr

/-- R84, R86: a vpe slot: its identifier, whether it lives, its strands' context images, its milestone, and the
channel whose release it waits for. -/
structure Slot where
  vpeid : BitVec 24
  live : Bool
  images : List Word
  sstepcnt : Word
  waiting : Option Nat
  deriving DecidableEq, Repr

/-- R128: a system-call packet in the core's queue. -/
structure Packet where
  bytes : List Byte
  ticket : BitVec 32
  strong : Bool
  strand : Nat
  started : List (Nat × List Byte) := []
  deriving DecidableEq, Repr

/-- R232: a TLB entry, tagged with ASID and VF: virtual page number, page size in bits, and the leaf PTE. -/
structure TlbEntry where
  vf : BitVec 6
  asid : BitVec 16
  global : Bool
  vpn : Nat
  sizeBits : Nat
  pte : Word
  deriving DecidableEq, Repr

/-- A core (R11, R45, R105, R107, R111, R128, R137, R253, R306). `last` is the strand that issued last, `stall` the
strand whose next instruction stalls the core (R106), and `stopping` says that a wsw stops the core (R137). -/
structure Core where
  strands : Vector Strand 11
  last : Nat
  stall : Option Nat
  stopping : Bool
  cycle : Word
  vshare : BitVec 4
  evsel : Vector Word 4
  evcnt : Vector (BitVec 48) 4
  evallow : Vector Word 4
  evmode : Word
  ovf : BitVec 4
  satp : Word
  scounteren : Word
  wdesc : Word
  vf : BitVec 6
  ld : BitVec 4
  keyslot : Nat
  launch : Option LaunchKey
  fdir : Word
  nfdir : Nat
  modtab : Word
  nmod : Nat
  helpers : Nat
  spad : Nat
  first : Nat
  slots : List Slot
  slot : Nat
  syscalls : List Packet
  fenced : List (Nat × List Byte)
  completed : List (BitVec 32 × Word)
  ticket : BitVec 32
  fifos : Vector (List QEntry) 8
  rx : Vector RxQueue 16
  engineStream : List Word
  engineOvf : Bool
  combining : List Combining
  journal : SMap JEntry
  route : Word
  channels : Vector Channel 5
  vqueue : List VEntry
  mqueue : List MEntry
  mprog : Word
  samask : BitVec 4
  fuse : BitVec 2
  tlb : List TlbEntry
  debugStopped : Bool
  deriving DecidableEq, Repr

/-! ## Benches -/

/-- R245: a chain entry. -/
structure ChainEntry where
  op : Nat
  flags : BitVec 8
  smode : BitVec 8
  dmode : BitVec 8
  seq : BitVec 16
  pad : BitVec 16
  src : Word
  dst : Word
  len : BitVec 32
  rows : BitVec 32
  sstride : Word
  dstride : Word
  value : Word
  count : Word
  deriving DecidableEq, Repr

/-- R269: an entry of a chain that has started: the cells that it has still to write (locations with the bytes read for
them), before it completes or ends the chain with a code, having met poisoned data or a line that fails its check (R250,
R335); its whole destination; the location and generation of its count object. -/
structure Moving where
  index : Nat
  todo : List (Nat × Byte)
  plan : List Nat
  fails : Bool
  count : Option (Nat × BitVec 32)
  early : Bool := false
  deriving DecidableEq, Repr

/-- R250, R269: how far the next entry of a chain has come: not started; waiting for the executive's reply to a translation
failure, with the vpe whose stack limit it passed, if it did (R70); waiting for its matrix command (R249), with the location
and generation of its count object. -/
inductive EntryPhase where
  | waiting
  | faulted (limit : Option (BitVec 24))
  | matrix (count : Option (Nat × BitVec 32))
  deriving DecidableEq, Repr

/-- Does the entry wait for the executive's reply? -/
def EntryPhase.isFaulted : EntryPhase → Bool
  | .faulted _ => true
  | _ => false

/-- R247: a chain in an engine queue. `bad` is the entry where its form check ends it, with the code; `unread` the
ranges of source bytes, by entry, that it has still to read, and `unmapped` those whose pages have not translated yet (R248);
`gens` the generations that its count objects held when it was submitted (R284); `next` the entry that starts next, and
`moving` those that have started, in order; the last five fields are the address space of its strand (R246). -/
structure Chain where
  entries : List ChainEntry
  ticket : BitVec 32
  core : Nat
  strand : Nat
  bad : Option (Nat × Nat)
  unread : List (Nat × Nat × Nat)
  unmapped : List (Nat × Word × Nat)
  gens : List (Option (BitVec 32))
  next : Nat
  phase : EntryPhase
  moving : List Moving
  marked : List Nat
  priv : Priv
  sum : Bool
  mxr : Bool
  satp : Word
  vf : BitVec 6
  deriving DecidableEq, Repr

/-- R205: the coverage state of one sub-array: 4,096 best values, 64 gains, and the tie-break mode. -/
structure Coverage where
  best : SMap (BitVec 32)
  gain : SMap (BitVec 32)
  mode : BitVec 2
  deriving DecidableEq, Repr

/-- R107, R108: an entry bound to a lane group. -/
structure Bound where
  core : Nat
  entry : VEntry
  deriving DecidableEq, Repr

/-- R110, R229, R336: the line of a strand that has been switched out: the line, what memory held at its place then, and
whether the line is dirty, and poisoned. -/
structure OutLine where
  line : Line
  seen : Line
  dirty : Bool
  poison : Bool
  deriving DecidableEq, Repr

/-- R110, R336: a line held in the register cache, with the address of its image. The line of a loaded strand (`out` none)
stands in the strand. -/
structure RegLine where
  core : Nat
  strand : Nat
  reg : BitVec 5
  image : Word
  out : Option OutLine
  deriving DecidableEq, Repr

/-- A bench (R11, R108, R110, R179-R181, R205, R247, R255). -/
structure Bench where
  owner : Vector (Option Nat) 4
  acc : SMap (BitVec 32)
  coverage : Vector Coverage 4
  ptr : Nat
  deficit : Vector Nat 4
  credited : Vector Bool 4
  groups : Vector (Option Bound) 4
  regCache : List RegLine
  chains : List Chain
  chainTicket : BitVec 32
  chainsEnded : List (BitVec 32 × Word)
  turn : Nat
  owned : List Nat
  bin : Word
  fills : SMap Nat
  tlb : List TlbEntry
  pipeTlb : List TlbEntry
  deriving DecidableEq, Repr

/-! ## Clusters -/

/-- R90: a VALID entry of a code directory, with the form itself, and the translator key of a native form (R95). -/
structure DirEntry where
  digest : Digest
  vf : BitVec 6
  kind : FormKind
  pinned : Bool
  hold : Bool
  isOver : Bool
  nwp : Nat
  src : Nat
  last : BitVec 32
  firstPage : Nat
  content : Digest
  keyId : Digest
  wptab : List Nat
  code : List Byte
  deriving DecidableEq, Repr

/-- A verified form on its way to a shelf (R93, R101). -/
structure Form where
  kind : FormKind
  content : Digest
  nwp : Nat
  wptab : List Nat
  code : List Byte
  src : Nat
  keyId : Digest
  deriving DecidableEq, Repr

/-- R92, R93, R95, R102: a fetch in flight, with the core that started it, the trust entry read at its start, the source
that answers next (of source 4, the peer), the portable form it holds, and, once it waits for shelf room, the form to
install. -/
structure Fetch where
  digest : Digest
  vf : BitVec 6
  portOnly : Bool
  accept : Option (FormKind × Digest)
  core : Nat
  executive : Bool
  entry : List Byte
  next : Nat
  peer : Nat
  held : Option Form
  install : Option Form
  deriving DecidableEq, Repr

/-- R224: a line of the constant cache, as it was filled. -/
structure ConstLine where
  vf : BitVec 6
  line : Nat
  bytes : Line
  deriving DecidableEq, Repr

/-- A cluster (R11, R89-R92, R100, R224). `aged` counts the periods of 2^30 core cycles whose aging has been made (R102). -/
structure Cluster where
  dir : SMap DirEntry
  pages : SMap (BitVec 16)
  rejections : Vector (BitVec 32) 8
  cdlim : BitVec 7
  fetches : List Fetch
  aged : Nat
  constCache : List ConstLine
  deriving DecidableEq, Repr

/-! ## Memory -/

/-- R262: a store that has left its store buffer: its bytes, the core or engine die that holds it, its reach, and the entry
of a chain that wrote it, by bench, ticket and index (R269). -/
structure Drained where
  cells : List (Nat × Byte)
  core : Nat
  die : Nat
  reach : Reach
  engine : Bool
  entry : Option (Nat × BitVec 32 × Nat) := none
  deriving DecidableEq, Repr

/-- R225, R226: a line of a core's L1, with its SCOPE tag. -/
structure L1Line where
  core : Nat
  line : Nat
  scope : BitVec 3
  deriving DecidableEq, Repr

/-- R225, R355: a line of the L2 of a die, with its owner tag. -/
structure L2Line where
  die : Nat
  line : Nat
  vf : BitVec 6
  deriving DecidableEq, Repr

/-- R225, R355: a line of the L3 that is its home, with its owner tag. -/
structure L3Line where
  line : Nat
  vf : BitVec 6
  deriving DecidableEq, Repr

/-- R225: where an access meets the caches: at a core's L1, at the directory of a die, at the home. -/
inductive CacheUser where
  | core (c : Nat)
  | die (d : Nat)
  | home
  deriving DecidableEq, Repr

/-- R225, R226, R355, R365: an access to a line that the caches have still to serve: where it meets them, the VF of the agent
that makes it, the scope of a store, and a core whose counters do not count it. -/
structure CacheUse where
  user : CacheUser
  vf : BitVec 6
  line : Nat
  scope : Option (BitVec 3)
  uncounted : Option Nat
  deriving DecidableEq, Repr

/-- R138, R286: a watch on a 256-byte line. -/
structure Watch where
  core : Nat
  strand : Nat
  line : Nat
  fired : Bool
  deriving DecidableEq, Repr

/-- R31: a reservation on a 256-byte line. -/
structure Reservation where
  core : Nat
  strand : Nat
  line : Nat
  deriving DecidableEq, Repr

/-- R220: the state of a scratchpad tile. -/
structure Tile where
  mode : BitVec 3
  seq : BitVec 16
  deriving DecidableEq, Repr

/-- R332, R334: a context image in use: the places of its header and of its lines 4 to 39 in memory, and its address. -/
structure Image where
  head : Nat
  image : Word
  lines : List Nat
  deriving DecidableEq, Repr

/-- R334: a context line that has left the die: its place in memory, that of its image's header, the image's address, its
index, and the serial number of the key that sealed it (`none`: no key, so that every check fails, R373). -/
structure SealedLine where
  loc : Nat
  head : Nat
  image : Word
  index : Nat
  key : Option Nat
  deriving DecidableEq, Repr

/-! ## Launches -/

/-- R73-R88: a launch: the address space of the strand that executed `launch`, its place in the states of R76, the
clusters claimed on this chip, and this chip's rank among the claimed `chips`. `woken` says that its cores have been
started here, `localDone` that every vpe here has ended, and `releases` how often each group, named by channel, GROUP and
SPAN, has been released here (R282). -/
structure Launch where
  lid : BitVec 32
  lpb : List Byte
  satp : Word
  vf : BitVec 6
  issuer : Nat
  priv : Priv
  sum : Bool
  mxr : Bool
  issuerCore : Nat
  state : LaunchState
  code : BitVec 16
  detail : BitVec 16
  readyTick : Word
  notBefore : Word
  doneLoc : Nat
  doneGen : BitVec 32
  preLocs : List Nat
  chips : List Nat
  rank : Nat
  clusters : List Nat
  reports : List (Nat × ClaimReport)
  endedChips : List Nat
  woken : Bool
  localDone : Bool
  debugStop : Bool
  stoppedChips : List (Nat × Option Word)
  releases : List (Nat × Nat × Nat × BitVec 32)
  pendingCode : Option (BitVec 16 × BitVec 16)
  deriving DecidableEq, Repr

/-- R69, R70: the stack of a strand of a vpe: the address space it lies in, its top, its limit in bytes, and how many bytes
below its top are mapped. -/
structure StackRange where
  launch : LaunchKey
  vpeid : BitVec 24
  strand : Nat
  satp : Word
  top : Nat
  limit : Nat
  mapped : Nat
  deriving DecidableEq, Repr

/-- A logical device (R74, R78, R79, R216, R341, R343, R346, R351). `quiescing` says that its tenant keys are still to be
cleared (R375). -/
structure Ld where
  bound : Bool
  seq : BitVec 28
  weight : Nat
  deficit : Nat
  partition : SMap (BitVec 256)
  spadOff : Nat
  spadLen : Nat
  ramap : Nat
  window : Nat
  queues : Nat
  nqueues : Nat
  hdmBase : Nat
  hdmSize : Nat
  accept : Word
  windowInvalid : Bool
  quiescing : Bool
  framingErrors : Nat
  deriving DecidableEq, Repr

/-! ## Fabric and groups -/

/-- R312, R316: an occupied entry of the group table. `abortSent` says that abort has gone out (R318). -/
structure Group where
  state : GroupState
  core : Nat
  vf : BitVec 6
  dests : List (Nat × Nat)
  reason : BitVec 8
  pubTick : Word
  count : Word
  countLoc : Nat
  gen : BitVec 32
  prepared : Bool
  prepareTick : Word
  answered : List Nat
  abortSent : Bool
  acked : List Nat
  deriving DecidableEq, Repr

/-- R313, R319: a group at this chip as destination, with its staged stores in staging order and the die whose
staging table holds each. -/
structure DestGroup where
  group : BitVec 18
  state : DestState
  reason : BitVec 8
  atTick : Word
  staged : List (Nat × List (Nat × Byte))
  count : Nat
  deriving DecidableEq, Repr

/-- R300, R302: a route loaded for a launch: its records on this chip, state, firing number, completions of its
trigger still to be served, the inputs held, the local source read, and the records that have acted. For a barrier's
route (R280), `waiting` says that the members' arrival has been taken and not released, and `release` is the tick T
that releases it. -/
structure Route where
  launch : LaunchKey
  route : Nat
  records : List (List Byte)
  state : RouteState
  readyTick : Word
  firing : Nat
  triggers : Nat
  inputs : List (Nat × Nat × List Byte)
  source : Option (List Byte)
  acted : List Nat
  waiting : Bool
  release : Option Word
  deriving DecidableEq, Repr

/-- What leaves the machine: fabric messages, code requests and their answers, control-lane and group messages, host,
Ethernet and storage traffic, SPDM answers. -/
inductive Out where
  | message (chip : Nat) (bytes : List Byte)
  | codeRequest (chip : Nat) (digest : Digest) (model : BitVec 32)
  | code (chip : Nat) (digest : Digest) (offers : List Offer)
  | groupMessage (chip : Nat) (kind : Nat) (group : BitVec 18) (value : Word)
  | launchMessage (chip : Nat) (kind : Nat) (lid : BitVec 32) (value : Word)
  | claim (chip : Nat) (m : ClaimMsg)
  | scheduled (port : Nat) (bytes : List Byte)
  | host (ld : BitVec 4) (bytes : List Byte)
  | eth (ld : BitVec 4) (qp : Nat) (bytes : List Byte)
  | ethNak (ld : BitVec 4) (qp : Nat) (kind : Nat)
  | store (object offset : Word) (bytes : List Byte)
  | spdm (ep : Nat) (bytes : List Byte)
  | shootdown (chip : Nat) (e : CtlArgs) (mask : BitVec 4096)
  | shootdownAck (chip core : Nat)
  deriving DecidableEq, Repr

/-- R298: a dynamic message that waits at an output port for flits: the input port from which it came (24: this chip), and
its flits. -/
structure Waiting where
  port : Nat
  input : Nat
  what : Out
  flits : Nat
  deriving DecidableEq, Repr

/-! ## Hosts and security -/

/-- R348: a queue pair, of the reliable-connected kind or of the unreliable-datagram one. -/
structure Qp where
  ld : BitVec 4
  number : Nat
  reliable : Bool
  srq : Nat
  queue : Nat
  error : Bool
  sends : List Word
  deriving DecidableEq, Repr

/-- R348: a buffer posted to a shared receive queue: the locations of its bytes and its cookie. -/
structure SrqBuffer where
  ld : BitVec 4
  srq : Nat
  locs : List Nat
  cookie : Word
  deriving DecidableEq, Repr

/-- R370, R371: an SPDM endpoint: how many of VERSION, CAPABILITIES and ALGORITHMS have been given, and its transcript: those
exchanges, those for the certificate chain, and those for measurements. -/
structure Endpoint where
  stage : Nat
  opening : List Byte
  certificates : List Byte
  measurements : List Byte
  deriving DecidableEq, Repr

/-- R373, R374: a tenant key slot that holds a key, the `serial`th that was loaded. -/
structure KeySlot where
  key : BitVec 256
  serial : Nat
  owner : Option (BitVec 4)
  vf : BitVec 6
  deriving DecidableEq, Repr

/-- R234: a shootdown in progress: the chip whose executive started it, the cores here that have not acknowledged, and, for
one that was started here, the other chips' cores that have not. -/
structure Shootdown where
  vf : BitVec 6
  asid : Option (BitVec 16)
  base : Word
  length : Word
  issuer : Nat
  waiting : List Nat
  others : List (Nat × Nat)
  deriving DecidableEq, Repr

/-- R17, R19, R296, R376-R379: bring-up, clocks, the tick, the pod configuration and the ports that have a cable. -/
structure Chip where
  stage : BitVec 4
  stop : BitVec 8
  locked : Bool
  throttled : Bool
  podcfg : BitVec 32
  cables : BitVec 24
  tick : Word
  serverMask : BitVec 1024
  bootEntry : Word
  bootFdir : Word
  bootNfdir : Nat
  bootModtab : Word
  bootNmod : Nat
  framingErrors : Nat
  deriving DecidableEq, Repr

/-- R367-R375: the security core, with the device identity record once it is verified, and how many tenant keys have been
loaded. -/
structure Security where
  mr : Vector (BitVec 384) 16
  frozen : Bool
  endpoints : SMap Endpoint
  keys : SMap KeySlot
  keysLoaded : Nat
  identity : Option DeviceIdentity
  chain : List Byte
  deriving DecidableEq, Repr

/-- R256: a key-route record that has not reached its bench. -/
structure KeySend where
  core : Nat
  strand : Nat
  rd : BitVec 5
  bench : Nat
  key : Word
  value : Word
  deriving DecidableEq, Repr

/-- A move of the schedule: a step of another agent, a core whose strand issues, or the passing of a tick (DESIGN CHOICE,
log entry 1). The executive opens a queue pair by means that R348 does not give (DESIGN CHOICE, log entry 75). -/
inductive Move where
  | event (i : Instr)
  | openPair (q : Qp)
  | control
  | core (c : Nat)
  | tick
  deriving DecidableEq, Repr

/-- The module. -/
structure State where
  cores : SMap Core
  benches : SMap Bench
  clusters : SMap Cluster
  lds : SMap Ld
  chip : Chip
  mem : Memory
  drained : List Drained
  l1 : List L1Line
  l2 : List L2Line
  l3 : List L3Line
  cacheUses : List CacheUse
  walks : List (Nat × Nat)
  watches : List Watch
  reservations : List Reservation
  tiles : SMap Tile
  tilesInFlight : List Nat
  poisoned : List Nat
  images : List Image
  sealedLines : List SealedLine
  launches : List Launch
  stackRanges : List StackRange
  endedRecords : List (BitVec 32 × List Byte)
  decremented : List Nat
  rechecked : Nat
  roundTick : Option Word
  trust : Option Nat
  modStore : Nat
  nslot : Nat
  ctlq : Nat
  groups : SMap Group
  destGroups : List DestGroup
  staging : Vector Nat 8
  routes : List Route
  waiting : List Waiting
  portTurns : SMap Nat
  sends : List KeySend
  qps : List Qp
  srqBuffers : List SrqBuffer
  shootdown : Option Shootdown
  foreignShootdowns : List Shootdown
  security : Security
  outbox : List Out
  moves : List Move
  here : Nat
  cur : Nat
  deferred : Bool
  fresh : Nat
  retired : Nat
  heldTraces : List (Nat × List Byte)
  deriving DecidableEq, Repr

/-! ## Outcomes -/

/-- Why the machine stops. -/
inductive Fault where
  /-- Raised by `step` when a move of the schedule names a core, strand, bench, cluster or lane group that the module
  does not have, so that no agent can take the step. Safe: no machine takes it either. -/
  | noSuchAgent
  deriving DecidableEq, Repr

/-- Why an instruction has no meaning. -/
inductive Refusal where
  /-- Raised by an arm of `exec` whose instruction has no meaning yet. Safe. -/
  | notModelled (mnemonic : String)
  deriving DecidableEq, Repr

/-! ## Reset -/

/-- A strand after reset: FREE; R45, R47-R49 give its CSRs, R43 its p0. The other values are the model's: DESIGN CHOICE, log
entry 3; for the trap CSRs PRESUMED, entry 10. -/
def Strand.reset : Strand where
  status := .free
  x := Vector.replicate 32 0
  v := Vector.replicate 32 0
  p := (Vector.replicate 8 0).set 0 (BitVec.allOnes 256)
  q := Vector.replicate 8 0
  vAbsent := 0
  vDirty := 0
  vPoison := 0
  curdir := 0
  fpc := 0
  pos := .nowhere
  heldS := []
  heldM := []
  onHold := false
  priv := .user
  pp := false
  kpfx := 0x300B#32
  vround := 0
  vfflags := 0
  mcfgw := 0
  mstra := 0
  mstrb := 0
  mkLen := 0
  mrp := 0
  gsel := 0
  rqprog := 0
  instret := 0
  ctxbase := 0
  vpeid := 0
  vpecnt := 0
  sstepcnt := 0
  mstatus := 0
  sie := 0
  mie := 0
  ip := 0
  stvec := 0
  sscratch := 0
  sepc := 0
  scause := 0
  stval := 0
  medeleg := 0
  mideleg := 0
  mtvec := 0
  mscratch := 0
  mepc := 0
  mcause := 0
  mtval := 0
  mcounteren := 0
  park := none
  failedWalks := []
  storeBuf := []
  pending := []

/-- A barrier channel after reset (R278, R282). -/
def Channel.reset : Channel where
  member := 0
  log := 0
  arrived := []
  sent := none
  later := []

/-- A core after reset: vshare is 1 (R45), s is 10 (R105), and the ticket is 1 (R128).
The values that no rule gives are the model's: DESIGN CHOICE, log entry 3; for satp and scounteren PRESUMED, entry 10. -/
def Core.reset : Core where
  strands := Vector.replicate 11 Strand.reset
  last := 10
  stall := none
  stopping := false
  cycle := 0
  vshare := 1
  evsel := Vector.replicate 4 0
  evcnt := Vector.replicate 4 0
  evallow := Vector.replicate 4 0
  evmode := 0
  ovf := 0
  satp := 0
  scounteren := 0
  wdesc := 0
  vf := 0
  ld := 0
  keyslot := 0
  launch := none
  fdir := 0
  nfdir := 0
  modtab := 0
  nmod := 0
  helpers := 0
  spad := 0
  first := 0
  slots := []
  slot := 0
  syscalls := []
  fenced := []
  completed := []
  ticket := 1
  fifos := Vector.replicate 8 []
  rx := Vector.replicate 16 { entries := [], reserved := [] }
  engineStream := []
  engineOvf := false
  combining := []
  journal := []
  route := 0
  channels := Vector.replicate 5 Channel.reset
  vqueue := []
  mqueue := []
  mprog := 0
  samask := 0
  fuse := 0
  tlb := []
  debugStopped := false

/-- A bench after reset: nothing owned, every array 0, the engine ticket 1 (R108, R247, R378). -/
def Bench.reset : Bench where
  owner := Vector.replicate 4 none
  acc := []
  coverage := Vector.replicate 4 { best := [], gain := [], mode := 0 }
  ptr := 0
  deficit := Vector.replicate 4 0
  credited := Vector.replicate 4 false
  groups := Vector.replicate 4 none
  regCache := []
  chains := []
  chainTicket := 1
  chainsEnded := []
  turn := 0
  owned := []
  bin := 0
  fills := []
  tlb := []
  pipeTlb := []

/-- A cluster after reset: nothing VALID, cdlim 64 (R45), the rejection counters 0 (R100). -/
def Cluster.reset : Cluster where
  dir := []
  pages := []
  rejections := Vector.replicate 8 0
  cdlim := 64
  fetches := []
  aged := 0
  constCache := []

/-- A logical device after reset: bound to no host. Its weight, partition and bases are DESIGN CHOICE, log entry 8. -/
def Ld.reset : Ld where
  bound := false
  seq := 1
  weight := 1
  deficit := 0
  partition := []
  spadOff := 0
  spadLen := 0
  ramap := 0
  window := 0
  queues := 0
  nqueues := 0
  hdmBase := 0
  hdmSize := 0
  accept := 0
  windowInvalid := false
  quiescing := false
  framingErrors := 0

/-- R13: the default mask: bench 0 of cluster 0 of each compute die. -/
def defaultServerMask : BitVec 1024 :=
  (List.range 8).foldl (fun m d => m ||| (1#1024 <<< (128 * d))) 0

/-- The module right after reset: every strand FREE, the tick UNLOCKED at 0 (R296), STAGE and STOP 0 (R379), the
default server mask (R13), nothing in memory. The schedule, `here`, `cur`, `deferred`, `fresh`, `retired` and `heldTraces`
are the model's own (DESIGN CHOICE, log entries 1, 5, 7); so are the boot record values and the cables before a cold reset (entry 3). -/
def State.reset : State where
  cores := []
  benches := []
  clusters := []
  lds := []
  chip :=
    { stage := 0, stop := 0, locked := false, throttled := false, podcfg := 0, cables := 0, tick := 0,
      serverMask := defaultServerMask, bootEntry := 0, bootFdir := 0, bootNfdir := 0, bootModtab := 0,
      bootNmod := 0, framingErrors := 0 }
  mem := []
  drained := []
  l1 := []
  l2 := []
  l3 := []
  cacheUses := []
  walks := []
  watches := []
  reservations := []
  tiles := []
  tilesInFlight := []
  poisoned := []
  images := []
  sealedLines := []
  launches := []
  stackRanges := []
  endedRecords := []
  decremented := []
  rechecked := 0
  roundTick := none
  trust := none
  modStore := 0
  nslot := 0
  ctlq := 0
  groups := []
  destGroups := []
  staging := Vector.replicate 8 0
  routes := []
  waiting := []
  portTurns := []
  sends := []
  qps := []
  srqBuffers := []
  shootdown := none
  foreignShootdowns := []
  security :=
    { mr := Vector.replicate 16 0, frozen := false, endpoints := [], keys := [], keysLoaded := 0, identity := none,
      chain := [] }
  outbox := []
  moves := []
  here := 0
  cur := 0
  deferred := false
  fresh := 0
  retired := 0
  heldTraces := []

end Sys2Proof.Machine
end

