-- ==== Sys2Proof/Machine/Map.lean ====
section
/-! DEFINITION. Sparse maps and byte memory in canonical form: keys strictly rising, and no entry equal to the
default. -/

namespace Sys2Proof.Machine

/-- The entry at key `k`, if the key is listed. -/
def mapFind {α : Type} : SMap α → Nat → Option α
  | [], _ => none
  | (k', v) :: m, k => if k = k' then some v else mapFind m k

/-- The value at key `k`, or the default `d` of an unlisted key. -/
def mapGet {α : Type} (d : α) (m : SMap α) (k : Nat) : α := (mapFind m k).getD d

/-- The map with the value `v` at key `k`; a value equal to the default leaves the key unlisted. -/
def mapSet {α : Type} [DecidableEq α] (d : α) : SMap α → Nat → α → SMap α
  | [], k, v => if v = d then [] else [(k, v)]
  | (k', v') :: m, k, v =>
    if v = d then (if k = k' then mapSet d m k v else (k', v') :: mapSet d m k v)
    else if k < k' then (k, v) :: (k', v') :: m
    else if k = k' then (k, v) :: m
    else (k', v') :: mapSet d m k v

/-- The map without key `k`. -/
def mapErase {α : Type} : SMap α → Nat → SMap α
  | [], _ => []
  | (k', v') :: m, k => if k = k' then m else (k', v') :: mapErase m k

/-- The map with the entry `v` at key `k`, listed whatever it is. -/
def mapPut {α : Type} : SMap α → Nat → α → SMap α
  | [], k, v => [(k, v)]
  | (k', v') :: m, k, v =>
    if k < k' then (k, v) :: (k', v') :: m
    else if k = k' then (k, v) :: m
    else (k', v') :: mapPut m k v

/-- Every key of the map is above `b`, keys rise strictly, and no entry equals the default. -/
def mapWfAbove {α : Type} [DecidableEq α] (d : α) : Option Nat → SMap α → Bool
  | _, [] => true
  | b, (k, v) :: m =>
    (match b with
    | none => true
    | some b => decide (b < k)) && decide (v ≠ d) && mapWfAbove d (some k) m

/-- The canonical form of a sparse map with default `d`. -/
def mapWf {α : Type} [DecidableEq α] (d : α) (m : SMap α) : Bool := mapWfAbove d none m

/-- What a byte of memory that nothing has written reads as: SRAM is cleared (R378); for device and host memory DESIGN
CHOICE, log entry 4. -/
def emptyByte : Byte := 0

/-- The byte held at a location. -/
def Memory.byte (m : Memory) (loc : Nat) : Byte := mapGet emptyByte m loc

/-- Memory with a byte stored at a location. -/
def Memory.store (m : Memory) (loc : Nat) (b : Byte) : Memory := mapSet emptyByte m loc b

/-- Memory with the cells stored; of two cells for one location the first counts. -/
def Memory.storeAll (m : Memory) (cells : List (Nat × Byte)) : Memory :=
  cells.foldr (fun c m => Memory.store m c.1 c.2) m

/-- The canonical form of memory. -/
def Memory.wf (m : Memory) : Bool := mapWf emptyByte m

end Sys2Proof.Machine
end

