-- ==== Sys2Proof/Machine/Access.lean ====
section
/-! DEFINITION. Reading and writing the pieces of the state: cores, strands, benches, clusters, logical devices,
and the registers of the issuing strand. -/

namespace Sys2Proof.Machine

/-! ## Cores and strands -/

/-- The core numbered `c`. -/
def State.core (s : State) (c : Nat) : Core := mapGet Core.reset s.cores c

/-- The state with core `c` replaced. -/
def State.setCore (s : State) (c : Nat) (k : Core) : State := { s with cores := mapPut s.cores c k }

/-- The state with core `c` changed by `f`. -/
def State.modCore (s : State) (c : Nat) (f : Core → Core) : State := s.setCore c (f (s.core c))

/-- Strand `i` of a core. -/
def Core.strand (k : Core) (i : Nat) : Strand := k.strands[i]?.getD Strand.reset

/-- The core with strand `i` replaced. -/
def Core.setStrand (k : Core) (i : Nat) (t : Strand) : Core :=
  { k with strands := k.strands.setIfInBounds i t }

/-- Strand `i` of core `c`. -/
def State.strand (s : State) (c i : Nat) : Strand := (s.core c).strand i

/-- The state with strand `i` of core `c` replaced. -/
def State.setStrand (s : State) (c i : Nat) (t : Strand) : State :=
  s.setCore c ((s.core c).setStrand i t)

/-- The state with strand `i` of core `c` changed by `f`. -/
def State.modStrand (s : State) (c i : Nat) (f : Strand → Strand) : State :=
  s.setStrand c i (f (s.strand c i))

/-- The core whose strand issues. -/
def State.myCore (s : State) : Core := s.core s.here

/-- The strand that issues. -/
def State.me (s : State) : Strand := s.strand s.here s.cur

/-- The state with the issuing strand replaced. -/
def State.setMe (s : State) (t : Strand) : State := s.setStrand s.here s.cur t

/-- The state with the issuing strand changed by `f`. -/
def State.modMe (s : State) (f : Strand → Strand) : State := s.setMe (f s.me)

/-- R353: one more instruction has retired (the count is the model's own: `closeIssue` reads it). -/
def State.tally (s : State) : State := { s with retired := s.retired + 1 }

/-- The state with the issuing core changed by `f`. -/
def State.modMyCore (s : State) (f : Core → Core) : State := s.modCore s.here f

/-! ## Registers -/

/-- R43: reading an x register; x0 reads 0. -/
def Strand.readX (t : Strand) (r : BitVec 5) : Word := if r = 0#5 then 0 else t.x[r.toNat]

/-- R43: writing an x register; x0 ignores the write. -/
def Strand.writeX (t : Strand) (r : BitVec 5) (w : Word) : Strand :=
  if r = 0#5 then t else { t with x := t.x.set r.toNat w }

/-- Reading a v register. -/
def Strand.readV (t : Strand) (r : BitVec 5) : Line := t.v[r.toNat]

/-- R110, R229: writing a v register; its line becomes dirty, and is poisoned no longer. -/
def Strand.writeV (t : Strand) (r : BitVec 5) (l : Line) : Strand :=
  { t with v := t.v.set r.toNat l, vDirty := t.vDirty ||| (1#32 <<< r.toNat), vPoison := t.vPoison &&& ~~~(1#32 <<< r.toNat) }

/-- R43: reading a p register; p0 reads all ones. -/
def Strand.readP (t : Strand) (r : BitVec 3) : Pred := if r = 0#3 then BitVec.allOnes 256 else t.p[r.toNat]

/-- R43: writing a p register; p0 ignores the write. -/
def Strand.writeP (t : Strand) (r : BitVec 3) (b : Pred) : Strand :=
  if r = 0#3 then t else { t with p := t.p.set r.toNat b }

/-- The x register of the issuing strand. -/
def State.x (s : State) (r : BitVec 5) : Word := s.me.readX r

/-- The state with an x register of the issuing strand written. -/
def State.writeX (s : State) (r : BitVec 5) (w : Word) : State := s.modMe (·.writeX r w)

/-- The v register of the issuing strand. -/
def State.v (s : State) (r : BitVec 5) : Line := s.me.readV r

/-- The state with a v register of the issuing strand written. -/
def State.writeV (s : State) (r : BitVec 5) (l : Line) : State := s.modMe (·.writeV r l)

/-- The p register of the issuing strand. -/
def State.p (s : State) (r : BitVec 3) : Pred := s.me.readP r

/-- The state with a p register of the issuing strand written. -/
def State.writeP (s : State) (r : BitVec 3) (b : Pred) : State := s.modMe (·.writeP r b)

/-! ## Benches, clusters, logical devices -/

/-- The bench numbered `b`, coreid div 4 (R12). -/
def State.bench (s : State) (b : Nat) : Bench := mapGet Bench.reset s.benches b

/-- The state with bench `b` replaced. -/
def State.setBench (s : State) (b : Nat) (k : Bench) : State := { s with benches := mapPut s.benches b k }

/-- The state with bench `b` changed by `f`. -/
def State.modBench (s : State) (b : Nat) (f : Bench → Bench) : State := s.setBench b (f (s.bench b))

/-- The cluster numbered `l`, DIE·32 + CLUSTER (R12, R79). -/
def State.cluster (s : State) (l : Nat) : Cluster := mapGet Cluster.reset s.clusters l

/-- The state with cluster `l` replaced. -/
def State.setCluster (s : State) (l : Nat) (k : Cluster) : State :=
  { s with clusters := mapPut s.clusters l k }

/-- The state with cluster `l` changed by `f`. -/
def State.modCluster (s : State) (l : Nat) (f : Cluster → Cluster) : State :=
  s.setCluster l (f (s.cluster l))

/-- Logical device `n`. -/
def State.ld (s : State) (n : Nat) : Ld := mapGet Ld.reset s.lds n

/-- The state with logical device `n` changed by `f`. -/
def State.modLd (s : State) (n : Nat) (f : Ld → Ld) : State := { s with lds := mapPut s.lds n (f (s.ld n)) }

/-! ## Tiles -/

/-- R220: the state of a tile; every tile holds zeros at first. -/
def State.tile (s : State) (t : Nat) : Tile := mapGet { mode := 0, seq := 0 } s.tiles t

/-- The state with a tile's state set. -/
def State.setTile (s : State) (t : Nat) (x : Tile) : State :=
  { s with tiles := mapSet { mode := 0, seq := 0 } s.tiles t x }

/-! ## The flat core number (R12) -/

/-- The die of a core. -/
def dieOf (c : Nat) : Nat := c / 512

/-- The chip cluster of a core. -/
def clusterOf (c : Nat) : Nat := c / 16

/-- The bench of a core. -/
def benchOf (c : Nat) : Nat := c / 4

/-- The cores of a cluster, in order. -/
def coresOfCluster (l : Nat) : List Nat := (List.range 16).map (16 * l + ·)

/-- The cores of a bench, in order. -/
def coresOfBench (b : Nat) : List Nat := (List.range 4).map (4 * b + ·)

/-- The strands of a core. -/
def allStrands : List Nat := List.range 11

/-- R13, R340: is the core a server core? -/
def State.isServer (s : State) (c : Nat) : Bool := s.chip.serverMask.getLsbD (c / 4)

/-- R295, R379: this chip's number. -/
def State.chipNumber (s : State) : Nat := (s.chip.podcfg.extractLsb' 0 10).toNat

/-- R340: the strands of a server core that run in no launch and no world are the resident executive's. -/
def State.isExecutive (s : State) (c : Nat) : Bool :=
  s.isServer c && (s.core c).launch.isNone && (s.core c).wdesc == 0

/-- R85: the virtual function under which a core's strands run: the world's, or 4·LD in a launch, or 0. -/
def Core.vfNow (k : Core) : BitVec 6 :=
  if k.wdesc ≠ 0 then k.vf
  else if k.launch.isSome then BitVec.ofNat 6 (4 * k.ld.toNat)
  else 0

/-- Bits `lo`, `lo + 1`, … of a word, `n` of them, as a number. -/
def field (w : Word) (lo n : Nat) : Nat := (w.extractLsb' lo n).toNat

/-- The bytes of a line, lowest address first. -/
def lineBytes (l : Line) : List Byte := (List.range 256).map (fun i => l.extractLsb' (8 * i) 8)

/-- The line whose bytes are the list's; missing bytes are 0. -/
def lineOf (bs : List Byte) : Line := BitVec.ofNat 2048 (leNat bs)

/-- The 64-bit value of the first eight bytes of a list. -/
def wordOf (bs : List Byte) : Word := BitVec.ofNat 64 (leNat (bs.take 8))

/-- Bytes `off`, `off + 1`, … of a record, `n` of them, as a number. -/
def recNat (bs : List Byte) (off n : Nat) : Nat := leNat ((bs.drop off).take n)

/-- Eight bytes of a record at `off`. -/
def recWord (bs : List Byte) (off : Nat) : Word := BitVec.ofNat 64 (recNat bs off 8)

/-! ## How an instruction ends early -/

/-- An instruction that does not complete: it takes an exception, in a state that differs from the one it began in
only where its own rule says so, or its strand parks (R104, R327). -/
inductive Stop where
  | trap (cause tval : Word) (s : State)
  | wait (p : Park) (s : State)
  deriving DecidableEq, Repr

/-- The causes of R326. -/
def causeIllegal : Word := 2
def causeLoadMisaligned : Word := 4
def causeLoadAccess : Word := 5
def causeStoreMisaligned : Word := 6
def causeStoreAccess : Word := 7
def causeLoadPage : Word := 13
def causeStorePage : Word := 15
def causeCodeBound : Word := 24
def causeCallHandle : Word := 25
def causeReturnHandle : Word := 26
def causeCodePermission : Word := 27
def causeCodeFetch : Word := 28
def causeHelperLive : Word := 29
def causeSchedule : Word := 30
def causeQueue : Word := 31
def causeMatrix : Word := 48
def causeGroup : Word := 49
def causeMemory : Word := 50
def causeIntegrity : Word := 51

/-- The cause of the interrupt of code `n` (R326). -/
def interruptCause (n : Nat) : Word := BitVec.ofNat 64 (2 ^ 63 + n)

end Sys2Proof.Machine
end

