-- ==== Sys2Proof/Machine/Agents.lean ====
section
/-! DEFINITION. The agents of the module beside the issuing strands: which agent takes each step of the opcode table that
is no instruction of a strand, and which agents there are (R11, R12). -/

namespace Sys2Proof.Machine

/-- Is it a core, with a strand of it? -/
def coreThere (c : Nat) : Bool := c < 4096
def strandThere (c i : Nat) : Bool := c < 4096 && i < 11
def benchThere (b : Nat) : Bool := b < 1024
def clusterThere (l : Nat) : Bool := l < 256

/-- The steps that an agent other than an issuing strand may take, where there is such an agent. Instructions, the ends of
forms and illegal words are steps of the issuing strand; control-queue entries are taken from the queue. -/
def eventThere (i : Instr) : Bool :=
  match i with
  | .coldReset _ => true
  | .tickLock _ => true
  | .throttle => true
  | .throttleRestore => true
  | .podcfgWrite _ => true
  | .dvsecAcceptWrite _ _ => true
  | .registerWrite core strand _ _ => strandThere core strand
  | .bindVppb _ _ _ => true
  | .unbindVppb _ => true
  | .hostWarmRestart _ => true
  | .cxlMemRequest _ _ _ _ _ => true
  | .getVersion _ _ => true
  | .getCapabilities _ _ => true
  | .negotiateAlgorithms _ _ => true
  | .getDigests _ _ => true
  | .getCertificate _ _ => true
  | .challenge _ _ => true
  | .getMeasurements _ _ => true
  | .spdmUnsupportedRequest _ _ => true
  | .launchRequest core strand _ _ => strandThere core strand
  | .nop core _ => coreThere core
  | .map core _ _ => coreThere core
  | .unmap core _ => coreThere core
  | .ethSend core _ => coreThere core
  | .ethRecv core _ => coreThere core
  | .storeRead core _ _ => coreThere core
  | .storeWrite core _ _ => coreThere core
  | .syscallUnknown core _ => coreThere core
  | .syscallComplete core _ _ => coreThere core
  | .rdmaSendReceived _ _ _ _ => true
  | .rdmaInvalidRequest _ _ => true
  | .ethSendCompletion _ _ _ _ => true
  | .launchRound => true
  | .prereqRecheck => true
  | .claimMessage _ => true
  | .claimReport _ _ _ => true
  | .wakeMessage _ => true
  | .endedMessage _ _ => true
  | .coreDebugStopped c => c.report.isSome || coreThere c.core
  | .sourceAnswer cluster _ _ _ _ => clusterThere cluster
  | .codeRequest _ _ _ => true
  | .fetchRetry cluster => clusterThere cluster
  | .lastAging cluster => clusterThere cluster
  | .resultArrival core strand _ => strandThere core strand
  | .helperFree core strand => strandThere core strand
  | .vectorBind bench => benchThere bench
  | .vectorEntryComplete bench group => benchThere bench && group < 4
  | .registerCacheFill core strand _ => strandThere core strand
  | .vqredStep core => coreThere core
  | .matrixEntryRetire core => coreThere core
  | .matrixEntryComplete core => coreThere core
  | .timerInterrupt core strand _ => strandThere core strand
  | .externalInterrupt core strand => strandThere core strand
  | .counterOverflowInterrupt core => coreThere core
  | .remoteRefusalInterrupt core _ => coreThere core
  | .preemptionRequest core strand => strandThere core strand
  | .eccError _ _ _ => true
  | .pageWalk core strand _ _ => strandThere core strand
  | .shootdown e => e.issuer.isSome
  | .debugStop e => e.issuer.isSome
  | .debugResume e => e.issuer.isSome
  | .shootdownAck c => coreThere c.core
  | .drain core strand => strandThere core strand
  | .evict core _ => coreThere core
  | .hostWriteBack _ => true
  | .performLoad core strand _ _ => strandThere core strand
  | .takeOwnership bench => benchThere bench
  | .writeLine m => benchThere m.bench
  | .writeScratchpadSector m => benchThere m.bench
  | .entryComplete m => benchThere m.bench
  | .ksendArrival core strand bench => strandThere core strand && benchThere bench
  | .depart core => coreThere core
  | .routerForward _ => true
  | .malformedMessage _ => true
  | .rstMessage _ => true
  | .rstAck _ => true
  | .rstRefuse _ => true
  | .rldMessage _ => true
  | .rldReply _ => true
  | .gstMessage _ => true
  | .prepare _ _ => true
  | .ready _ _ => true
  | .groupRefuse _ _ _ => true
  | .abort _ => true
  | .publish _ _ => true
  | .groupApply _ => true
  | .publishAck _ _ => true
  | .abortAck _ _ => true
  | .groupTimeout _ => true
  | .routeMessage _ _ _ _ _ => true
  | .routeRecordTick _ _ => true
  | .barrierRelease core _ => coreThere core
  | .tickwExpiry core strand => strandThere core strand
  | .waitevWake core strand => strandThere core strand
  | .counterOverflow core _ => coreThere core
  | .counterRecordRetry core => coreThere core
  | .launchDiscardMessage _ _ _ => true
  | .launchEndByExecutive _ _ _ => true
  | _ => false

end Sys2Proof.Machine
end

