-- ==== Sys2Proof/Machine/Numeric.lean ====
section
/-! DEFINITION. The number formats and exact arithmetic on their values, with the special operands of R168 (R143-R145,
R147, R151, R158, R159, R167-R170). A result is exact; Flags.lean rounds it. -/

namespace Sys2Proof.Machine

/-- A floating value: NaN, an infinity, or (−1)^neg · m · 2^e. -/
inductive Fp where
  | nan
  | inf (neg : Bool)
  | fin (neg : Bool) (m : Nat) (e : Int)
  deriving DecidableEq, Repr

/-- R168: the flags of vfflags, NV in bit 4 down to NX in bit 0 (R49). -/
abbrev Flags := BitVec 5

def flagNV : Flags := 0x10#5
def flagDZ : Flags := 0x08#5
def flagOF : Flags := 0x04#5
def flagUF : Flags := 0x02#5
def flagNX : Flags := 0x01#5

/-- What becomes of a result above the largest finite value: IEEE 754-2019, saturation, or NaN (R148). -/
inductive Over where
  | ieee
  | saturate
  | toNan
  deriving DecidableEq, Repr

/-- R143: a floating format. `ocp`: no infinity, and only the all-ones word is NaN. -/
structure Fmt where
  ebits : Nat
  mbits : Nat
  ocp : Bool
  onOver : Over
  deriving DecidableEq, Repr

def fmtF64 : Fmt := { ebits := 11, mbits := 52, ocp := false, onOver := .ieee }
def fmtF32 : Fmt := { ebits := 8, mbits := 23, ocp := false, onOver := .ieee }
def fmtF16 : Fmt := { ebits := 5, mbits := 10, ocp := false, onOver := .ieee }
def fmtBf16 : Fmt := { ebits := 8, mbits := 7, ocp := false, onOver := .ieee }
def fmtE4m3 : Fmt := { ebits := 4, mbits := 3, ocp := true, onOver := .saturate }
def fmtE5m2 : Fmt := { ebits := 5, mbits := 2, ocp := false, onOver := .saturate }
def fmtE4m3n : Fmt := { ebits := 4, mbits := 3, ocp := true, onOver := .toNan }
def fmtE5m2n : Fmt := { ebits := 5, mbits := 2, ocp := false, onOver := .toNan }

/-- The width of a format in bits. -/
def Fmt.width (f : Fmt) : Nat := 1 + f.ebits + f.mbits

/-- The exponent bias. -/
def Fmt.bias (f : Fmt) : Int := 2 ^ (f.ebits - 1) - 1

/-- The exponent of the smallest normal. -/
def Fmt.emin (f : Fmt) : Int := 1 - f.bias

/-- The exponent of the smallest subnormal. -/
def Fmt.quantum (f : Fmt) : Int := f.emin - f.mbits

/-- The significand and exponent of the largest finite value. -/
def Fmt.maxM (f : Fmt) : Nat := if f.ocp then 2 ^ (f.mbits + 1) - 2 else 2 ^ (f.mbits + 1) - 1
def Fmt.maxE (f : Fmt) : Int := 2 ^ f.ebits - (if f.ocp then 1 else 2) - f.bias - f.mbits

/-- R143: the value of a word. -/
def Fmt.decode (f : Fmt) (w : Nat) : Fp :=
  let neg := w.testBit (f.width - 1)
  let ex := w / 2 ^ f.mbits % 2 ^ f.ebits
  let mt := w % 2 ^ f.mbits
  if ex = 2 ^ f.ebits - 1 ∧ (f.ocp = false ∨ mt = 2 ^ f.mbits - 1) then
    if f.ocp = false ∧ mt = 0 then .inf neg else .nan
  else if ex = 0 then .fin neg mt f.quantum
  else .fin neg (2 ^ f.mbits + mt) (ex - f.bias - f.mbits)

/-- R143: the canonical NaN. -/
def Fmt.nanWord (f : Fmt) : Nat :=
  if f.ocp then 2 ^ (f.width - 1) - 1 else (2 ^ f.ebits - 1) * 2 ^ f.mbits + 2 ^ (f.mbits - 1)

/-- The number of bits of a number. -/
def bitLen (m : Nat) : Nat := if m = 0 then 0 else Nat.log2 m + 1

/-- R143: the word of a value that the format holds. -/
def Fmt.encode (f : Fmt) : Fp → Nat
  | .nan => f.nanWord
  | .inf neg => neg.toNat * 2 ^ (f.width - 1) + (2 ^ f.ebits - 1) * 2 ^ f.mbits
  | .fin neg m e =>
    let top := e + bitLen m - 1
    let sign := neg.toNat * 2 ^ (f.width - 1)
    if m = 0 then sign
    else if top < f.emin then sign + m * 2 ^ (e - f.quantum).toNat / 2 ^ (f.quantum - e).toNat
    else
      let q := top - f.mbits
      sign + (top + f.bias).toNat * 2 ^ f.mbits +
        (m * 2 ^ (e - q).toNat / 2 ^ (q - e).toNat - 2 ^ f.mbits)

/-- The signed value of the low `n` bytes of a number. -/
def signedOf (n v : Nat) : Int := (BitVec.ofNat (8 * n) v).toInt

/-! ## Signs and order -/

/-- The sign of a value; a NaN has none. -/
def Fp.neg : Fp → Bool
  | .nan => false
  | .inf s => s
  | .fin s _ _ => s

/-- Is the value a zero? -/
def Fp.isZero : Fp → Bool
  | .fin _ 0 _ => true
  | _ => false

/-- The value with its sign inverted. -/
def Fp.negate : Fp → Fp
  | .nan => .nan
  | .inf s => .inf (!s)
  | .fin s m e => .fin (!s) m e

/-- The value with sign 0. -/
def Fp.abs : Fp → Fp
  | .nan => .nan
  | .inf _ => .inf false
  | .fin _ m e => .fin false m e

/-- m₁·2^e₁ < m₂·2^e₂. -/
def magLt (m1 : Nat) (e1 : Int) (m2 : Nat) (e2 : Int) : Bool :=
  m1 * 2 ^ (e1 - e2).toNat < m2 * 2 ^ (e2 - e1).toNat

/-- R167: a < b; false with a NaN, and the zeros are equal. -/
def Fp.lt : Fp → Fp → Bool
  | .nan, _ => false
  | _, .nan => false
  | .inf a, .inf b => a && !b
  | .inf a, .fin _ _ _ => a
  | .fin _ _ _, .inf b => !b
  | .fin a m1 e1, .fin b m2 e2 =>
    if m1 = 0 ∧ m2 = 0 then false
    else
      match a && m1 != 0, b && m2 != 0 with
      | true, true => magLt m2 e2 m1 e1
      | true, false => true
      | false, true => false
      | false, false => magLt m1 e1 m2 e2

/-- R167: a = b; false with a NaN, and the zeros are equal. -/
def Fp.eq (a b : Fp) : Bool := a != .nan && b != .nan && !a.lt b && !b.lt a

/-- R167: a < b with −0 below +0. -/
def Fp.below (a b : Fp) : Bool := a.lt b || (a.isZero && b.isZero && a.neg && !b.neg)

/-- R167: IEEE 754-2019 minimum and maximum. -/
def Fp.minimum (a b : Fp) : Fp := if a = .nan ∨ b = .nan then .nan else if b.below a then b else a
def Fp.maximum (a b : Fp) : Fp := if a = .nan ∨ b = .nan then .nan else if a.below b then b else a

/-- R167: IEEE 754-2019 minimumNumber and maximumNumber. -/
def Fp.minimumNumber (a b : Fp) : Fp := if a = .nan then b else if b = .nan then a else a.minimum b
def Fp.maximumNumber (a b : Fp) : Fp := if a = .nan then b else if b = .nan then a else a.maximum b

/-! ## Exact arithmetic

`rdn` says that the rounding mode is toward −∞, which decides the sign of an exact zero sum (R147). -/

/-- The exact value of an integer multiple of 2^e. -/
def Fp.ofInt (n : Int) (e : Int) : Fp := .fin (n < 0) n.natAbs e

/-- R147, R168: a + b. -/
def Fp.add (rdn : Bool) : Fp → Fp → Fp × Flags
  | .nan, _ => (.nan, 0)
  | _, .nan => (.nan, 0)
  | .inf a, .inf b => if a = b then (.inf a, 0) else (.nan, flagNV)
  | .inf a, .fin _ _ _ => (.inf a, 0)
  | .fin _ _ _, .inf b => (.inf b, 0)
  | .fin a m1 e1, .fin b m2 e2 =>
    let e := min e1 e2
    let signed := fun (s : Bool) (m : Nat) (d : Int) => if s then -((m * 2 ^ d.toNat : Nat) : Int) else ((m * 2 ^ d.toNat : Nat) : Int)
    let t := signed a m1 (e1 - e) + signed b m2 (e2 - e)
    if t = 0 then
      if m1 = 0 ∧ m2 = 0 ∧ a = b then (.fin a 0 0, 0) else (.fin rdn 0 0, 0)
    else (Fp.ofInt t e, 0)

/-- R168: a × b. -/
def Fp.mul : Fp → Fp → Fp × Flags
  | .nan, _ => (.nan, 0)
  | _, .nan => (.nan, 0)
  | .inf a, .inf b => (.inf (a != b), 0)
  | .inf a, .fin b m _ => if m = 0 then (.nan, flagNV) else (.inf (a != b), 0)
  | .fin a m _, .inf b => if m = 0 then (.nan, flagNV) else (.inf (a != b), 0)
  | .fin a m1 e1, .fin b m2 e2 => (.fin (a != b) (m1 * m2) (e1 + e2), 0)

/-- R168: a × b + d. -/
def Fp.fma (rdn : Bool) (a b d : Fp) : Fp × Flags :=
  let p := a.mul b
  if p.2 = 0 then p.1.add rdn d else (.nan, flagNV)

/-- The precision to which quotients and roots are carried, with a sticky bit below. -/
def carryBits : Nat := 320

/-- R168: a / b, carried far past every format with a sticky bit. -/
def Fp.div : Fp → Fp → Fp × Flags
  | .nan, _ => (.nan, 0)
  | _, .nan => (.nan, 0)
  | .inf _, .inf _ => (.nan, flagNV)
  | .inf a, .fin b _ _ => (.inf (a != b), 0)
  | .fin a _ _, .inf b => (.fin (a != b) 0 0, 0)
  | .fin a m1 e1, .fin b m2 e2 =>
    if m2 = 0 then (if m1 = 0 then (.nan, flagNV) else (.inf (a != b), flagDZ))
    else if m1 = 0 then (.fin (a != b) 0 0, 0)
    else
      let k := carryBits + bitLen m2
      let n := m1 * 2 ^ k
      (.fin (a != b) (2 * (n / m2) + (if n % m2 = 0 then 0 else 1)) (e1 - e2 - k - 1), 0)

/-- The bits of an integer square root, from bit `k` down. -/
def isqrtFrom (n : Nat) : Nat → Nat → Nat
  | 0, r => r
  | k + 1, r => isqrtFrom n k (if (r + 2 ^ k) * (r + 2 ^ k) ≤ n then r + 2 ^ k else r)

/-- The integer square root. -/
def isqrt (n : Nat) : Nat := isqrtFrom n (bitLen n / 2 + 1) 0

/-- R168: √a. -/
def Fp.sqrt : Fp → Fp × Flags
  | .nan => (.nan, 0)
  | .inf neg => if neg then (.nan, flagNV) else (.inf false, 0)
  | .fin neg m e =>
    if m = 0 then (.fin neg m e, 0)
    else if neg then (.nan, flagNV)
    else
      let k : Int := if (e - 2 * carryBits) % 2 = 0 then 2 * carryBits else 2 * carryBits + 1
      let n := m * 2 ^ k.toNat
      let r := isqrt n
      (.fin false (2 * r + (if r * r = n then 0 else 1)) ((e - k) / 2 - 1), 0)

/-- R168: 1 / a. -/
def Fp.rcp (a : Fp) : Fp × Flags := (Fp.fin false 1 0).div a

/-- R168: 1 / √a. -/
def Fp.rsqrt : Fp → Fp × Flags
  | .nan => (.nan, 0)
  | .inf neg => if neg then (.nan, flagNV) else (.fin false 0 0, 0)
  | .fin neg m e =>
    if m = 0 then (.inf neg, flagDZ)
    else if neg then (.nan, flagNV)
    else
      let m' := if e % 2 = 0 then m else 2 * m
      let e' := if e % 2 = 0 then e else e - 1
      let k := carryBits + bitLen m'
      let n := 2 ^ (2 * k)
      let r := isqrt (n / m')
      (.fin false (2 * r + (if r * r * m' = n then 0 else 1)) (-(e' / 2) - k - 1), 0)

/-! ## Exponentials and logarithms

An irrational result is carried to `seriesBits` fraction bits and a sticky bit. -/

/-- The fraction bits of the series below. -/
def seriesBits : Nat := 400

/-- Σ 2^seriesBits / (k · 2^k) over k up to `n`: ln 2. -/
def ln2Sum : Nat → Nat
  | 0 => 0
  | k + 1 => 2 ^ seriesBits / 2 ^ (k + 1) / (k + 1) + ln2Sum k

/-- ln 2 in units of 2^−seriesBits. -/
def ln2 : Nat := ln2Sum (seriesBits + 8)

/-- The exponential series from term `k`, whose value is `t`. -/
def expSeries (x : Nat) : Nat → Nat → Nat → Nat
  | 0, _, _ => 0
  | fuel + 1, k, t => t + expSeries x fuel (k + 1) (t * x / 2 ^ seriesBits / (k + 1))

/-- The series of the inverse hyperbolic tangent from the odd power `k`, whose value is `t`. -/
def atanhSeries (z2 : Nat) : Nat → Nat → Nat → Nat
  | 0, _, _ => 0
  | fuel + 1, k, t => t / k + atanhSeries z2 fuel (k + 2) (t * z2 / 2 ^ seriesBits)

/-- A magnitude of `seriesBits` fraction bits, scaled by 2^n, cut below with a sticky bit. -/
def ofSeries (neg : Bool) (y : Nat) (n : Int) : Fp := .fin neg (2 * (y / 2 ^ 16) + 1) (n - seriesBits + 15)

/-- R167, R168: 2^a. -/
def Fp.exp2 : Fp → Fp × Flags
  | .nan => (.nan, 0)
  | .inf neg => if neg then (.fin false 0 0, 0) else (.inf false, 0)
  | .fin neg m e =>
    if 15 < e + bitLen m then (.fin false 1 (if neg then -70000 else 70000), 0)
    else
      let a : Int := if neg then -(m : Int) else m
      let whole := a * 2 ^ e.toNat / 2 ^ (-e).toNat
      if m % 2 ^ (-e).toNat = 0 then (.fin false 1 whole, 0)
      else
        let v := a * 2 ^ (e + seriesBits).toNat / 2 ^ (-(e + seriesBits)).toNat
        let n := v / 2 ^ seriesBits
        let frac := (v - n * 2 ^ seriesBits).toNat
        (ofSeries false (expSeries (frac * ln2 / 2 ^ seriesBits) 120 0 (2 ^ seriesBits)) n, 0)

/-- R167, R168: log2 a. -/
def Fp.log2 : Fp → Fp × Flags
  | .nan => (.nan, 0)
  | .inf neg => if neg then (.nan, flagNV) else (.inf false, 0)
  | .fin neg m e =>
    if m = 0 then (.inf true, flagDZ)
    else if neg then (.nan, flagNV)
    else
      let n : Int := e + bitLen m - 1
      if m = 2 ^ (bitLen m - 1) then (Fp.ofInt n 0, 0)
      else
        let one := 2 ^ seriesBits
        let t := m * one / 2 ^ (bitLen m - 1)
        let z := (t - one) * one / (t + one)
        let l := 2 * atanhSeries (z * z / one) 140 1 z * one / ln2
        let y := n * one + l
        (ofSeries (y < 0) y.natAbs 0, 0)

/-- R167: a × 2^n. Beyond ±100,000 the result overflows or underflows in every format, whatever n. -/
def Fp.scale (n : Int) : Fp → Fp
  | .fin s m e => .fin s m (e + max (-100000) (min 100000 n))
  | a => a

end Sys2Proof.Machine
end

