-- ==== Sys2Proof/Machine/Flags.lean ====
section
/-! DEFINITION. Rounding to a format or to an integer, with the flags it sets (R147-R149, R168, R169, R173). -/

namespace Sys2Proof.Machine

/-- R49: the rounding modes. -/
abbrev Rm := BitVec 3
def rne : Rm := 0#3
def rtz : Rm := 1#3
def rdn : Rm := 2#3
def rup : Rm := 3#3
def rmm : Rm := 4#3

/-- R147: does a magnitude k with remainder `r` of `2^sh` go up to k + 1? -/
def roundsUp (rm : Rm) (neg : Bool) (k r sh : Nat) : Bool :=
  if r = 0 then false
  else if rm = rne then 2 ^ sh < 2 * r || (2 ^ sh == 2 * r && k % 2 == 1)
  else if rm = rmm then 2 ^ sh ≤ 2 * r
  else if rm = rdn then neg
  else if rm = rup then !neg
  else false

/-- R147: m·2^e rounded to a multiple of 2^q: the multiple, and whether it is inexact. -/
def roundGrid (rm : Rm) (neg : Bool) (m : Nat) (e q : Int) : Nat × Bool :=
  let n := m * 2 ^ (e - q).toNat
  let sh := (q - e).toNat
  let k := n / 2 ^ sh
  let r := n % 2 ^ sh
  (if roundsUp rm neg k r sh then k + 1 else k, r != 0)

/-- R147, R148: a result above the largest finite value. -/
def Fmt.overflow (f : Fmt) (rm : Rm) (neg : Bool) : Fp :=
  match f.onOver with
  | .saturate => .fin neg f.maxM f.maxE
  | .toNan => .nan
  | .ieee =>
    if rm = rne ∨ rm = rmm ∨ (rm = rup ∧ neg = false) ∨ (rm = rdn ∧ neg = true) then .inf neg
    else .fin neg f.maxM f.maxE

/-- R147: is a result tiny after rounding, the exponent unbounded below? -/
def Fmt.tiny (f : Fmt) (rm : Rm) (neg : Bool) (m : Nat) (e : Int) : Bool :=
  let top := e + bitLen m - 1
  let k := (roundGrid rm neg m e (top - f.mbits)).1
  top < f.emin && top - f.mbits + bitLen k - 1 < f.emin

/-- R147, R148: an exact value rounded to a format, with the flags. -/
def Fmt.round (f : Fmt) (rm : Rm) : Fp → Fp × Flags
  | .nan => (.nan, 0)
  | .inf neg =>
    match f.onOver with
    | .saturate => (.fin neg f.maxM f.maxE, 0)
    | _ => (if f.ocp then .nan else .inf neg, 0)
  | .fin neg m e =>
    if m = 0 then (.fin neg 0 0, 0)
    else
      let q := max (e + bitLen m - 1 - f.mbits) f.quantum
      let r := roundGrid rm neg m e q
      if magLt f.maxM f.maxE r.1 q then (f.overflow rm neg, flagOF ||| flagNX)
      else
        (.fin neg r.1 q, if r.2 then flagNX ||| (if f.tiny rm neg m e then flagUF else 0) else 0)

/-- The word of an exact result, rounded, with the flags of the operation and of the rounding. -/
def Fmt.deliver (f : Fmt) (rm : Rm) (r : Fp × Flags) : Nat × Flags :=
  let v := f.round rm r.1
  (f.encode v.1, r.2 ||| v.2)

/-! ## Integers -/

/-- R167: a rounded to an integral value, with its sign. -/
def Fp.integral (rm : Rm) : Fp → Fp
  | .fin neg m e => .fin neg (roundGrid rm neg m e 0).1 0
  | a => a

/-- R149, R173: a value converted to an integer in `lo .. hi`, with the flags. -/
def Fp.toRange (rm : Rm) (lo hi : Int) : Fp → Int × Flags
  | .nan => (0, flagNV)
  | .inf neg => (if neg then lo else hi, flagNV)
  | .fin neg m e =>
    let r := roundGrid rm neg m e 0
    let v : Int := if neg then -(r.1 : Int) else r.1
    if v < lo then (lo, flagNV) else if hi < v then (hi, flagNV) else (v, if r.2 then flagNX else 0)

/-- R169: the class mask of a word. -/
def Fmt.classOf (f : Fmt) (w : Nat) : Nat :=
  match f.decode w with
  | .nan => 0x200
  | .inf neg => if neg then 0x001 else 0x080
  | .fin neg m e =>
    if m = 0 then (if neg then 0x008 else 0x010)
    else if e + bitLen m - 1 < f.emin then (if neg then 0x004 else 0x020)
    else (if neg then 0x002 else 0x040)

end Sys2Proof.Machine
end

