-- ==== Sys2Proof/Machine/Crypto.lean ====
section
/-! DEFINITION. The published algorithms that the manual names: SHA3-256 (FIPS 202, R58), SHA-384 (FIPS 180-4, R367), AES-256
(FIPS 197) with its key wrap (RFC 3394, R374) and its Galois/Counter Mode (SP 800-38D, R334). Their texts stand outside the
manual (PRESUMED, log entry 122). -/

namespace Sys2Proof.Machine

/-! ## Bytes in groups -/

/-- A byte string in pieces of `n` bytes, at most `k` of them. -/
def blocksUpTo (n : Nat) : Nat → List Byte → List (List Byte)
  | 0, _ => []
  | k + 1, bs => if bs.isEmpty then [] else bs.take n :: blocksUpTo n k (bs.drop n)

/-- A byte string in pieces of `n` bytes. -/
def blocksOf (n : Nat) (bs : List Byte) : List (List Byte) := blocksUpTo n bs.length bs

/-- The value of bytes, the most significant first. -/
def beNat (bs : List Byte) : Nat := leNat bs.reverse

/-- The `n` low bytes of a number, the most significant first. -/
def beBytes (n v : Nat) : List Byte := (leBytes n v).reverse

/-- The exclusive or of two byte strings, byte by byte. -/
def xorBytes (a b : List Byte) : List Byte := List.zipWith (· ^^^ ·) a b

/-! ## SHA3-256 (FIPS 202) -/

/-- The lane at column `x` and row `y` of a state of 25 lanes. -/
def keccakLane (a : List Word) (x y : Nat) : Word := a.getD (x % 5 + 5 * (y % 5)) 0

/-- The lanes that a function of column and row gives. -/
def keccakState (f : Nat → Nat → Word) : List Word := (List.range 25).map (fun i => f (i % 5) (i / 5))

/-- The step θ. -/
def keccakTheta (a : List Word) : List Word :=
  let c := (List.range 5).map (fun x => (List.range 5).foldl (fun v y => v ^^^ keccakLane a x y) 0)
  keccakState (fun x y => keccakLane a x y ^^^ keccakLane c (x + 4) 0 ^^^ (keccakLane c (x + 1) 0).rotateLeft 1)

/-- The rotation of each lane by the step ρ. -/
def keccakOffsets : List Nat :=
  [0, 1, 62, 28, 27, 36, 44, 6, 55, 20, 3, 10, 43,
   25, 39, 41, 45, 15, 21, 8, 18, 2, 61, 56, 14]

/-- The steps ρ and π. -/
def keccakRhoPi (a : List Word) : List Word :=
  keccakState (fun x y =>
    (keccakLane a (x + 3 * y) x).rotateLeft (keccakOffsets.getD ((x + 3 * y) % 5 + 5 * x) 0))

/-- The step χ. -/
def keccakChi (a : List Word) : List Word :=
  keccakState (fun x y => keccakLane a x y ^^^ (~~~(keccakLane a (x + 1) y) &&& keccakLane a (x + 2) y))

/-- The constants of the step ι. -/
def keccakConstants : List Word :=
  [0x0000000000000001, 0x0000000000008082, 0x800000000000808a, 0x8000000080008000,
   0x000000000000808b, 0x0000000080000001, 0x8000000080008081, 0x8000000000008009,
   0x000000000000008a, 0x0000000000000088, 0x0000000080008009, 0x000000008000000a,
   0x000000008000808b, 0x800000000000008b, 0x8000000000008089, 0x8000000000008003,
   0x8000000000008002, 0x8000000000000080, 0x000000000000800a, 0x800000008000000a,
   0x8000000080008081, 0x8000000000008080, 0x0000000080000001, 0x8000000080008008]

/-- The permutation Keccak-f[1600]. -/
def keccakF (a : List Word) : List Word :=
  keccakConstants.foldl (fun a c =>
    let b := keccakChi (keccakRhoPi (keccakTheta a))
    (b.headD 0 ^^^ c) :: b.tail) a

/-- SHA3-256 of a byte string, byte 0 in bits [7:0] (R58). -/
def sha3 (bs : List Byte) : Digest :=
  let gap := 136 - bs.length % 136
  let pad : List Byte := if gap = 1 then [0x86] else 0x06 :: (List.replicate (gap - 2) 0 ++ [0x80])
  let absorbed := (blocksOf 136 (bs ++ pad)).foldl (fun a block =>
    let ws := (blocksOf 8 block).map (fun w => BitVec.ofNat 64 (leNat w))
    keccakF ((List.range 25).map (fun i => a.getD i 0 ^^^ ws.getD i 0))) (List.replicate 25 (0 : Word))
  BitVec.ofNat 256 (leNat ((absorbed.take 4).flatMap (fun w => leBytes 8 w.toNat)))

/-! ## SHA-384 (FIPS 180-4) -/

/-- The 80 constants of the rounds. -/
def shaConstants : List Word :=
   [0x428a2f98d728ae22, 0x7137449123ef65cd, 0xb5c0fbcfec4d3b2f, 0xe9b5dba58189dbbc,
    0x3956c25bf348b538, 0x59f111f1b605d019, 0x923f82a4af194f9b, 0xab1c5ed5da6d8118,
    0xd807aa98a3030242, 0x12835b0145706fbe, 0x243185be4ee4b28c, 0x550c7dc3d5ffb4e2,
    0x72be5d74f27b896f, 0x80deb1fe3b1696b1, 0x9bdc06a725c71235, 0xc19bf174cf692694,
    0xe49b69c19ef14ad2, 0xefbe4786384f25e3, 0x0fc19dc68b8cd5b5, 0x240ca1cc77ac9c65] ++
   [0x2de92c6f592b0275, 0x4a7484aa6ea6e483, 0x5cb0a9dcbd41fbd4, 0x76f988da831153b5,
    0x983e5152ee66dfab, 0xa831c66d2db43210, 0xb00327c898fb213f, 0xbf597fc7beef0ee4,
    0xc6e00bf33da88fc2, 0xd5a79147930aa725, 0x06ca6351e003826f, 0x142929670a0e6e70,
    0x27b70a8546d22ffc, 0x2e1b21385c26c926, 0x4d2c6dfc5ac42aed, 0x53380d139d95b3df,
    0x650a73548baf63de, 0x766a0abb3c77b2a8, 0x81c2c92e47edaee6, 0x92722c851482353b] ++
   [0xa2bfe8a14cf10364, 0xa81a664bbc423001, 0xc24b8b70d0f89791, 0xc76c51a30654be30,
    0xd192e819d6ef5218, 0xd69906245565a910, 0xf40e35855771202a, 0x106aa07032bbd1b8,
    0x19a4c116b8d2d0c8, 0x1e376c085141ab53, 0x2748774cdf8eeb99, 0x34b0bcb5e19b48a8,
    0x391c0cb3c5c95a63, 0x4ed8aa4ae3418acb, 0x5b9cca4f7763e373, 0x682e6ff3d6b2b8a3,
    0x748f82ee5defb2fc, 0x78a5636f43172f60, 0x84c87814a1f0ab72, 0x8cc702081a6439ec] ++
   [0x90befffa23631e28, 0xa4506cebde82bde9, 0xbef9a3f7b2c67915, 0xc67178f2e372532b,
    0xca273eceea26619c, 0xd186b8c721c0c207, 0xeada7dd6cde0eb1e, 0xf57d4f7fee6ed178,
    0x06f067aa72176fba, 0x0a637dc5a2c898a6, 0x113f9804bef90dae, 0x1b710b35131c471b,
    0x28db77f523047d84, 0x32caab7b40c72493, 0x3c9ebe0a15c9bebc, 0x431d67c49c100d4c,
    0x4cc5d4becb3e42b6, 0x597f299cfc657e2a, 0x5fcb6fab3ad6faec, 0x6c44198c4a475817]

/-- The initial hash value of SHA-384. -/
def sha384Start : List Word :=
  [0xcbbb9d5dc1059ed8, 0x629a292a367cd507, 0x9159015a3070dd17, 0x152fecd8f70e5939,
   0x67332667ffc00b31, 0x8eb44a8768581511, 0xdb0c2e0d64f98fa7, 0x47b5481dbefa4fa4]

/-- The message schedule after the first 16 words, latest word first. -/
def shaSchedule : Nat → List Word → List Word
  | 0, ws => ws
  | n + 1, ws =>
    let w := fun (t : Nat) => ws.getD (t - 1) 0
    let s0 := (w 15).rotateRight 1 ^^^ (w 15).rotateRight 8 ^^^ (w 15) >>> 7
    let s1 := (w 2).rotateRight 19 ^^^ (w 2).rotateRight 61 ^^^ (w 2) >>> 6
    shaSchedule n ((s1 + w 7 + s0 + w 16) :: ws)

/-- One round, on the working variables a to h. -/
def shaRound (v : List Word) (kw : Word × Word) : List Word :=
  let r := fun (i : Nat) => v.getD i 0
  let ch := (r 4 &&& r 5) ^^^ (~~~(r 4) &&& r 6)
  let maj := (r 0 &&& r 1) ^^^ (r 0 &&& r 2) ^^^ (r 1 &&& r 2)
  let s0 := (r 0).rotateRight 28 ^^^ (r 0).rotateRight 34 ^^^ (r 0).rotateRight 39
  let s1 := (r 4).rotateRight 14 ^^^ (r 4).rotateRight 18 ^^^ (r 4).rotateRight 41
  let t1 := r 7 + s1 + ch + kw.1 + kw.2
  [t1 + s0 + maj, r 0, r 1, r 2, r 3 + t1, r 4, r 5, r 6]

/-- The hash value after a block of 128 bytes. -/
def shaBlock (h : List Word) (block : List Byte) : List Word :=
  let ws := ((blocksOf 8 block).map (fun w => BitVec.ofNat 64 (beNat w))).reverse
  List.zipWith (· + ·) h ((shaConstants.zip (shaSchedule 64 ws).reverse).foldl shaRound h)

/-- SHA-384 of a byte string, byte 0 in bits [7:0] (R367). -/
def sha384 (bs : List Byte) : BitVec 384 :=
  let pad : List Byte := 0x80 :: (List.replicate ((239 - bs.length % 128) % 128) 0 ++ beBytes 16 (8 * bs.length))
  let h := (blocksOf 128 (bs ++ pad)).foldl shaBlock sha384Start
  BitVec.ofNat 384 (leNat ((h.take 6).flatMap (fun w => beBytes 8 w.toNat)))

/-! ## AES-256 (FIPS 197) -/

/-- Multiplication by x in the field of AES. -/
def aesDouble (a : Byte) : Byte := a <<< 1 ^^^ (if a.getLsbD 7 then 0x1B#8 else 0#8)

/-- A product in the field of AES. -/
def aesMul (a b : Byte) : Byte :=
  ((List.range 8).foldl (fun (s : Byte × Byte) i => (if b.getLsbD i then s.1 ^^^ s.2 else s.1, aesDouble s.2)) (0, a)).1

/-- The multiplicative inverse, a to the power 254; that of 0 is 0. -/
def aesInverse (a : Byte) : Byte :=
  let square := fun x => aesMul x x
  ((List.range 6).foldl (fun (s : Byte × Byte) _ => (aesMul s.1 (square s.2), square s.2)) (square a, square a)).1

/-- The S-box. -/
def aesSub (a : Byte) : Byte :=
  let i := aesInverse a
  i ^^^ i.rotateLeft 1 ^^^ i.rotateLeft 2 ^^^ i.rotateLeft 3 ^^^ i.rotateLeft 4 ^^^ 0x63

/-- The inverse S-box. -/
def aesUnsub (a : Byte) : Byte := aesInverse (a.rotateLeft 1 ^^^ a.rotateLeft 3 ^^^ a.rotateLeft 6 ^^^ 0x05)

/-- The key schedule: words of four bytes, latest first, from those of the key to those of the 15 round keys. -/
def aesExpand : Nat → Nat → Byte → List (List Byte) → List (List Byte)
  | 0, _, _, ws => ws
  | n + 1, i, rcon, ws =>
    let prev := ws.headD []
    let mixed :=
      if i % 8 = 0 then xorBytes ((prev.drop 1 ++ prev.take 1).map aesSub) [rcon, 0, 0, 0]
      else if i % 8 = 4 then prev.map aesSub
      else prev
    aesExpand n (i + 1) (if i % 8 = 0 then aesDouble rcon else rcon) (xorBytes (ws.getD 7 []) mixed :: ws)

/-- The 15 round keys of a key of 32 bytes. -/
def aesRoundKeys (key : List Byte) : List (List Byte) :=
  blocksOf 16 (aesExpand 52 8 1 (blocksOf 4 key).reverse).reverse.flatten

/-- A state with its columns multiplied by the circulant matrix whose first row is `row`. -/
def aesMix (row : List Byte) (b : List Byte) : List Byte :=
  (blocksOf 4 b).flatMap (fun c =>
    (List.range 4).map (fun r =>
      (List.range 4).foldl (fun v j => v ^^^ aesMul (c.getD j 0) (row.getD ((j + 4 - r) % 4) 0)) 0))

/-- A state with row r rotated by `k` times r columns. -/
def aesShift (k : Nat) (b : List Byte) : List Byte :=
  (List.range 16).map (fun i => b.getD (i % 4 + 4 * ((i / 4 + k * (i % 4)) % 4)) 0)

/-- AES-256 encryption of a block. -/
def aesEncrypt (key block : List Byte) : List Byte :=
  match aesRoundKeys key with
  | [] => block
  | k0 :: ks =>
    let b := (ks.take 13).foldl (fun b k => xorBytes (aesMix [2, 3, 1, 1] (aesShift 1 (b.map aesSub))) k) (xorBytes block k0)
    xorBytes (aesShift 1 (b.map aesSub)) (ks.getD 13 [])

/-- AES-256 decryption of a block. -/
def aesDecrypt (key block : List Byte) : List Byte :=
  match (aesRoundKeys key).reverse with
  | [] => block
  | k0 :: ks =>
    let b := (ks.take 13).foldl (fun b k => aesMix [14, 11, 13, 9] (xorBytes ((aesShift 3 b).map aesUnsub) k))
      (xorBytes block k0)
    xorBytes ((aesShift 3 b).map aesUnsub) (ks.getD 13 [])

/-! ## AES-256 key wrap (RFC 3394) -/

/-- The key that 40 bytes wrap under a key, when the check value fits (R374). -/
def unwrapAes (kek wrapped : List Byte) : Option (List Byte) :=
  let steps := (List.range 24).reverse
  let out := steps.foldl (fun (s : List Byte × List (List Byte)) t =>
    let i := t % 4
    let b := aesDecrypt kek (xorBytes s.1 (beBytes 8 (t + 1)) ++ s.2.getD i [])
    (b.take 8, s.2.set i (b.drop 8))) (wrapped.take 8, blocksOf 8 (wrapped.drop 8))
  if out.1 = List.replicate 8 0xA6 then some out.2.flatten else none

/-- R374: the tenant key of a record: unwrapped under SHA-384 of both shared secrets and bytes 0x000 to 0x03F, truncated to
32 bytes. The shared secrets rest on the private keys of the device. -/
def unwrapKey (r : List Byte) : Option (BitVec 256) :=
  let secrets := Config.sharedSecrets ((r.drop 0x20).take 32) ((r.drop 0x40).take 1088)
  let kek := (leBytes 48 (sha384 (secrets ++ r.take 0x40)).toNat).take 32
  (unwrapAes kek ((r.drop 0x480).take 40)).map (fun k => BitVec.ofNat 256 (leNat k))

/-! ## Galois/Counter Mode (SP 800-38D) -/

/-- A product in the field of GHASH; the first bit of a block is its most significant. -/
def ghashMul (a b : BitVec 128) : BitVec 128 :=
  ((List.range 128).foldl (fun (s : BitVec 128 × BitVec 128) i =>
    (if a.getMsbD i then s.1 ^^^ s.2 else s.1,
     s.2 >>> 1 ^^^ (if s.2.getLsbD 0 then BitVec.ofNat 128 (0xE1 * 2 ^ 120) else 0#128))) (0, b)).1

/-- GHASH of a byte string whose last block is filled with zeros, from a value `y`. -/
def ghash (h y : BitVec 128) (bs : List Byte) : BitVec 128 :=
  (blocksOf 16 bs).foldl (fun y p => ghashMul (y ^^^ BitVec.ofNat 128 (beNat ((p ++ List.replicate 16 0).take 16))) h) y

/-- The text that the counter blocks of a key, from 2 on, make of a text. -/
def gcmText (key iv text : List Byte) : List Byte :=
  let ps := blocksOf 16 text
  (ps.zip (List.range ps.length)).flatMap (fun p => xorBytes p.1 (aesEncrypt key (iv ++ beBytes 4 (p.2 + 2))))

/-- The tag of a ciphertext and its additional data, under a key and an IV of 12 bytes. -/
def gcmTag (key iv aad cipher : List Byte) : List Byte :=
  let h := BitVec.ofNat 128 (beNat (aesEncrypt key (List.replicate 16 0)))
  let lengths := beBytes 8 (8 * aad.length) ++ beBytes 8 (8 * cipher.length)
  let y := ghash h (ghash h (ghash h 0 aad) cipher) lengths
  xorBytes (beBytes 16 y.toNat) (aesEncrypt key (iv ++ beBytes 4 1))

/-- AES-256-GCM encryption: the ciphertext and the tag (R334). -/
def gcmSeal (key : BitVec 256) (iv aad text : List Byte) : List Byte × List Byte :=
  let k := leBytes 32 key.toNat
  let c := gcmText k iv text
  (c, gcmTag k iv aad c)

/-- AES-256-GCM decryption: the plaintext when the tag fits (R334). -/
def gcmOpen (key : BitVec 256) (iv aad cipher tag : List Byte) : Option (List Byte) :=
  let k := leBytes 32 key.toNat
  if gcmTag k iv aad cipher = tag then some (gcmText k iv cipher) else none

end Sys2Proof.Machine
end

