-- ==== Sys2Proof/Machine/Memory.lean ====
section
/-! DEFINITION. Memory in the ordering machine: locations, visibility, drains, fences, and what every store touches
(watches, reservations, poison); the sealing of context lines that leave the die. -/

namespace Sys2Proof.Machine

/-! ## Locations

A location is a number: a local address of this chip below 2^42 (R230), a byte of a core scratchpad, a byte of a
lane-private slice, or a byte of host memory behind a host window. -/

/-- The location of a byte of a core's scratchpad (R215). -/
def scratchLoc (c off : Nat) : Nat := 2 ^ 44 + c * 2 ^ 18 + off

/-- The location of a byte of a core's lane-private slice (R218). -/
def sliceLoc (c off : Nat) : Nat := 2 ^ 45 + c * 2 ^ 14 + off

/-- The location of a byte of host memory of logical device `n` (R347). -/
def hostLoc (n pa : Nat) : Nat := 2 ^ 56 * (n + 1) + pa

/-- Is the location host memory of logical device `n`? -/
def isHostMemory (n loc : Nat) : Bool := loc / 2 ^ 56 == n + 1

/-- The local address of byte 0 of the chip scratchpad (R230). -/
def chipScratchBase : Nat := 0x10000000000

/-- The local address of host window 0 (R230). -/
def hostWindowBase : Nat := 0x20000000000

/-- Is the location device memory? (R230) -/
def isDevice (loc : Nat) : Bool := loc < Config.deviceBytes

/-- Is the location chip scratchpad? -/
def isChipScratch (loc : Nat) : Bool := chipScratchBase ≤ loc && loc < chipScratchBase + 2 ^ 28

/-- Is the location in a core scratchpad? -/
def isCoreScratch (loc : Nat) : Bool := 2 ^ 44 ≤ loc && loc < 2 ^ 44 + 2 ^ 30

/-- Scratchpad is not cached: a store to it takes reach S at once (R216, R264). -/
def isScratch (loc : Nat) : Bool := isChipScratch loc || isCoreScratch loc

/-- The 256-byte line of a location. -/
def lineNo (loc : Nat) : Nat := loc / 256

/-- The 32-byte sector of a location. -/
def sectorNo (loc : Nat) : Nat := loc / 32

/-- The tile of a scratchpad location (R220). -/
def tileNo (loc : Nat) : Nat := loc / 4096

/-- The base die that is the home of a local address (R15, R231, R313). -/
def homeDie (loc : Nat) : Nat :=
  if isChipScratch loc then (loc - chipScratchBase) / 2 ^ 25
  else [0, 0, 1, 2, 3, 3, 4, 4, 5, 6, 7, 7].getD ((loc / 4096) % 12) 0

/-! ## Visibility (R262, R263) -/

/-- Who reads: a strand, an agent of a core, an agent of a die, an agent of the device, a host. -/
inductive Agent where
  | strand (c i : Nat)
  | core (c : Nat)
  | die (d : Nat)
  | device
  | host
  deriving DecidableEq, Repr

/-- R262: is the drained store visible to the agent? -/
def Drained.visible (d : Drained) : Agent → Bool
  | .strand c _ =>
    match d.reach with
    | .c => !d.engine && d.core == c
    | .d => d.die == dieOf c
    | _ => true
  | .core c =>
    match d.reach with
    | .c => !d.engine && d.core == c
    | .d => d.die == dieOf c
    | _ => true
  | .die n =>
    match d.reach with
    | .c => false
    | .d => d.die == n
    | _ => true
  | .device =>
    match d.reach with
    | .c => false
    | .d => false
    | _ => true
  | .host => d.reach == .s

/-- The byte that a store holds for a location. -/
def cellAt (cells : List (Nat × Byte)) (loc : Nat) : Option Byte := (cells.find? (·.1 == loc)).map (·.2)

/-- The youngest byte that a store buffer holds for a location; the head of the buffer is its oldest store. -/
def bufferedByte : List Store → Nat → Option Byte
  | [], _ => none
  | w :: ws, loc =>
    match bufferedByte ws loc with
    | some b => some b
    | none => cellAt w.cells loc

/-- The coherence-latest byte visible to an agent among the drained stores, youngest first. -/
def drainedByte (a : Agent) : List Drained → Nat → Option Byte
  | [], _ => none
  | d :: ds, loc =>
    if d.visible a then
      match cellAt d.cells loc with
      | some b => some b
      | none => drainedByte a ds loc
    else drainedByte a ds loc

/-- The byte of a location that an agent without a store buffer reads (R263). -/
def State.byteFor (s : State) (a : Agent) (loc : Nat) : Byte :=
  (drainedByte a s.drained loc).getD (s.mem.byte loc)

/-- R263: the byte of a location that an agent reads. -/
def State.readByte (s : State) (a : Agent) (loc : Nat) : Byte :=
  match a with
  | .strand c i =>
    match bufferedByte (s.strand c i).storeBuf loc with
    | some b => b
    | none => s.byteFor a loc
  | _ => s.byteFor a loc

/-- The bytes of consecutive locations that an agent reads. -/
def State.readBytes (s : State) (a : Agent) (loc n : Nat) : List Byte :=
  (List.range n).map (fun i => s.readByte a (loc + i))

/-- The number that `n` consecutive bytes hold for an agent. -/
def State.readNat (s : State) (a : Agent) (loc n : Nat) : Nat := leNat (s.readBytes a loc n)

/-! ## Stores -/

/-- The cells of consecutive bytes stored at a location. -/
def cellsAt (loc : Nat) (bs : List Byte) : List (Nat × Byte) := (List.range bs.length).map (loc + ·) |>.zip bs

/-- R31, R138, R229: what a store to these bytes does beside storing: reservations on its lines are lost, watches on
them fire, and a whole sector written loses its poison. -/
def State.touch (s : State) (cells : List (Nat × Byte)) : State :=
  { s with
    reservations := s.reservations.filter (fun r => !cells.any (fun c => lineNo c.1 == r.line))
    watches := s.watches.map (fun w =>
      if cells.any (fun c => lineNo c.1 == w.line) then { w with fired := true } else w)
    poisoned := s.poisoned.filter (fun p =>
      !(List.range 32).all (fun i => cells.any (fun c => c.1 == 32 * p + i))) }

/-! ## Poison (R229)

An error stands at a location of memory, at a byte of a code shelf, or at a byte of a line of a register cache. -/

/-- The location of a byte of a cluster's code shelf. -/
def shelfLoc (l off : Nat) : Nat := 2 ^ 46 + l * 2 ^ 19 + off

/-- The location of a byte of the line of a v register in the register cache. -/
def regLoc (c i r off : Nat) : Nat := 2 ^ 47 + ((c * 11 + i) * 32 + r) * 256 + off

/-- Is the location in a code shelf? -/
def isShelf (loc : Nat) : Bool := shelfLoc 0 0 ≤ loc && loc < shelfLoc 256 0

/-- Is the location in a register cache? -/
def isRegCache (loc : Nat) : Bool := regLoc 0 0 0 0 ≤ loc && loc < regLoc 4096 0 0 0

/-- R229: the sectors of some locations are marked poisoned. -/
def State.poisonSectors (s : State) (locs : List Nat) : State :=
  { s with poisoned := (locs.map sectorNo).eraseDups.filter (fun p => !s.poisoned.contains p) ++ s.poisoned }

/-- Does any byte lie in a poisoned sector? (R229) -/
def State.poisonedAt (s : State) (locs : List Nat) : Bool := locs.any (fun l => s.poisoned.contains (sectorNo l))

/-! ## The order of coherence -/

/-- Drained stores that have reached S and are coherence-oldest join memory. The list is youngest first. -/
def foldOldest : List Drained → Memory → List Drained × Memory
  | [], m => ([], m)
  | d :: ds, m =>
    match foldOldest ds m with
    | ([], m') => if d.reach = .s then ([], Memory.storeAll m' d.cells) else ([d], m')
    | (ds', m') => (d :: ds', m')

/-- The state with its oldest stores of reach S in memory. -/
def State.settle (s : State) : State :=
  match foldOldest s.drained s.mem with
  | (ds, m) => { s with drained := ds, mem := m }

/-- Do two stores share a byte? -/
def overlaps (a b : List (Nat × Byte)) : Bool := a.any (fun x => b.any (fun y => x.1 == y.1))

/-- The least reach at which a store of die `d` is visible on die `mine`. -/
def leastReach (d mine : Nat) : Reach := if d = mine then .d else .h

/-- R225, R226: an access to lines is left to the caches, which serve it in the same step. -/
def State.useCache (s : State) (user : CacheUser) (vf : BitVec 6) (scope : Option (BitVec 3)) (lines : List Nat) : State :=
  { s with cacheUses := s.cacheUses ++ lines.map (fun l =>
      { user := user, vf := vf, line := l, scope := scope, uncounted := none }) }

/-- The lines of device memory among these locations. -/
def deviceLines (locs : List Nat) : List Nat := ((locs.filter isDevice).map lineNo).eraseDups

/-- R264: every store to these bytes held at C or D elsewhere, and not visible to core `c`, rises until it is. -/
def raiseFor (c : Nat) (cells : List (Nat × Byte)) (ds : List Drained) : List Drained :=
  ds.map (fun d =>
    if overlaps d.cells cells && !d.visible (.core c) then { d with reach := leastReach d.die (dieOf c) } else d)

/-- A store by core `c` takes its first reach: `r` for cached bytes, S for scratchpad (R264). `entry` names the chain entry
that makes it. -/
def State.commitBy (s : State) (c : Nat) (engine : Bool) (entry : Option (Nat × BitVec 32 × Nat)) (r : Reach)
    (cells : List (Nat × Byte)) : State :=
  let scratch := cells.filter (fun x => isScratch x.1)
  let cached := cells.filter (fun x => !isScratch x.1)
  let new : List Drained :=
    (if cached.isEmpty then []
      else [{ cells := cached, core := c, die := dieOf c, reach := r, engine := engine, entry := entry }]) ++
    (if scratch.isEmpty then []
      else [{ cells := scratch, core := c, die := dieOf c, reach := .s, engine := engine, entry := entry }])
  ({ s with drained := new ++ raiseFor c cells s.drained }.touch cells).settle

/-- R262: the reach that a scope gives. -/
def scopeReach (scope : Nat) : Reach := if scope = 0 then .c else if scope ≤ 3 then .d else if scope ≤ 5 then .h else .s

/-- R226, R264: a store of a scope by core `c` takes the level of the scope. -/
def State.commit (s : State) (c scope : Nat) (cells : List (Nat × Byte)) : State :=
  (s.commitBy c false none (scopeReach scope) cells).useCache (.core c) (s.core c).vfNow (some (BitVec.ofNat 3 scope))
    (deviceLines (cells.map (·.1)))

/-- R226: a core's lines tagged narrower than a scope that a fence makes visible take its tag. -/
def State.tagScope (s : State) (c scope : Nat) : State :=
  let wider := fun (k : BitVec 3) => if k.toNat < scope then BitVec.ofNat 3 scope else k
  { s with
    l1 := s.l1.map (fun x => if x.core == c then { x with scope := wider x.scope } else x)
    cacheUses := s.cacheUses.map (fun u => if u.user == .core c then { u with scope := u.scope.map wider } else u) }

/-- R256, R269: a store by the key-route unit of core `c`'s die: it takes reach D, scratchpad or not. -/
def State.commitRoute (s : State) (c : Nat) (cells : List (Nat × Byte)) : State :=
  let new : Drained := { cells := cells, core := c, die := dieOf c, reach := .d, engine := true }
  ((({ s with drained := new :: raiseFor c cells s.drained } : State).touch cells).settle).useCache (.die (dieOf c))
    (s.core c).vfNow (some 3) (deviceLines (cells.map (·.1)))

/-- A store by an agent of the device at its home: reach H (R271, R284). -/
def State.commitHome (s : State) (cells : List (Nat × Byte)) : State :=
  ({ s with
      drained := { cells := cells, core := 4096, die := 8, reach := .h, engine := true } ::
        s.drained.map (fun (d : Drained) =>
          if overlaps d.cells cells && !d.visible .device then { d with reach := .h } else d) }.touch cells).settle

/-- A store visible to every agent: reach S (R344, R346). -/
def State.commitSystem (s : State) (cells : List (Nat × Byte)) : State :=
  ({ s with
      drained := { cells := cells, core := 4096, die := 8, reach := .s, engine := true } ::
        s.drained.map (fun (d : Drained) => if overlaps d.cells cells then { d with reach := .s } else d) }.touch cells).settle

/-- R268, R283: an action on bytes at their home meets every store to them: those held at C or D rise to H. -/
def State.atHome (s : State) (loc n : Nat) : State :=
  { s with drained := s.drained.map (fun (d : Drained) =>
      if d.cells.any (fun c => loc ≤ c.1 && c.1 < loc + n) then
        { d with reach := if d.reach == Reach.s then Reach.s else Reach.h }
      else d) }.settle

/-- Bytes written straight into a lane-private slice (R270). -/
def State.storeSlice (s : State) (cells : List (Nat × Byte)) : State := { s with mem := Memory.storeAll s.mem cells }

/-! ## Drains and fences -/

/-- R190: the destinations that a retired matrix-queue entry has still to write. -/
def Core.matrixOwned (k : Core) : List Nat := k.mqueue.flatMap (fun e => e.locs.flatten)

/-- R190, R269: does a line that an engine or a matrix unit owns hold one of the bytes? Accesses wait for it. -/
def State.ownedLine (s : State) (locs : List Nat) : Option Nat :=
  match s.benches.findSome? (fun b => (locs.find? (fun l => b.2.owned.contains (lineNo l))).map lineNo) with
  | some l => some l
  | none =>
    s.cores.findSome? (fun k =>
      let held := k.2.matrixOwned.map lineNo
      (locs.find? (fun l => held.contains (lineNo l))).map lineNo)

/-- R248: must a store of strand `i` of core `c` to these bytes wait for an engine entry that has still to read them? -/
def State.sourceHeld (s : State) (c i : Nat) (locs : List Nat) : Bool :=
  (s.bench (benchOf c)).chains.any (fun k =>
    k.core == c && k.strand == i && k.unread.any (fun u => locs.any (fun l =>
      if isScratch l then u.2.1 ≤ l && l < u.2.1 + u.2.2
      else lineNo u.2.1 ≤ lineNo l && lineNo l ≤ lineNo (u.2.1 + u.2.2 - 1))))

/-- The line, owned or still to be read by an engine, for which a store of a strand waits. -/
def State.storeHeld (s : State) (c i : Nat) (locs : List Nat) : Option Nat :=
  match s.ownedLine locs with
  | some l => some l
  | none => if s.sourceHeld c i locs then some (lineNo (locs.headD 0)) else none

/-- R264: the store at the head of a store buffer drains. -/
def State.drainOne (s : State) (c i : Nat) : State :=
  match (s.strand c i).storeBuf with
  | [] => s
  | w :: ws =>
    if (s.storeHeld c i (w.cells.map (·.1))).isSome then s
    else (s.modStrand c i (fun t => { t with storeBuf := ws })).commit c 0 w.cells

/-- `n` drains of a store buffer. -/
def State.drainN (s : State) (c i : Nat) : Nat → State
  | 0 => s
  | n + 1 => (s.drainOne c i).drainN c i n

/-- Every store of a store buffer drains, in order. -/
def State.drainAll (s : State) (c i : Nat) : State := s.drainN c i (s.strand c i).storeBuf.length

/-- The order of the levels of reach. -/
def Reach.rank : Reach → Nat
  | .c => 0
  | .d => 1
  | .h => 2
  | .s => 3

/-- A level at least `r`. -/
def Reach.atLeast (r x : Reach) : Reach := if x.rank < r.rank then r else x

/-! ## Sealed context lines (R334, R335) -/

/-- R332, R373: the key that the header at `head` of an image names: one of slots 0 to 127 that holds a key. -/
def State.imageKey (s : State) (head : Nat) : Option KeySlot :=
  let slot := s.readNat .device (head + 0x10) 2
  if slot < 128 then mapFind s.security.keys slot else none

/-- R334: the additional authenticated data of a context line: ctxbase and the VF of the header. -/
def State.sealAad (s : State) (head : Nat) (image : Word) : List Byte :=
  leBytes 8 image.toNat ++ leBytes 1 (s.readNat .device (head + 0x12) 1)

/-- R334: a line of an image leaves the die: NONCE rises, and the line and its SEAL entry are stored at the home. Without
a key the seal fails, and no check of the line succeeds (R373). -/
def State.sealLine (s : State) (i : Image) (loc index : Nat) : State :=
  let nonce := s.readNat .device (i.head + 8) 8
  let plain := s.readBytes .device loc 256
  let key := s.imageKey i.head
  let sealed :=
    match key with
    | some k => gcmSeal k.key (leBytes 8 nonce ++ leBytes 4 index) (s.sealAad i.head i.image) plain
    | none => ([], [])
  let s := s.commitHome (cellsAt (i.head + 8) (leBytes 8 (nonce + 1)))
  let s := s.commitHome (cellsAt (i.head + 0x40 + 24 * (index - 4))
    (leBytes 8 nonce ++ (sealed.2 ++ List.replicate 16 0).take 16))
  let s := s.commitHome (cellsAt loc ((sealed.1 ++ List.replicate 256 0).take 256))
  { s with sealedLines :=
      { loc := loc, head := i.head, image := i.image, index := index, key := key.map (·.serial) } ::
        s.sealedLines.filter (·.loc ≠ loc) }

/-- R334, R374: a sealed line comes back to the die: decrypted and checked, or `none` when its check fails, as it does for a
line that another key sealed. -/
def State.unsealLine (s : State) (l : SealedLine) : Option State :=
  let entry := s.readBytes .device (l.head + 0x40 + 24 * (l.index - 4)) 24
  match s.imageKey l.head with
  | none => none
  | some k =>
    if l.key ≠ some k.serial then none
    else
      match gcmOpen k.key (entry.take 8 ++ leBytes 4 l.index) (s.sealAad l.head l.image)
          (s.readBytes .device l.loc 256) (entry.drop 8) with
      | none => none
      | some plain =>
        some { (s.commitHome (cellsAt l.loc ((plain ++ List.replicate 256 0).take 256))) with
          sealedLines := s.sealedLines.filter (·.loc ≠ l.loc) }

/-- R335: the lines among these locations that fail their check. -/
def State.failingLines (s : State) (locs : List Nat) : List Nat :=
  ((s.sealedLines.filter (fun l =>
    locs.any (fun x => lineNo x == lineNo l.loc) && (s.unsealLine l).isNone))).map (fun l => lineNo l.loc)

/-- Bring back to the die every sealed line that holds one of these bytes; the image address of the first line whose
check fails otherwise (R335). -/
def unsealAll : List SealedLine → List Nat → State → Except Word State
  | [], _, s => .ok s
  | l :: ls, locs, s =>
    if locs.any (fun x => lineNo x == lineNo l.loc) then
      match s.unsealLine l with
      | some s' => unsealAll ls locs s'
      | none => .error (l.image + BitVec.ofNat 64 (256 * l.index))
    else unsealAll ls locs s

/-- The context lines that these bytes touch are on the die, or the image address of a line that fails its check. -/
def State.onDie (s : State) (locs : List Nat) : Except Word State := unsealAll s.sealedLines locs s

/-- R334: the context image that holds a line of memory, and the index of the line in it. -/
def State.imageOf (s : State) (line : Nat) : Option (Image × Nat) :=
  s.images.findSome? (fun i =>
    let n := (i.lines.takeWhile (· != line)).length
    if n < i.lines.length then some (i, n + 4) else none)

/-- R334: a context image is in use, at the places that its lines have now. -/
def State.noteImage (s : State) (i : Image) : State :=
  { s with images := i :: s.images.filter (fun j => j.head != i.head) }

/-- R334: the lines among these that are context lines on the die leave it: they are sealed. -/
def State.sealLines (s : State) (lines : List Nat) : State :=
  lines.foldl (fun s line =>
    match s.imageOf line with
    | some (i, index) => if s.sealedLines.any (·.loc == 256 * line) then s else s.sealLine i (256 * line) index
    | none => s) s

/-- The lines of memory that the drained stores of a list touch. -/
def linesOf (ds : List Drained) : List Nat := (ds.flatMap (fun d => d.cells.map (fun x => lineNo x.1))).eraseDups

/-- R264, R334: every store in a core's L1 rises to the level of a fence, and the context lines that reach their home
leave the die. -/
def State.raiseCore (s : State) (c : Nat) (r : Reach) : State :=
  let mine := fun (d : Drained) => d.core == c && !d.engine
  let leaving := s.drained.filter (fun d => mine d && d.reach.rank < Reach.h.rank && Reach.h.rank ≤ r.rank)
  { s with drained := s.drained.map (fun (d : Drained) => if mine d then { d with reach := r.atLeast d.reach } else d) }.settle
    |>.sealLines (if s.images.isEmpty then [] else linesOf leaving)

/-- R129: a fence at scope 6 of a core makes stores visible at system scope; what stood there for the host is kept, for
relaxed packets that may start before they are visible. -/
def State.keepOlder (s : State) (c : Nat) : State :=
  let mine := s.drained.filter (fun d => d.core == c && !d.engine && d.reach != .s)
  if mine.isEmpty then s
  else
    let sectors := (mine.flatMap (fun d => d.cells.map (fun x => sectorNo x.1))).eraseDups
    s.modCore c (fun k => { k with fenced := sectors.map (fun q => (q, s.readBytes .host (32 * q) 32)) ++ k.fenced })

/-- R264: every store of a line in a core's L1 rises one level; an engine store at D rises to H. A context line that
leaves the die is sealed (R334). -/
def State.evict (s : State) (c line : Nat) : State :=
  let leaves := s.drained.any (fun d =>
    d.cells.any (fun x => lineNo x.1 == line) && d.reach == .d && (d.core == c || d.engine))
  let s1 := { s with
    drained := s.drained.map (fun (d : Drained) =>
      if d.cells.any (fun x => lineNo x.1 == line) then
        match d.reach with
        | .c => if d.core == c && !d.engine then { d with reach := .d } else d
        | .d => if d.core == c || (d.engine && d.die == dieOf c) then { d with reach := .h } else d
        | _ => d
      else d)
    watches := s.watches.map (fun w => if w.core == c && w.line == line then { w with fired := true } else w)
    reservations := s.reservations.filter (fun r => !(r.core == c && r.line == line)) }
  if leaves then s1.sealLines [line] else s1

/-- R225, R264: does the L1 of a core hold a store to the line, at reach C? -/
def State.holdsStore (s : State) (c line : Nat) : Bool :=
  s.drained.any (fun w => w.core == c && !w.engine && w.reach == .c && w.cells.any (fun x => lineNo x.1 == line))

/-- R31, R225, R269: lines are recalled from every L1, for a unit that owns them until it has written them. -/
def State.recallLines (s : State) (lines : List Nat) : State :=
  { s with
    reservations := s.reservations.filter (fun r => !lines.contains r.line)
    l1 := s.l1.filter (fun x => !lines.contains x.line || s.holdsStore x.core x.line) }

/-- R87: the stores of a line at reach H take reach S. -/
def State.writeBackLine (s : State) (line : Nat) : State :=
  { s with drained := s.drained.map (fun (d : Drained) =>
      if d.reach == Reach.h && d.cells.any (fun x => lineNo x.1 == line) then { d with reach := Reach.s } else d) }.settle

/-- R264: a store at reach H takes reach S. -/
def State.hostWriteBack (s : State) (n : Nat) : State :=
  match s.drained[n]? with
  | some d => if d.reach == .h then { s with drained := s.drained.set n { d with reach := .s } }.settle else s
  | none => s

end Sys2Proof.Machine
end

