-- ==== Sys2Proof/Machine/Translate.lean ====
section
/-! DEFINITION. Translation: the local window, Sv48 with its walker and TLBs, and the local address map (R215, R216,
R230, R232). -/

namespace Sys2Proof.Machine

/-- The kind of an access: a read, or a write or atomic (R326). -/
inductive Access where
  | load
  | store
  deriving DecidableEq, Repr

/-- A failed access: an access fault or a page fault, with the address (R326). -/
inductive XFault where
  | access (va : Word)
  | page (va : Word)
  deriving DecidableEq, Repr

/-- R326: the cause of a failed access. -/
def XFault.cause (a : Access) : XFault → Word
  | .access _ => if a = .load then causeLoadAccess else causeStoreAccess
  | .page _ => if a = .load then causeLoadPage else causeStorePage

/-- The address of a failed access. -/
def XFault.va : XFault → Word
  | .access va => va
  | .page va => va

/-- The exception of a failed access, with nothing changed (R327). -/
def XFault.stop (f : XFault) (a : Access) (s : State) : Stop := .trap (f.cause a) f.va s

/-! ## The local window -/

/-- R215: the first address of the local window. -/
def windowBase : Nat := 0xFFFFFE0000000000

/-- R215: is the address in the local window? -/
def inWindow (va : Word) : Bool := windowBase ≤ va.toNat && va.toNat < windowBase + 2 ^ 40

/-- R215: the region of a window offset: 0 the core's scratchpad, 1 cluster-shared memory, 2 the chip scratchpad. -/
def windowRegion (off : Nat) : Option Nat :=
  if off < 0x40000 then some 0
  else if 0x1000000 ≤ off && off < 0x1400000 then some 1
  else if 0x10000000 ≤ off && off < 0x20000000 then some 2
  else none

/-- R215, R216: the location of a window offset as core `c` sees it, when it may reach it. -/
def State.windowLoc (s : State) (c off : Nat) : Option Nat :=
  let k := s.core c
  let free := s.isExecutive c
  match windowRegion off with
  | some 0 => if free || off < k.spad * 1024 then some (scratchLoc c off) else none
  | some 1 =>
    let o := off - 0x1000000
    let c' := 16 * clusterOf c + o / 0x40000
    if free || (o % 0x40000 < k.spad * 1024 && (s.core c').launch == k.launch && k.launch.isSome) then
      some (scratchLoc c' (o % 0x40000))
    else none
  | some 2 =>
    let o := off - 0x10000000
    let d := s.ld k.ld.toNat
    if free || (d.spadOff ≤ o && o < d.spadOff + d.spadLen) then some (chipScratchBase + o) else none
  | _ => none

/-- R215, R216: the locations of `n` window bytes at `va`; all must lie in one region. -/
def State.windowLocs (s : State) (c : Nat) (va : Word) (n : Nat) : Except XFault (List Nat) :=
  let off := va.toNat - windowBase
  if windowRegion off = windowRegion (off + (n - 1)) then
    match (List.range n).mapM (fun i => s.windowLoc c (off + i)) with
    | some ls => .ok ls
    | none => .error (.access va)
  else .error (.access va)

/-! ## Sv48 (R232) -/

/-- PTE bits. -/
def pteV (p : Word) : Bool := p.getLsbD 0
def pteR (p : Word) : Bool := p.getLsbD 1
def pteW (p : Word) : Bool := p.getLsbD 2
def pteX (p : Word) : Bool := p.getLsbD 3
def pteU (p : Word) : Bool := p.getLsbD 4
def pteG (p : Word) : Bool := p.getLsbD 5
def pteA (p : Word) : Bool := p.getLsbD 6
def pteD (p : Word) : Bool := p.getLsbD 7

/-- The physical page number of a PTE. -/
def ptePpn (p : Word) : Nat := field p 10 44

/-- R232: a PTE that the walker refuses: not valid, writable but not readable, reserved bits set, or an address
beyond 52 bits. -/
def pteBad (p : Word) : Bool :=
  !pteV p || (!pteR p && pteW p) || field p 54 10 != 0 || 2 ^ 40 ≤ ptePpn p

/-- Is a PTE a leaf? -/
def pteLeaf (p : Word) : Bool := pteR p || pteX p

/-- The location of a physical address in this chip's device memory or chip scratchpad, for a walker. -/
def State.tableLoc (s : State) (pa : Nat) : Option Nat :=
  if pa / 2 ^ 42 = s.chipNumber ∧ (isDevice (pa % 2 ^ 42) || isChipScratch (pa % 2 ^ 42)) = true then
    some (pa % 2 ^ 42)
  else none

/-- The result of a walk: the leaf, its page size in bits, and where it stands. -/
structure Leaf where
  pte : Word
  sizeBits : Nat
  loc : Nat
  deriving DecidableEq, Repr

/-- Why a walk fails. -/
inductive WalkFail where
  | page
  | access
  deriving DecidableEq, Repr

/-- R232: the walk from the table at physical page `ppn`, for `level` levels below this one. -/
def State.walkFrom (s : State) (die : Nat) (vpn : Nat) : Nat → Nat → Except WalkFail Leaf
  | level, ppn =>
    match s.tableLoc (ppn * 4096 + 8 * (vpn / 2 ^ (9 * level) % 512)) with
    | none => .error .access
    | some loc =>
      let p := BitVec.ofNat 64 (s.readNat (.die die) loc 8)
      if pteBad p then .error .page
      else if pteLeaf p then
        if level ≥ 3 ∨ ptePpn p % 2 ^ (9 * level) ≠ 0 then .error .page
        else .ok { pte := p, sizeBits := 12 + 9 * level, loc := loc }
      else if pteA p || pteD p || pteU p then .error .page
      else
        match level with
        | 0 => .error .page
        | l + 1 => s.walkFrom die vpn l (ptePpn p)

/-- R232: is an access of this kind at this privilege allowed by the leaf? -/
def leafAllows (p : Word) (priv : Priv) (sum mxr : Bool) (a : Access) : Bool :=
  (match priv with
  | .user => pteU p
  | _ => !pteU p || sum) &&
  (match a with
  | .load => pteR p || (mxr && pteX p)
  | .store => pteW p)

/-- R232: a leaf whose A is set, and D for a store. -/
def leafMarked (p : Word) (a : Access) : Bool := pteA p && (a == .load || pteD p)

/-- R232: the PTE with A set, and D for a store. -/
def markLeaf (p : Word) (a : Access) : Word := p ||| (if a = .load then 0x40 else 0xC0)

/-- Does a TLB entry match the page? Entries of another VF never match (R232). -/
def TlbEntry.hits (e : TlbEntry) (vf : BitVec 6) (asid : BitVec 16) (va : Word) : Bool :=
  e.vf == vf && (e.global || e.asid == asid) && e.vpn == field va 0 48 / 2 ^ e.sizeBits

/-- The set of a TLB of 8 ways to which an entry belongs, of 256: the low bits of its page number (DESIGN CHOICE, log entry
142). -/
def TlbEntry.set (e : TlbEntry) : Nat := e.vpn % 256

/-- A fully associative TLB of `cap` entries with one more; a full one loses the entry that its replacement picks. -/
def tlbFill (cap fresh : Nat) (l : List TlbEntry) (e : TlbEntry) : List TlbEntry :=
  if l.length < cap then e :: l else e :: l.eraseIdx (Config.tlbVictim fresh % l.length)

/-- R232: the bench TLB, of 8 ways, with one more entry; a full set loses the entry that its replacement picks. -/
def benchFill (fresh : Nat) (l : List TlbEntry) (e : TlbEntry) : List TlbEntry :=
  l.filter (fun x => x.set ≠ e.set) ++ tlbFill 8 fresh (l.filter (fun x => x.set = e.set)) e

/-- R232: whose TLB translates: the core's, whose misses go to the bench's; the bench's, for its engine and its key-route
unit; that of its matrix load pipe, whose misses are taken to go to the bench's (DEDUCED, log entry 142). -/
inductive Via where
  | core
  | bench
  | pipe
  deriving DecidableEq, Repr

/-- The context in which a strand or an engine translates. -/
structure XCtx where
  core : Nat
  priv : Priv
  sum : Bool
  mxr : Bool
  satp : Word
  vf : BitVec 6
  via : Via := .core
  deriving DecidableEq, Repr

/-- R225: where the context's accesses meet the caches. -/
def XCtx.user (x : XCtx) : CacheUser := if x.via = .core then .core x.core else .die (dieOf x.core)

/-- R329: MPRV makes a machine-mode load or store use the previous privilege. -/
def Strand.dataPriv (t : Strand) : Priv :=
  if t.priv = .machine ∧ t.mstatus.getLsbD 17 then
    match field t.mstatus 11 2 with
    | 0 => .user
    | 1 => .supervisor
    | _ => .machine
  else t.priv

/-- The context of a strand's own data accesses. -/
def State.xctx (s : State) (c i : Nat) : XCtx :=
  let t := s.strand c i
  { core := c, priv := t.dataPriv, sum := t.mstatus.getLsbD 18, mxr := t.mstatus.getLsbD 19,
    satp := (s.core c).satp, vf := (s.core c).vfNow }

/-- The context of the device's own accesses to a core's virtual addresses (context images, records): the privilege
is not checked. -/
def State.deviceCtx (s : State) (c : Nat) : XCtx :=
  { core := c, priv := .supervisor, sum := true, mxr := false, satp := (s.core c).satp, vf := (s.core c).vfNow }

/-- R232: does the context translate, or use addresses as physical ones? -/
def XCtx.bare (x : XCtx) : Bool := x.priv == .machine || field x.satp 60 4 != 9

/-- The address space of a context. -/
def XCtx.asid (x : XCtx) : BitVec 16 := x.satp.extractLsb' 44 16

/-- R232: a leaf fills the bench's TLB, and that of the core or of the pipe where the access was made. -/
def State.fillTlbs (s : State) (x : XCtx) (va p : Word) (sizeBits : Nat) : State :=
  let e : TlbEntry :=
    { vf := x.vf, asid := x.asid, global := pteG p, vpn := field va 0 48 / 2 ^ sizeBits, sizeBits := sizeBits, pte := p }
  let keep := fun (t : TlbEntry) => !t.hits x.vf x.asid va
  let s1 := match x.via with
    | .core => s.modCore x.core (fun k => { k with tlb := tlbFill 64 s.fresh (k.tlb.filter keep) e })
    | .bench => s
    | .pipe => s.modBench (benchOf x.core) (fun b => { b with pipeTlb := tlbFill 32 s.fresh (b.pipeTlb.filter keep) e })
  let s2 := s1.modBench (benchOf x.core) (fun b => { b with tlb := benchFill (s.fresh + 1) (b.tlb.filter keep) e })
  { s2 with fresh := s.fresh + 2 }

/-- R232, R355: the lines of the page tables that a walk reads, which it reads through the L2. -/
def State.walkLines (s : State) (die vpn : Nat) : Nat → Nat → List Nat
  | level, ppn =>
    match s.tableLoc (ppn * 4096 + 8 * (vpn / 2 ^ (9 * level) % 512)) with
    | none => []
    | some loc =>
      let p := BitVec.ofNat 64 (s.readNat (.die die) loc 8)
      deviceLines [loc] ++
        (if pteBad p || pteLeaf p then []
        else
          match level with
          | 0 => []
          | l + 1 => s.walkLines die vpn l (ptePpn p))

/-- R232: a walk for a page. The leaf is marked in memory by an atomic OR at its home; where it has changed since it was read,
the walk starts again, at most `fuel` times. -/
def State.walkFill (s : State) (x : XCtx) (a : Access) (va : Word) (fuel : Nat) : Except XFault (State × Word × Nat) :=
  match s.walkFrom (dieOf x.core) (field va 12 36) 3 (field x.satp 0 44) with
  | .error .access => .error (.access va)
  | .error .page => .error (.page va)
  | .ok l =>
    if leafAllows l.pte x.priv x.sum x.mxr a then
      let s0 := s.useCache (.die (dieOf x.core)) x.vf none (s.walkLines (dieOf x.core) (field va 12 36) 3 (field x.satp 0 44))
      if leafMarked l.pte a then .ok (s0.fillTlbs x va l.pte l.sizeBits, l.pte, l.sizeBits)
      else
        let s1 := s0.atHome l.loc 8
        let now := BitVec.ofNat 64 (s1.readNat .device l.loc 8)
        if now = l.pte then
          let p := markLeaf now a
          .ok ((s1.commitHome (cellsAt l.loc (leBytes 8 p.toNat))).fillTlbs x va p l.sizeBits, p, l.sizeBits)
        else
          match fuel with
          | 0 => .error (.page va)
          | n + 1 => s1.walkFill x a va n
    else .error (.page va)

/-- R232: the entry of the TLBs that an access meets: that of its core or pipe, or the bench's. -/
def State.tlbEntry (s : State) (x : XCtx) (va : Word) : Option TlbEntry :=
  let mine := match x.via with
    | .core => (s.core x.core).tlb.find? (·.hits x.vf x.asid va)
    | .bench => none
    | .pipe => (s.bench (benchOf x.core)).pipeTlb.find? (·.hits x.vf x.asid va)
  match mine with
  | some e => some e
  | none => (s.bench (benchOf x.core)).tlb.find? (·.hits x.vf x.asid va)

/-- R232: how often a walk can find its leaf changed: each time a store to it that its die did not see has risen. -/
def State.walkFuel (s : State) : Nat := s.drained.length

/-- R232: the physical address of a virtual one: the core's or the pipe's TLB, then the bench's, then a walk. -/
def State.physical (s : State) (x : XCtx) (a : Access) (va : Word) : Except XFault (State × Nat) :=
  if x.bare then
    if va.toNat < 2 ^ 52 then .ok (s, va.toNat) else .error (.access va)
  else if va.toInt < -(2 ^ 47) ∨ va.toInt ≥ 2 ^ 47 then .error (.page va)
  else
    let r : Except XFault (State × Word × Nat) :=
      match s.tlbEntry x va with
      | some e =>
        if leafAllows e.pte x.priv x.sum x.mxr a && leafMarked e.pte a then .ok (s, e.pte, e.sizeBits)
        else if leafAllows e.pte x.priv x.sum x.mxr a then s.walkFill x a va s.walkFuel
        else .error (.page va)
      | none => s.walkFill x a va s.walkFuel
    match r with
    | .error f => .error f
    | .ok (s', p, bits) => .ok (s', ptePpn p * 4096 / 2 ^ bits * 2 ^ bits + va.toNat % 2 ^ bits)

/-! ## The local address map (R230, R347) -/

/-- R347: the location of an offset in the host window of logical device `n`, when its page is valid. -/
def State.hostWindow (s : State) (n off : Nat) : Option Nat :=
  let d := s.ld n
  if d.window = 0 || d.windowInvalid then none
  else
    let e := s.readNat .device (d.window + 8 * (off / 4096)) 8
    if e % 2 = 1 then some (hostLoc n (e / 4096 % 2 ^ 40 * 4096 + off % 4096)) else none

/-- R230: the location of a local address for logical device `ld`; other addresses raise an access fault. -/
def State.localLoc (s : State) (ld a : Nat) : Option Nat :=
  if isDevice a || isChipScratch a then some a
  else if hostWindowBase ≤ a ∧ a < 2 * hostWindowBase then
    let n := (a - hostWindowBase) / 2 ^ 37
    if n = ld then s.hostWindow n ((a - hostWindowBase) % 2 ^ 37) else none
  else none

/-- R230: the location of a pod physical address of this chip. -/
def State.paLoc (s : State) (ld pa : Nat) : Option Nat :=
  if pa / 2 ^ 42 = s.chipNumber then s.localLoc ld (pa % 2 ^ 42) else none

/-! ## Ranges -/

/-- A range cut at page boundaries. -/
def pageChunks : Nat → Word → Nat → List (Word × Nat)
  | 0, _, _ => []
  | _, _, 0 => []
  | fuel + 1, va, n =>
    let m := min n (4096 - va.toNat % 4096)
    (va, m) :: pageChunks fuel (va + BitVec.ofNat 64 m) (n - m)

/-- What the pages of a range give: the state, the locations in order, the first access fault, the first page fault. -/
structure XRange where
  s : State
  locs : List Nat
  access : Option Word
  page : Option Word
  deriving DecidableEq, Repr

/-- One page of a range: of the window, or translated. -/
def XRange.step (x : XCtx) (a : Access) (ld : Nat) (r : XRange) (c : Word × Nat) : XRange :=
  if inWindow c.1 then
    match r.s.windowLocs x.core c.1 c.2 with
    | .ok ls => { r with locs := r.locs ++ ls }
    | .error f => { r with access := r.access.or (some f.va) }
  else
    match r.s.physical x a c.1 with
    | .error (.access v) => { r with access := r.access.or (some v) }
    | .error (.page v) => { r with page := r.page.or (some v) }
    | .ok (s', pa) =>
      match (List.range c.2).mapM (fun i => s'.paLoc ld (pa + i)) with
      | some ls =>
        { r with s := if a = .load then s'.useCache x.user x.vf none (deviceLines ls) else s', locs := r.locs ++ ls }
      | none => { r with s := s', access := r.access.or (some c.1) }

/-- The locations of `n` bytes at `va`, every byte translated and checked before any is read or written (R32, R236).
An access fault goes before a page fault (R258). -/
def State.translate (s : State) (x : XCtx) (a : Access) (va : Word) (n : Nat) :
    Except XFault (State × List Nat) :=
  if inWindow va then
    match s.windowLocs x.core va n with
    | .ok ls => .ok (s, ls)
    | .error f => .error f
  else
    let r := (pageChunks (n / 4096 + 2) va n).foldl
      (XRange.step x a (s.core x.core).ld.toNat) { s := s, locs := [], access := none, page := none }
    match r.access with
    | some v => .error (.access v)
    | none =>
      match r.page with
      | some v => .error (.page v)
      | none => .ok (r.s, r.locs)

/-- The pod physical address of `n` bytes at `va`, which may be another chip's (R308, R309, R321). -/
def State.podAddress (s : State) (x : XCtx) (a : Access) (va : Word) (n : Nat) : Except XFault (State × Nat) :=
  if inWindow va then
    match s.windowLocs x.core va n with
    | .ok (l :: _) => if isCoreScratch l then .error (.access va) else .ok (s, s.chipNumber * 2 ^ 42 + l)
    | .ok [] => .error (.access va)
    | .error f => .error f
  else s.physical x a va

/-! ## The sources of chains (R248) -/

/-- The address space of a chain (R246). -/
def Chain.ctx (k : Chain) : XCtx :=
  { core := k.core, priv := k.priv, sum := k.sum, mxr := k.mxr, satp := k.satp, vf := k.vf, via := .bench }

/-- R248: the source ranges of a chain whose pages translate now count with the others that it has still to read. -/
def State.refreshChain (s : State) (k : Chain) : Chain :=
  let found := k.unmapped.filterMap (fun u =>
    match s.translate k.ctx .load u.2.1 u.2.2 with
    | .ok (_, l :: _) => some (u, (u.1, l, u.2.2))
    | _ => none)
  { k with
    unread := k.unread ++ found.map (·.2)
    unmapped := k.unmapped.filter (fun u => !(found.map (·.1)).contains u) }

/-- R248: as `refreshChain`, for the chains of a strand. -/
def State.refreshSources (s : State) (c i : Nat) : State :=
  let b := s.bench (benchOf c)
  let mine := fun (k : Chain) => k.core == c && k.strand == i && !k.unmapped.isEmpty
  if b.chains.any mine then
    s.modBench (benchOf c) (fun b => { b with chains := b.chains.map (fun k => if mine k then s.refreshChain k else k) })
  else s

end Sys2Proof.Machine
end

