-- ==== Sys2Proof/Machine/Objects.lean ====
section
/-! DEFINITION. Count objects, the routes they trigger, and notification queues (R283-R285, R302, R343, R344). -/

namespace Sys2Proof.Machine

/-- The tick now (R17). -/
def State.tick (s : State) : Word := s.chip.tick

/-! ## Notification queues -/

/-- R343: the locations of the blocks of a logical device's queue table with this DIR, in order. -/
def State.queueBlocks (s : State) (ld dir : Nat) : List Nat :=
  let d := s.ld ld
  ((List.range d.nqueues).map (fun k => d.queues + 32 * k)).filter (fun b => s.readNat .device (b + 9) 1 == dir)

/-- R344: a producer appends a record to the queue of a block; the queue was full if the answer is `true`, and then
the record is dropped and OVF set. -/
def State.postTo (s : State) (b : Nat) (record : List Byte) : State × Bool :=
  let base := s.readNat .device b 8
  let logn := s.readNat .device (b + 8) 1
  let pi := s.readNat .device (b + 0x10) 4
  let ci := s.readNat .device (b + 0x14) 4
  if (pi + 2 ^ 32 - ci) % 2 ^ 32 = 2 ^ logn then
    (s.commitSystem (cellsAt (b + 0xC) (leBytes 4 (s.readNat .device (b + 0xC) 4 ||| 1))), true)
  else
    let s := s.commitSystem (cellsAt (base % 2 ^ 42 + 32 * (pi % 2 ^ logn)) ((record ++ List.replicate 32 0).take 32))
    (s.commitSystem (cellsAt (b + 0x10) (leBytes 4 ((pi + 1) % 2 ^ 32))), false)

/-- R343, R351: a device record goes to the k-th block with DIR = 0. With no such block it is dropped, and where the logical
device has not accepted the format of the records (NOTIFY1; DEDUCED, log entry 146). -/
def State.post (s : State) (ld k : Nat) (record : List Byte) : State :=
  match (s.queueBlocks ld 0)[k]? with
  | some b => if (s.ld ld).accept.getLsbD 0 then (s.postTo b record).1 else s
  | none => s

/-- R343: the executive's fault queue is the last block with DIR = 0; the answer says whether the record was posted. -/
def State.postFault (s : State) (ld : Nat) (record : List Byte) : State × Bool :=
  match (s.queueBlocks ld 0).getLast? with
  | some b => let r := s.postTo b record; (r.1, !r.2)
  | none => (s, true)

/-! ## Routes (R300-R302) -/

/-- The fields of a route record (R300). -/
def rrRoute (r : List Byte) : Nat := recNat r 0 2
def rrRank (r : List Byte) : Nat := recNat r 2 2
def rrOutport (r : List Byte) : Nat := recNat r 4 1
def rrSlot (r : List Byte) : Nat := recNat r 5 1
def rrFlits (r : List Byte) : Nat := recNat r 6 1
def rrOp (r : List Byte) : Nat := recNat r 7 1
def rrInmask (r : List Byte) : Nat := recNat r 8 4
def rrLen (r : List Byte) : Nat := recNat r 0xC 2
def rrBound (r : List Byte) : Nat := recNat r 0xE 2
def rrBuf (r : List Byte) : Nat := recNat r 0x10 8
def rrObj (r : List Byte) : Nat := recNat r 0x18 8

/-- R300: does a local source contribute to the route? -/
def Route.hasSource (r : Route) : Bool := r.records.any (fun x => (rrInmask x).testBit 24)

/-- R300: the input ports of a route. -/
def Route.inports (r : Route) : List Nat :=
  (List.range 24).filter (fun p => r.records.any (fun x => (rrInmask x).testBit p))

/-- R303: is the route a barrier's? -/
def Route.isBar (r : Route) : Bool := r.records.any (fun x => rrOp x == 5)

/-- R302: every input port has delivered firing `f`. -/
def Route.inputsPresent (r : Route) : Bool :=
  r.inports.all (fun p => r.inputs.any (fun x => x.1 == p && x.2.1 == r.firing))

/-- R280: is a barrier's root here: does a record of its route deliver to this chip? -/
def Route.isRoot (r : Route) : Bool := r.isBar && r.records.any (fun x => rrOutport x == 0xFF)

/-- R302: a route whose inputs allow it moves from IDLE to ARMED to READY; becoming READY it reads its local source
at chip scope. At the root of a barrier the members here must have arrived as well (R280). -/
def State.tryRoute (s : State) (r : Route) : Route :=
  let here := !r.isRoot || (r.source.isSome && r.release.isNone)
  let r1 :=
    if r.state = .idle ∧ !r.hasSource ∧ r.inports ≠ [] ∧ r.inputsPresent ∧ here then { r with state := .armed } else r
  if r1.state = .armed ∧ r1.inputsPresent then
    let src := (r1.records.find? (fun x => (rrInmask x).testBit 24)).map
      (fun x => s.readBytes .device (rrBuf x) (rrLen x))
    { r1 with state := .ready, readyTick := s.tick, source := if r1.isBar then r1.source else src }
  else r1

/-- R302: the trigger of a route has been left at 0. -/
def State.triggerRoute (s : State) (loc : Nat) (r : Route) : Route :=
  if r.records.any (fun x => (rrInmask x).testBit 24 && rrObj x == loc && rrOp x != 5) then
    if r.state = .idle then s.tryRoute { r with state := .armed }
    else { r with triggers := r.triggers + 1 }
  else r

/-- R302: a step leaves the REMAIN of the object at 0, and the routes it triggers fire. -/
def State.triggered (s : State) (loc : Nat) : State := { s with routes := s.routes.map (s.triggerRoute loc) }

/-! ## Count objects (R283, R284) -/

/-- R283: the bytes "KCNT". -/
def kcnt : Nat := 0x544E434B

/-- The fields of a count object at its home. -/
def State.coMagic (s : State) (loc : Nat) : Nat := s.readNat .device loc 4
def State.coGen (s : State) (loc : Nat) : BitVec 32 := BitVec.ofNat 32 (s.readNat .device (loc + 4) 4)
def State.coRemain (s : State) (loc : Nat) : Nat := s.readNat .device (loc + 8) 8
def State.coStatus (s : State) (loc : Nat) : BitVec 32 := BitVec.ofNat 32 (s.readNat .device (loc + 0x10) 4)
def State.coStray (s : State) (loc : Nat) : Nat := s.readNat .device (loc + 0x14) 4
def State.coWaiter (s : State) (loc : Nat) : Nat := s.readNat .device (loc + 0x18) 4

/-- R284: who an arrival comes from, as its fault record names it. -/
structure ArrivalSource where
  source : Nat
  core : Nat
  strand : Nat
  addr : Word
  ld : Nat
  deriving DecidableEq, Repr

/-- R284: the barrier-object fault record. -/
def State.objectFault (s : State) (a : ArrivalSource) (loc : Nat) : State :=
  s.post a.ld 0 (leBytes 2 0x0011 ++ leBytes 2 a.source ++ leBytes 2 a.core ++ leBytes 2 a.strand ++
    leBytes 8 a.addr.toNat ++ s.readBytes .device loc 8 ++ leBytes 8 s.tick.toNat)

/-- STRAY rises by one, saturating (R283). -/
def State.addStray (s : State) (loc : Nat) : State :=
  s.commitHome (cellsAt (loc + 0x14) (leBytes 4 (min (s.coStray loc + 1) 0xFFFFFFFF)))

/-- R284: what an arrival of a generation meets at the object. -/
inductive ArrivalCase where
  | badMagic
  | otherGen
  | zero
  | counts
  deriving DecidableEq, Repr

/-- R284: the case of an arrival. -/
def State.arrivalCase (s : State) (loc : Nat) (gen : BitVec 32) : ArrivalCase :=
  if s.coMagic loc ≠ kcnt then .badMagic
  else if s.coGen loc ≠ gen then .otherGen
  else if s.coRemain loc = 0 then .zero
  else .counts

/-- R284: the status that abarr reports of an arrival. -/
def ArrivalCase.code : ArrivalCase → Word
  | .badMagic => 2
  | .otherGen => 1
  | .zero => 3
  | .counts => 0

/-- R76, R284: REMAIN falls by one; at 0 routes fire. The launch unit notes the object. -/
def State.decrement (s : State) (loc : Nat) : State :=
  let n := s.coRemain loc - 1
  let s0 := s.commitHome (cellsAt (loc + 8) (leBytes 8 n))
  let s1 := { s0 with decremented := loc :: s0.decremented }
  if n = 0 then s1.triggered loc else s1

/-- R284: the arrival step. A status is stored before the decrement, as one release at system scope with it
(R87, R317). -/
def State.arriveOnly (s : State) (a : ArrivalSource) (loc : Nat) (gen : BitVec 32) (status : Option (BitVec 32)) :
    State :=
  let s := s.atHome loc 32
  match s.arrivalCase loc gen with
  | .badMagic => s.objectFault a loc
  | .otherGen => s.addStray loc
  | .zero => s.addStray loc
  | .counts =>
    match status with
    | none => s.decrement loc
    | some w => (s.commitSystem (cellsAt (loc + 0x10) (leBytes 4 w.toNat))).decrement loc |>.writeBackLine
        (lineNo loc)

end Sys2Proof.Machine
end

