-- ==== Sys2Proof/Machine/Counters.lean ====
section
/-! DEFINITION. Event counters and the trace ring of a core (R352-R363). -/

namespace Sys2Proof.Machine

/-! ## Trace -/

/-- R361: the local address of a core's trace ring. -/
def Core.traceBase (k : Core) : Nat := (k.evmode &&& ~~~0xFFF#64).toNat

/-- R362: the bytes of a trace record. -/
def traceRecord (kind strand c : Nat) (milestone : Word) (tick payload : Word) (vpeid : BitVec 24) : List Byte :=
  leBytes 1 kind ++ leBytes 1 strand ++ leBytes 2 c ++ leBytes 4 milestone.toNat ++ leBytes 8 tick.toNat ++
    leBytes 8 payload.toNat ++ leBytes 4 vpeid.toNat ++ leBytes 4 0

/-- R362: the record of an event of core `c` at the present tick. -/
def State.traceOf (s : State) (c kind strand : Nat) (payload : Word) : List Byte :=
  let t := (s.core c).strand 0
  traceRecord kind strand c t.sstepcnt s.tick payload t.vpeid

/-- R362, R363: a record joins the ring, before its count rises at scope 4; one that would fall outside device memory
is dropped and TRACE cleared. -/
def State.writeTrace (s : State) (c : Nat) (record : List Byte) : State :=
  let k := s.core c
  if !k.evmode.getLsbD 1 then s
  else
    let base := k.traceBase
    let n := s.readNat .device base 8
    let loc := base + 32 + 32 * (n % 2 ^ (field k.evmode 8 4 + 7))
    if isDevice (base + 7) && isDevice (loc + 31) then
      (s.commitHome (cellsAt loc record)).commitHome (cellsAt base (leBytes 8 (n + 1)))
    else s.modCore c (fun k => { k with evmode := k.evmode &&& ~~~2#64 })

/-- R362: an event of core `c` is recorded. -/
def State.trace (s : State) (c kind strand : Nat) (payload : Word) : State :=
  s.writeTrace c (s.traceOf c kind strand payload)

/-- R363: the release of a barrier channel is recorded after the other events of its core cycle: its record is kept until
the cycle ends. -/
def State.traceRelease (s : State) (c ch : Nat) : State :=
  { s with heldTraces := s.heldTraces ++ [(c, s.traceOf c 3 0 (BitVec.ofNat 64 ch))] }

/-- R363: the records kept for the end of a core cycle join their rings. -/
def State.writeReleases (s : State) : State :=
  s.heldTraces.foldl (fun s r => s.writeTrace r.1 r.2) { s with heldTraces := [] }

/-! ## Counting -/

/-- R353: the event codes that the machine counts. -/
def evCycles : Nat := 0x01
def evRetired : Nat := 0x02
def evVector : Nat := 0x03
def evStall : Nat := 0x04
def evRegCacheMiss : Nat := 0x05
def evMatrix : Nat := 0x06
def evCodeMiss : Nat := 0x07
def evShelfOverflow : Nat := 0x08
def evShelfWait : Nat := 0x09
def evRejection : Nat := 0x10
def evEccSingle : Nat := 0x18
def evEccDouble : Nat := 0x19
def evRouteLate : Nat := 0x20
def evFlitsSent : Nat := 0x60
def evFlitsReceived : Nat := 0x61
def evFraming : Nat := 0x62
def evControlLane : Nat := 0x63

/-- R353: is the code that of an event? Every other code counts nothing. -/
def isEvent (e : Nat) : Bool :=
  (1 ≤ e && e ≤ 9) || (0x10 ≤ e && e ≤ 0x19) || e == 0x20 || (0x40 ≤ e && e ≤ 0x43) || (0x48 ≤ e && e ≤ 0x4B) ||
    (0x60 ≤ e && e ≤ 0x63)

/-- R357: events that advance only on server cores. -/
def isFabricEvent (e : Nat) : Bool := e == 0x20 || (0x60 ≤ e && e ≤ 0x63)

/-- R358: is the event's bit of the allowed bitmap set? -/
def Core.eventAllowed (k : Core) (e : Nat) : Bool := (k.evallow[e / 64]?.getD 0).getLsbD (e % 64)

/-- R357, R358: does an event count on a core? -/
def State.eventCounts (s : State) (c e : Nat) : Bool :=
  if s.isServer c then true else !isFabricEvent e && (s.core c).eventAllowed e

/-- R354: does the core run a world, a launch's included? -/
def State.runsWorld (s : State) (c : Nat) : Bool :=
  s.isServer c || (s.core c).wdesc != 0 || (s.core c).launch.isSome

/-- R354, R360, R362: counter `i` of a core wraps. -/
def State.counterWrap (s : State) (c i : Nat) : State :=
  let s :=
    if ((s.core c).evsel[i]?.getD 0).getLsbD 8 then
      s.modCore c (fun k => { k with ovf := k.ovf ||| (1#4 <<< i) })
    else s
  s.trace c 2 0 (BitVec.ofNat 64 i)

/-- Counter `i` of a core advances by `n`, which is below 2^48. -/
def State.advanceCounter (s : State) (c i n : Nat) : State :=
  let v := ((s.core c).evcnt[i]?.getD 0).toNat + n
  let s := s.modCore c (fun k => { k with evcnt := k.evcnt.setIfInBounds i (BitVec.ofNat 48 v) })
  if v ≥ 2 ^ 48 then s.counterWrap c i else s

/-- R354: `n` occurrences of an event at a core; a counter written in this core cycle does not count them. -/
def State.countEventBut (s : State) (written : Option Nat) (c e n : Nat) : State :=
  if n = 0 || !s.runsWorld c || !s.eventCounts c e then s
  else
    (List.range 4).foldl (fun s i =>
      if field ((s.core c).evsel[i]?.getD 0) 0 8 = e ∧ written ≠ some i then s.advanceCounter c i n else s) s

/-- R354: `n` occurrences of an event at a core. -/
def State.countEvent (s : State) (c e n : Nat) : State := s.countEventBut none c e n

/-- An event that every core of a list counts. -/
def State.countAll (s : State) (cs : List Nat) (e n : Nat) : State :=
  cs.foldl (fun s c => s.countEvent c e n) s

/-- R354: a core cycle passes for a core, in which an instruction may have written a counter. -/
def State.coreCycle (s : State) (written : Option Nat) (c : Nat) : State :=
  (s.modCore c (fun k => { k with cycle := k.cycle + 1 })).countEventBut written c evCycles 1

/-- The cores that the state lists. -/
def State.listedCores (s : State) : List Nat := s.cores.map (·.1)

/-- R357: a fabric event of the chip. -/
def State.countFabric (s : State) (e n : Nat) : State :=
  s.countAll (s.listedCores.filter (fun c => s.isServer c)) e n

end Sys2Proof.Machine
end

