-- ==== Sys2Proof/Machine/Caches.lean ====
section
/-! DEFINITION. The caches: the lines that the L1s, the L2s and the L3s hold, their fills and evictions, and the events that
count them (R225, R226, R264, R355, R356). Which set a line belongs to, that an L2 keeps a line which an L1 takes from it, and
the owner tag of a line that no access evicts are the model's choices (DESIGN CHOICE, log entry 143). -/

namespace Sys2Proof.Machine

/-! ## The directories -/

/-- R225: the cores whose L1 holds a line, which the L2 directory of their die records. -/
def State.l1Holders (s : State) (line : Nat) : List Nat := (s.l1.filter (·.line == line)).map (·.core)

/-- R225: the dies that hold a line, in an L1 or in their L2, which the home of the line records. -/
def State.dieHolders (s : State) (line : Nat) : List Nat :=
  ((s.l1Holders line).map dieOf ++ (s.l2.filter (·.line == line)).map (·.die)).eraseDups

/-! ## Events (R355, R356) -/

/-- R355: the kinds of cache event, in the order of their codes. -/
inductive CacheEvent where
  | hit
  | miss
  | eviction
  | crossEviction
  deriving DecidableEq, Repr

/-- R353: the code of an event of the L2s, or of the L3s. -/
def CacheEvent.code (l2 : Bool) : CacheEvent → Nat
  | .hit => if l2 then 0x40 else 0x48
  | .miss => if l2 then 0x41 else 0x49
  | .eviction => if l2 then 0x42 else 0x4A
  | .crossEviction => if l2 then 0x43 else 0x4B

/-- R355: an event on a line with an owner tag, in the L2 of a die or in the L3s, at the cores that count it: those of the die,
or of the module, whose world has the tag's VF. -/
def State.countCache (s : State) (die : Option Nat) (e : CacheEvent) (tag : BitVec 6) (uncounted : Option Nat) : State :=
  s.countAll (s.listedCores.filter (fun c =>
    die.all (· == dieOf c) && (s.core c).vfNow == tag && uncounted != some c)) (e.code die.isSome) 1

/-- R356: a line with an owner tag is evicted by a fill for `vf`. -/
def State.countEviction (s : State) (die : Option Nat) (tag vf : BitVec 6) (uncounted : Option Nat) : State :=
  let s1 := s.countCache die .eviction tag uncounted
  if tag = vf then s1 else s1.countCache die .crossEviction tag uncounted

/-! ## The L3s -/

/-- The line of a full set that a fill replaces. -/
def victimOf {α : Type} (fresh : Nat) (set : List α) : Option α := set[Config.cacheVictim fresh % set.length]?

/-- R225: are two lines of one set of the L3 that is their home, of 16 ways? -/
def sameL3Set (a b : Nat) : Bool := homeDie (256 * a) == homeDie (256 * b) && a % 131072 == b % 131072

/-- R225, R355, R356: a line is filled in the L3 of its home. -/
def State.fillL3 (s : State) (vf : BitVec 6) (line : Nat) (uncounted : Option Nat) : State :=
  let set := s.l3.filter (fun x => sameL3Set x.line line)
  let new : L3Line := { line := line, vf := vf }
  if set.length < 16 then { s with l3 := new :: s.l3 }
  else
    match victimOf s.fresh set with
    | none => s
    | some v =>
      ({ s with l3 := new :: s.l3.filter (·.line ≠ v.line), fresh := s.fresh + 1 } : State).countEviction none v.vf vf uncounted

/-- R355: an access meets the L3. -/
def State.useL3 (s : State) (vf : BitVec 6) (line : Nat) (uncounted : Option Nat) : State :=
  match s.l3.find? (·.line == line) with
  | some x => s.countCache none .hit x.vf uncounted
  | none => (s.countCache none .miss vf uncounted).fillL3 vf line uncounted

/-! ## The L2s -/

/-- R225, R264: a line leaves the L2 of a die: its stores there rise to its home. A context line is sealed (R334). -/
def State.leaveL2 (s : State) (d line : Nat) : State :=
  let out := fun (w : Drained) => w.die == d && w.reach == .d && w.cells.any (fun x => lineNo x.1 == line)
  let s1 := { s with
    l2 := s.l2.filter (fun x => !(x.die == d && x.line == line))
    drained := s.drained.map (fun (w : Drained) => if out w then { w with reach := Reach.h } else w) }
  if s.drained.any out then s1.sealLines [line] else s1

/-- R225, R355, R356: the L2 of a die takes a line that has left an L1; one that it holds keeps its tag. -/
def State.fillL2 (s : State) (d : Nat) (vf : BitVec 6) (line : Nat) (uncounted : Option Nat) : State :=
  if s.l2.any (fun x => x.die == d && x.line == line) then s
  else
    let set := s.l2.filter (fun x => x.die == d && x.line % 16384 == line % 16384)
    let new : L2Line := { die := d, line := line, vf := vf }
    if set.length < 24 then { s with l2 := new :: s.l2 }
    else
      match victimOf s.fresh set with
      | none => s
      | some v =>
        let s1 := ({ s with fresh := s.fresh + 1 } : State).leaveL2 d v.line
        ({ s1 with l2 := new :: s1.l2 } : State).countEviction (some d) v.vf vf uncounted

/-- R355: an access meets the L2 of a die, and the L3 where that misses. -/
def State.useL2 (s : State) (d : Nat) (vf : BitVec 6) (line : Nat) (uncounted : Option Nat) : State :=
  match s.l2.find? (fun x => x.die == d && x.line == line) with
  | some x => s.countCache (some d) .hit x.vf uncounted
  | none => (s.countCache (some d) .miss vf uncounted).useL3 vf line uncounted

/-! ## The L1s -/

/-- R225, R226, R264: a line leaves a core's L1 for the L2 of its die. -/
def State.leaveL1 (s : State) (c : Nat) (vf : BitVec 6) (line : Nat) (uncounted : Option Nat) : State :=
  let s1 := s.evict c line
  ({ s1 with l1 := s1.l1.filter (fun x => !(x.core == c && x.line == line)) } : State).fillL2 (dieOf c) vf line uncounted

/-- R225: a core's L1, of 16 ways and 512 sets, takes a line. -/
def State.fillL1 (s : State) (c : Nat) (vf : BitVec 6) (line : Nat) (uncounted : Option Nat) : State :=
  let set := s.l1.filter (fun x => x.core == c && x.line % 512 == line % 512)
  let s1 :=
    if set.length < 16 then s
    else
      match victimOf s.fresh set with
      | none => s
      | some v => ({ s with fresh := s.fresh + 1 } : State).leaveL1 c vf v.line uncounted
  { s1 with l1 := { core := c, line := line, scope := 0 } :: s1.l1 }

/-- R225, R226: a store of a scope has been made to a line: its holder's tag is the scope, and the copies elsewhere have been
recalled, but for an L1 that holds stores to other bytes of the line. -/
def State.storeUse (s : State) (user : CacheUser) (line : Nat) (scope : BitVec 3) : State :=
  let die := match user with
    | .core c => some (dieOf c)
    | .die d => some d
    | .home => none
  { s with
    l1 := (s.l1.filter (fun x => x.line != line || user == .core x.core || s.holdsStore x.core line)).map (fun x =>
      if x.line == line && user == .core x.core then { x with scope := scope } else x)
    l2 := s.l2.filter (fun x => x.line != line || die == some x.die) }

/-- R225, R226, R355: the caches serve an access. -/
def State.serveUse (s : State) (u : CacheUse) : State :=
  let s1 := match u.user with
    | .core c =>
      if s.l1.any (fun x => x.core == c && x.line == u.line) then s
      else (s.useL2 (dieOf c) u.vf u.line u.uncounted).fillL1 c u.vf u.line u.uncounted
    | .die d => s.useL2 d u.vf u.line u.uncounted
    | .home => s.useL3 u.vf u.line u.uncounted
  match u.scope with
  | some k => s1.storeUse u.user u.line k
  | none => s1

/-- R225: the caches serve the accesses of a step, in order. -/
def State.serveCaches (s : State) : State := s.cacheUses.foldl State.serveUse { s with cacheUses := [] }

/-- R264: the step Evict: a line leaves the L1 of a core, or the L2 of its die, and the stores held there rise one level. -/
def State.evictStep (s : State) (c line : Nat) : State :=
  let vf := (s.core c).vfNow
  if s.l1.any (fun x => x.core == c && x.line == line) then s.leaveL1 c vf line none
  else
    match s.l2.find? (fun x => x.die == dieOf c && x.line == line) with
    | some x => ((s.leaveL2 (dieOf c) line).evict c line).countEviction (some (dieOf c)) x.vf x.vf none
    | none => s.evict c line

end Sys2Proof.Machine
end

