-- ==== Sys2Proof/Machine/Fabric.lean ====
section
/-! DEFINITION. The Onauf fabric: messages, dimension-order routing, ports, and what a destination checks of a remote
request (R19, R295-R298, R305). -/

namespace Sys2Proof.Machine

/-! ## Messages (R297) -/

/-- R297: the kinds of messages. -/
def kindRst : Nat := 1
def kindRstAck : Nat := 2
def kindRstRefuse : Nat := 3
def kindRld : Nat := 4
def kindRldReply : Nat := 5
def kindGst : Nat := 6
def kindGroup : Nat := 7
def kindCode : Nat := 8
def kindRoute : Nat := 9
def kindBar : Nat := 10

/-- R297: a message. -/
structure Msg where
  kind : Nat
  sched : Bool
  chip : Nat
  ld : Nat
  dst : Nat
  len : Nat
  addr : Nat
  core : Nat
  strand : Nat
  index : Nat
  tag : Nat
  aux : Nat
  payload : List Byte
  deriving DecidableEq, Repr

/-- R297: the flits of a message with `len` payload bytes. -/
def flitsOf (len : Nat) : Nat := (32 + len + 63) / 64

/-- R297: the bytes of a message. -/
def Msg.bytes (m : Msg) : List Byte :=
  leBytes 1 m.kind ++ leBytes 1 (flitsOf m.len - 1 + 64 * m.sched.toNat) ++ leBytes 2 (m.chip + 1024 * m.ld) ++
    leBytes 2 m.dst ++ leBytes 2 m.len ++ leBytes 8 m.addr ++ leBytes 2 m.core ++ leBytes 1 m.strand ++
    leBytes 1 m.index ++ leBytes 4 m.tag ++ leBytes 8 m.aux ++
    (m.payload ++ List.replicate (64 * flitsOf m.len) 0).take (64 * flitsOf m.len - 32)

/-- R297: does the header keep the layout? -/
def headerOk (b : List Byte) : Bool :=
  let kind := recNat b 0 1
  let fl := recNat b 1 1
  let sched := fl / 64 % 2 == 1
  let len := recNat b 6 2
  let tagged := kind == kindRld || kind == kindRldReply
  1 ≤ kind && kind ≤ 10 && fl < 128 && fl % 64 < 40 && fl % 64 + 1 == flitsOf len && recNat b 2 2 < 2 ^ 14 &&
    (sched || (recNat b 4 2 < 1024 && recNat b 8 8 < 2 ^ 52)) && recNat b 0x12 1 ≤ 10 &&
    (if tagged then recNat b 0x14 4 < 2 ^ 16 else recNat b 0x14 4 == 0) &&
    (if kind == kindRstRefuse || kind == kindRldReply then recNat b 0x18 8 < 256
      else if kind == kindGst then recNat b 0x18 8 < 2 ^ 18
      else recNat b 0x18 8 == 0)

/-- R297: the message of these bytes. -/
def Msg.ofBytes (b : List Byte) : Msg where
  kind := recNat b 0 1
  sched := recNat b 1 1 / 64 % 2 == 1
  chip := recNat b 2 2 % 1024
  ld := recNat b 2 2 / 1024 % 16
  dst := recNat b 4 2
  len := recNat b 6 2
  addr := recNat b 8 8
  core := recNat b 0x10 2
  strand := recNat b 0x12 1
  index := recNat b 0x13 1
  tag := recNat b 0x14 4
  aux := recNat b 0x18 8
  payload := (b.drop 32).take (recNat b 6 2)

/-! ## The torus (R295, R298) -/

/-- The coordinate of a chip in a dimension: X, Y, Z. -/
def coordOf (chip dim : Nat) : Nat :=
  if dim = 0 then chip % 8 else if dim = 1 then chip / 8 % 8 else chip / 64

/-- R295: the chip at coordinates. -/
def chipAt (x y z : Nat) : Nat := x + 8 * y + 64 * z

/-- A chip's number with the coordinate of one dimension replaced. -/
def withCoord (chip dim v : Nat) : Nat :=
  let at' := fun (d : Nat) => if d = dim then v else coordOf chip d
  chipAt (at' 0) (at' 1) (at' 2)

/-- The extent of a dimension of the pod. -/
def State.extent (s : State) (dim : Nat) : Nat :=
  if dim = 0 then (s.chip.podcfg.extractLsb' 10 3).toNat + 1
  else if dim = 1 then (s.chip.podcfg.extractLsb' 13 3).toNat + 1
  else (s.chip.podcfg.extractLsb' 16 4).toNat + 1

/-- R295: does a number name a chip of the pod? -/
def State.chipExists (s : State) (chip : Nat) : Bool :=
  chip < 1024 && [0, 1, 2].all (fun d => coordOf chip d < s.extent d)

/-- R19: the ports of a direction, lanes 0–3. -/
def portsOf (dim : Nat) (plus : Bool) : List Nat :=
  match dim, plus with
  | 0, false => [0, 3, 12, 15]
  | 0, true => [6, 9, 18, 21]
  | 1, false => [1, 4, 7, 10]
  | 1, true => [13, 16, 19, 22]
  | _, false => [2, 8, 14, 20]
  | _, true => [5, 11, 17, 23]

/-- R19: does a port stay link-down: its cable is absent, or its dimension has size 1? -/
def State.linkDown (s : State) (port : Nat) : Bool := !s.chip.cables.getLsbD port || s.extent (port % 3) == 1

/-- R298: does a dynamic message travel from one chip to another in the + direction of a dimension? -/
def State.goesPlus (s : State) (src dst dim : Nat) : Bool :=
  decide ((coordOf dst dim + s.extent dim - coordOf src dim) % s.extent dim ≤ s.extent dim / 2)

/-- R298: the port on which chip `c` sends a dynamic message for another chip, and the neighbour that it reaches. -/
def State.hopFrom (s : State) (c dst : Nat) : Option (Nat × Nat) :=
  ([0, 1, 2].find? (fun d => coordOf dst d != coordOf c d)).map (fun d =>
    let plus := s.goesPlus c dst d
    ((portsOf d plus).getD (dst % 4) 0,
      withCoord c d ((coordOf c d + (if plus then 1 else s.extent d - 1)) % s.extent d)))

/-- R298: the port on which a dynamic message leaves for another chip. -/
def State.portTo (s : State) (chip : Nat) : Option Nat := (s.hopFrom s.chipNumber chip).map (·.1)

/-- R298: the port at which a dynamic message from one chip to another arrives here: in the last dimension that it has
travelled, on the side from which it comes. -/
def State.arrivalPort (s : State) (src dst : Nat) : Option Nat :=
  ([2, 1, 0].find? (fun d => coordOf src d != coordOf s.chipNumber d)).map (fun d =>
    (portsOf d (!s.goesPlus src dst d)).getD (dst % 4) 0)

/-- R305: does the path from chip `c` cross a link-down port? The ports of other chips are not this chip's to know. -/
def State.pathDown (s : State) (dst : Nat) : Nat → Nat → Bool
  | 0, _ => false
  | fuel + 1, c =>
    match s.hopFrom c dst with
    | none => false
    | some (p, next) =>
      (if c = s.chipNumber then s.linkDown p else Config.peerLinkDown c p) || s.pathDown dst fuel next

/-- R296, R305: is a dynamic message to another chip refused at its source with LINK? -/
def State.linkRefused (s : State) (chip : Nat) : Bool :=
  !s.chip.locked || !s.chipExists chip || (s.portTo chip).isNone || s.pathDown chip 32 s.chipNumber

/-- The kinds of group messages that leave the chip (R314). -/
def gmPrepare : Nat := 1
def gmReady : Nat := 2
def gmRefuse : Nat := 3
def gmAbort : Nat := 4
def gmPublish : Nat := 5
def gmPublishAck : Nat := 6
def gmAbortAck : Nat := 7

/-- R314: does a kind of group message travel in the control lane? -/
def inControlLane (kind : Nat) : Bool := kind == gmPublish || kind == gmPublishAck || kind == gmAbortAck

/-- Something leaves the machine. -/
def State.emit (s : State) (o : Out) : State := { s with outbox := s.outbox ++ [o] }

/-- R298: a dynamic message for another chip joins the queue of its output port, among what came in at `input` (24: this
chip). One that is refused with LINK does not leave (R19, R296). -/
def State.sendOn (s : State) (input chip : Nat) (o : Out) (flits : Nat) : State :=
  if s.linkRefused chip then s
  else
    match s.portTo chip with
    | some p => { s with waiting := s.waiting ++ [{ port := p, input := input, what := o, flits := flits }] }
    | none => s

/-- R19, R314: is some port up, so that the control lane reaches other chips? -/
def State.laneOpen (s : State) : Bool := (List.range 24).any (fun p => !s.linkDown p)

/-- R314, R357: a message leaves in the control lane, and is counted. -/
def State.sendLane (s : State) (o : Out) : State :=
  if s.laneOpen then (s.emit o).countFabric evControlLane 1 else s

/-- R297: the flits of the next code fetch message, which are not given. -/
def State.codeFlits (s : State) : Nat := Config.codeFlits s.fresh + 1

/-- Something leaves the machine: on its fabric port (R298, R302), in the control lane (R314), or by another way. -/
def State.send (s : State) (o : Out) : State :=
  match o with
  | .message chip bytes => s.sendOn 24 chip o (bytes.length / 64)
  | .codeRequest chip _ _ => { (s.sendOn 24 chip o s.codeFlits) with fresh := s.fresh + 1 }
  | .code chip _ _ => { (s.sendOn 24 chip o s.codeFlits) with fresh := s.fresh + 1 }
  | .groupMessage chip kind _ _ => if inControlLane kind then s.sendLane o else s.sendOn 24 chip o 1
  | .launchMessage _ _ _ _ => s.sendLane o
  | .claim _ _ => s.sendLane o
  | .shootdown _ _ _ => s.sendLane o
  | .shootdownAck _ _ => s.sendLane o
  | .scheduled port bytes => if s.linkDown port then s else (s.emit o).countFabric evFlitsSent (bytes.length / 64)
  | .host _ _ => s.emit o
  | .eth _ _ _ => s.emit o
  | .ethNak _ _ _ => s.emit o
  | .store _ _ _ => s.emit o
  | .spdm _ _ => s.emit o

/-- R314, R357: a control-lane message from another chip is counted as it arrives. -/
def State.controlLane (s : State) : State := s.countFabric evControlLane 1

/-- R357: a code fetch message from another chip is counted as it arrives. -/
def State.codeArrives (s : State) : State := { (s.countFabric evFlitsReceived s.codeFlits) with fresh := s.fresh + 1 }

/-- R298: a dynamic message leaves for another chip. -/
def State.sendMsg (s : State) (m : Msg) : State := s.send (.message m.dst m.bytes)

/-! ## The output ports (R298, R299) -/

/-- R299: the flits that the loaded routes claim of a slot of a port. -/
def State.claimedFlits (s : State) (port slot : Nat) : Nat :=
  (s.routes.flatMap (·.records)).foldl (fun n r => if rrOutport r = port ∧ rrSlot r = slot then n + rrFlits r else n) 0

/-- R298: the flits that a waiting message takes of a tick. What is longer than a message (a code fetch) leaves in
messages of 40 flits. -/
def Waiting.takes (w : Waiting) : Nat := min w.flits 40

/-- R298: the message that a port sends next in the room that is left: of the first input after the one served last whose
oldest message fits. -/
def State.nextWaiting (s : State) (port room : Nat) : Option Waiting :=
  ((List.range 25).map (fun j => (mapGet 24 s.portTurns port + 1 + j) % 25)).findSome? (fun i =>
    (s.waiting.find? (fun w => w.port == port && w.input == i)).filter (fun w => w.takes ≤ room))

/-- R298: a port fills the room that a tick leaves it with whole messages. -/
def State.fillPort (s : State) (port : Nat) : Nat → Nat → State
  | 0, _ => s
  | fuel + 1, room =>
    match s.nextWaiting port room with
    | none => s
    | some w =>
      let s1 := { s with portTurns := mapPut s.portTurns port w.input }
      let s2 :=
        if w.flits ≤ 40 then ({ s1 with waiting := s1.waiting.erase w } : State).emit w.what
        else { s1 with waiting := s1.waiting.replace w { w with flits := w.flits - 40 } }
      (s2.countFabric evFlitsSent w.takes).fillPort port fuel (room - w.takes)

/-- R298, R299: the dynamic messages that leave in this tick: each port gives them what the claims of the tick's slot
leave of its 40 flits. -/
def State.fillPorts (s : State) : State :=
  (s.waiting.map (·.port)).eraseDups.foldl
    (fun s p => s.fillPort p 40 (40 - s.claimedFlits p (s.chip.tick.toNat % 256))) s

/-! ## What a destination checks (R305) -/

def reasonRange : Nat := 1
def reasonDenied : Nat := 2
def reasonPoisoned : Nat := 3
def reasonStageFull : Nat := 4
def reasonBadGroup : Nat := 5
def reasonLink : Nat := 6

/-- R74: the logical device of a LID. -/
def lidLd (lid : BitVec 32) : Nat := (lid.extractLsb' 28 4).toNat

/-- R305, R341: is the granule of a local address open in a logical device's remote access map? -/
def State.granuleOpen (s : State) (ld loc : Nat) : Bool :=
  let g := loc / 2 ^ 21
  let d := s.ld ld
  d.ramap != 0 && (s.readNat .device (d.ramap + g / 8) 1).testBit (g % 8)

/-- R305: does a RUNNING launch of the logical device here claim the source chip? -/
def State.claimsSource (s : State) (ld src : Nat) : Bool :=
  src == s.chipNumber || s.launches.any (fun l => l.state == .running && lidLd l.lid == ld && l.chips.contains src)

/-- R305: the reason for which this chip refuses a request for `n` bytes. -/
def State.refuses (s : State) (src ld addr n : Nat) : Option Nat :=
  let locs := (List.range n).map (addr % 2 ^ 42 + ·)
  if !(locs.all isDevice || locs.all isChipScratch) then some reasonRange
  else if !(s.claimsSource ld src && locs.all (s.granuleOpen ld)) then some reasonDenied
  else none

end Sys2Proof.Machine
end

