-- ==== Sys2Proof/Machine/Groups.lean ====
section
/-! DEFINITION. Groups: the state of a group at a destination, and the group table of the issuing chip (R274,
R312-R319). The chip's own part as a destination takes its steps at once, crossing no link. -/

namespace Sys2Proof.Machine

/-- R312: the number of a local group of this chip. -/
def State.groupNumber (s : State) (l : Nat) : BitVec 18 := BitVec.ofNat 18 (s.chipNumber * 256 + l)

/-- R314: the group bound of the pod. -/
def State.groupBound (s : State) : Nat := 256 + 4 * (s.extent 0 / 2 + s.extent 1 / 2 + s.extent 2 / 2)

/-- R312: the chip and the local group of a group number. -/
def groupChip (g : BitVec 18) : Nat := g.toNat / 256
def groupLocal (g : BitVec 18) : Nat := g.toNat % 256

/-! ## At a destination (R313, R319) -/

/-- R313: the staging entries that a store of `n` bytes takes. -/
def stagingNeed (n : Nat) : Nat := (n + 47) / 48

/-- R313: the staging entries of a base die. -/
def stagingSize : Nat := 32768

/-- The state of a group at this destination; `none` is NONE. -/
def State.destGroup (s : State) (g : BitVec 18) : Option DestGroup := s.destGroups.find? (·.group == g)

/-- The state with a destination group replaced or added. -/
def State.setDest (s : State) (d : DestGroup) : State :=
  { s with destGroups := d :: s.destGroups.filter (·.group ≠ d.group) }

/-- The state without a destination group. -/
def State.dropDest (s : State) (g : BitVec 18) : State :=
  { s with destGroups := s.destGroups.filter (·.group ≠ g) }

/-- The staging entries used for these stores are freed. -/
def State.freeStaging (s : State) (staged : List (Nat × List (Nat × Byte))) : State :=
  let free := fun (v : Vector Nat 8) (x : Nat × List (Nat × Byte)) =>
    v.setIfInBounds x.1 ((v[x.1]?.getD 0) - stagingNeed x.2.length)
  { s with staging := staged.foldl free s.staging }

/-- R319: the group's staged stores are discarded and their entries freed. -/
def State.discardStaged (s : State) (d : DestGroup) (state : DestState) (reason : BitVec 8) : State :=
  (s.freeStaging d.staged).setDest { d with state := state, reason := reason, staged := [], count := 0 }

/-- R319: the group at this destination, at first with nothing staged. -/
def State.destOrNew (s : State) (g : BitVec 18) : DestGroup :=
  (s.destGroup g).getD { group := g, state := .staging, reason := 0, atTick := 0, staged := [], count := 0 }

/-- R319: a gst of a chip arrives; the reason for which it is refused. -/
def State.stageGst (s : State) (src ld addr : Nat) (g : BitVec 18) (bytes : List Byte) : State × Option Nat :=
  let d := s.destOrNew g
  let loc := addr % 2 ^ 42
  let die := homeDie loc
  let refuse := fun (r : Nat) => (s.discardStaged d .refused (BitVec.ofNat 8 r), some r)
  match d.state with
  | .refused => (s, some d.reason.toNat)
  | .staging =>
    if src ≠ groupChip g then refuse reasonBadGroup
    else
      match s.refuses src ld addr bytes.length with
      | some r => refuse r
      | none =>
        let used := s.staging[die]?.getD 0
        if stagingSize < used + stagingNeed bytes.length then refuse reasonStageFull
        else
          (({ s with staging := s.staging.setIfInBounds die (used + stagingNeed bytes.length) } : State).setDest
            { d with staged := d.staged ++ [(die, cellsAt loc bytes)], count := d.count + 1 }, none)
  | .ready => (s, some reasonBadGroup)
  | .applying => (s, some reasonBadGroup)

/-- R319: a prepare arrives with a count of staged stores: refused with a reason, or ready. -/
def State.destPrepare (s : State) (g : BitVec 18) (n : Nat) : State × Option (BitVec 8) :=
  let d := s.destOrNew g
  match d.state with
  | .refused => (s, some d.reason)
  | .staging =>
    if d.count = n then (s.setDest { d with state := .ready }, none)
    else (s.discardStaged d .refused (BitVec.ofNat 8 reasonBadGroup), some (BitVec.ofNat 8 reasonBadGroup))
  | .ready => (s, none)
  | .applying => (s, none)

/-- R319: an abort arrives; the answer says whether it is acknowledged. -/
def State.destAbort (s : State) (g : BitVec 18) : State × Bool :=
  match s.destGroup g with
  | none => (s, true)
  | some d => if d.state = .applying then (s, false) else ((s.freeStaging d.staged).dropDest g, true)

/-- R319: a publish arrives. -/
def State.destPublish (s : State) (g : BitVec 18) (t : Word) : State :=
  match s.destGroup g with
  | some d => if d.state = .ready then s.setDest { d with state := .applying, atTick := t } else s
  | none => s

/-! ## At the issuing chip (R316, R317) -/

/-- The entry of a local group; `none` is FREE. -/
def State.group (s : State) (l : Nat) : Option Group := mapFind s.groups l

/-- The state with a group table entry written. -/
def State.setGroup (s : State) (l : Nat) (g : Group) : State := { s with groups := mapPut s.groups l g }

/-- The code of a group state (R316). -/
def GroupState.code : GroupState → Nat
  | .opened => 1
  | .failed => 2
  | .preparing => 3
  | .publishing => 4
  | .aborting => 5
  | .committed => 6
  | .aborted => 7

/-- R316: a group message to every destination on another chip. -/
def State.sendAll (s : State) (l : Nat) (g : Group) (kind : Nat) (value : Nat × Nat → Word) : State :=
  (g.dests.filter (fun d => d.1 != s.chipNumber)).foldl
    (fun s d => s.send (.groupMessage d.1 kind (s.groupNumber l) (value d))) s

/-- The part of this chip among the destinations of a group: its count of stores. -/
def State.ownPart (s : State) (g : Group) : Option Nat := (g.dests.find? (fun d => d.1 == s.chipNumber)).map (·.2)

/-- R317: the count object of a group is signalled with a code. -/
def State.signalGroup (s : State) (g : Group) (code detail : Nat) : State :=
  if g.count = 0 then s
  else
    s.arriveOnly { source := 4, core := g.core, strand := 0xFFFF, addr := g.count, ld := (s.core g.core).ld.toNat }
      g.countLoc g.gen (some (BitVec.ofNat 32 (detail * 2 ^ 16 + code)))

/-- R316: is some journal entry of the owner's core still of the group? -/
def State.groupInJournal (s : State) (l : Nat) (g : Group) : Bool :=
  (s.core g.core).journal.any (fun e => e.2.group == some (s.groupNumber l))

/-- R316: does the combining buffer of the owner's core hold a gst of the group? -/
def State.groupInBuffer (s : State) (l : Nat) (g : Group) : Bool :=
  (s.core g.core).combining.any (fun e => e.group == some (s.groupNumber l))

/-- R316: ABORTING ends when every destination has acknowledged and the journal holds none of the group; abort has gone
out before (R318). -/
def State.trySettleAbort (s : State) (l : Nat) : State :=
  match s.group l with
  | some g =>
    if g.state = .aborting ∧ g.abortSent ∧ g.dests.all (fun d => g.acked.contains d.1) ∧ !s.groupInJournal l g then
      (s.setGroup l { g with state := .aborted }).signalGroup g 0x010B g.reason.toNat
    else s
  | none => s

/-- R316, R318: abort goes to every destination once the combining buffer holds no gst of the group, so that it follows
them all. -/
def State.tryAbort (s : State) (l : Nat) : State :=
  match s.group l with
  | some g =>
    if g.state = .aborting ∧ !g.abortSent ∧ !s.groupInBuffer l g then
      let own := (s.ownPart g).isSome
      let g' := { g with abortSent := true, acked := if own then [s.chipNumber] else [] }
      let s1 := (s.setGroup l g').sendAll l g' gmAbort (fun _ => 0)
      (if own then (s1.destAbort (s.groupNumber l)).1 else s1).trySettleAbort l
    else s
  | none => s

/-- R316: the group moves to ABORTING with a reason. -/
def State.startAbort (s : State) (l : Nat) (g : Group) (reason : BitVec 8) : State :=
  (s.setGroup l { g with state := .aborting, reason := reason, abortSent := false, acked := [] }).tryAbort l

/-- R316: with every destination ready, T is fixed and publish goes out. -/
def State.tryPublish (s : State) (l : Nat) : State :=
  match s.group l with
  | some g =>
    if g.state = .preparing ∧ g.prepared ∧ g.dests.all (fun d => g.answered.contains d.1) then
      let t := s.tick + BitVec.ofNat 64 s.groupBound
      let g' := { g with state := .publishing, pubTick := t, acked := [] }
      let s1 := (s.setGroup l g').sendAll l g' gmPublish (fun _ => t)
      if (s.ownPart g).isSome then s1.destPublish (s.groupNumber l) t else s1
    else s
  | none => s

/-- R316: PREPARING sends prepare once the combining buffer holds no gst of the group. -/
def State.tryPrepare (s : State) (l : Nat) : State :=
  match s.group l with
  | some g =>
    if g.state = .preparing ∧ !g.prepared ∧ !s.groupInBuffer l g then
      let g' := { g with prepared := true, prepareTick := s.tick, answered := [] }
      let s1 := (s.setGroup l g').sendAll l g' gmPrepare (fun d => BitVec.ofNat 64 d.2)
      match s.ownPart g with
      | none => s1.tryPublish l
      | some n =>
        match s1.destPrepare (s.groupNumber l) n with
        | (s2, some r) => s2.startAbort l g' r
        | (s2, none) => (s2.setGroup l { g' with answered := [s.chipNumber] }).tryPublish l
    else s
  | none => s

/-- R316, R318: a refusal of a gst of the group, at its source or its destination. -/
def State.groupRefused (s : State) (l : Nat) (reason : BitVec 8) : State :=
  match s.group l with
  | some g =>
    match g.state with
    | .opened => s.setGroup l { g with state := .failed, reason := reason }
    | .preparing => s.startAbort l g reason
    | _ => s.trySettleAbort l
  | none => s

/-- R316, R317: a destination has acknowledged a publish. -/
def State.publishAcked (s : State) (l chip : Nat) : State :=
  match s.group l with
  | some g =>
    if g.state = .publishing then
      let g' := { g with acked := if g.acked.contains chip then g.acked else chip :: g.acked }
      if g'.dests.all (fun d => g'.acked.contains d.1) then
        (s.setGroup l { g' with state := .committed }).signalGroup g' 3 0
      else s.setGroup l g'
    else s
  | none => s

/-- R274, R319: at tick T a destination applies a group's staged stores, in staging order, and acknowledges. -/
def State.applyGroup (s : State) (g : BitVec 18) : State :=
  match s.destGroup g with
  | some d =>
    if d.state = .applying ∧ d.atTick.toNat ≤ s.tick.toNat then
      let s1 := d.staged.foldl (fun s x => s.commitHome x.2) s
      let s2 := (s1.freeStaging d.staged).dropDest g
      if groupChip g = s.chipNumber then s2.publishAcked (groupLocal g) s.chipNumber
      else s2.send (.groupMessage (groupChip g) gmPublishAck g 0)
    else s
  | none => s

/-- A sorted list with one more number. -/
def insertNat (n : Nat) : List Nat → List Nat
  | [] => [n]
  | m :: ms => if n ≤ m then n :: m :: ms else m :: insertNat n ms

/-- R274: the groups due at this tick apply, the lower group number first. -/
def State.applyDue (s : State) : State :=
  let due := (s.destGroups.filter (fun d => d.state == .applying && decide (d.atTick.toNat ≤ s.tick.toNat))).map
    (fun d => d.group.toNat)
  (due.foldr insertNat []).foldl (fun s g => s.applyGroup (BitVec.ofNat 18 g)) s

/-- R315, R323: the owner's launch ends: its groups that can still abort do, with DISCARD. -/
def State.discardGroups (s : State) (cores : List Nat) : State :=
  s.groups.foldl (fun s e =>
    if cores.contains e.2.core then
      match e.2.state with
      | .opened => s.startAbort e.1 e.2 18
      | .failed => s.startAbort e.1 e.2 18
      | .preparing => s.startAbort e.1 e.2 18
      | _ => s
    else s) s

/-- R323: has every group of these cores reached COMMITTED or ABORTED? -/
def State.groupsSettled (s : State) (cores : List Nat) : Bool :=
  s.groups.all (fun e => !cores.contains e.2.core || e.2.state == .committed || e.2.state == .aborted)

end Sys2Proof.Machine
end

