-- ==== Sys2Proof/Machine/Launch.lean ====
section
/-! DEFINITION. Launches: the parameter block's fields, prerequisites, and how a launch ends: retirement, discard,
release of its clusters, and the signal of its completion count object (R72, R75, R76, R87, R88, R182, R338). -/

namespace Sys2Proof.Machine

/-! ## The launch parameter block (R72) -/

def lpbPrio (b : List Byte) : Nat := recNat b 0x06 1
def lpbFlags (b : List Byte) : Nat := recNat b 0x07 1
def lpbEntry (b : List Byte) : Word := recWord b 0x08
def lpbVpes (b : List Byte) : Nat := recNat b 0x10 8
def lpbArgs (b : List Byte) : Word := recWord b 0x18
def lpbFeature (b : List Byte) : Nat := recNat b 0x20 16
def lpbDone (b : List Byte) : Word := recWord b 0x30
def lpbPrereq (b : List Byte) (i : Nat) : Word := recWord b (0x38 + 8 * i)
def lpbFdir (b : List Byte) : Word := recWord b 0x58
def lpbNfdir (b : List Byte) : Nat := recNat b 0x60 4
def lpbNmod (b : List Byte) : Nat := recNat b 0x64 4
def lpbModtab (b : List Byte) : Word := recWord b 0x68
def lpbDomain (b : List Byte) (i : Nat) : Nat := recNat b (0x70 + 4 * i) 4
def lpbHelpers (b : List Byte) : Nat := recNat b 0x80 1
def lpbSpad (b : List Byte) : Nat := recNat b 0x82 2
def lpbStack (b : List Byte) : Nat := recNat b 0x84 4
def lpbTls (b : List Byte) : Nat := recNat b 0x88 4
def lpbPclus (b : List Byte) : Nat := recNat b 0x8C 2
def lpbPchip (b : List Byte) : Nat := recNat b 0x8E 2
def lpbExtent (b : List Byte) (i : Nat) : Nat := recNat b (0x90 + i) 1
def lpbTmodes (b : List Byte) : Nat := recNat b 0xA0 24
def lpbNtile (b : List Byte) : Nat := recNat b 0xB8 1
def lpbRect (b : List Byte) : Bool := (lpbFlags b).testBit 0
def lpbMulti (b : List Byte) : Bool := (lpbFlags b).testBit 1

/-! ## Status codes (R75, R315) -/

def codeDone : BitVec 16 := 0x0001
def codeDoneEmpty : BitVec 16 := 0x0002
def codeForm : BitVec 16 := 0x0101
def codeRange : BitVec 16 := 0x0102
def codeFeature : BitVec 16 := 0x0103
def codeFit : BitVec 16 := 0x0104
def codeRoute : BitVec 16 := 0x0105
def codePrereq : BitVec 16 := 0x0106
def codeBusy : BitVec 16 := 0x0107
def codeStackLimit : BitVec 16 := 0x0108
def codeFault : BitVec 16 := 0x0109
def codeHostReset : BitVec 16 := 0x010A

/-- The code of a launch state (R76). -/
def LaunchState.code : LaunchState → Nat
  | .queued => 1
  | .ready => 2
  | .claiming => 3
  | .running => 4
  | .retired => 5
  | .discarded => 6

/-! ## Messages between launch units -/

/-- The kinds of launch messages that leave the chip: wake, report, ended, discard, fault report (R83, R84, R88, R338); a debug
stop requested or withdrawn, and a chip's cores stopped (R337; DESIGN CHOICE, log entry 89). -/
def lmReport : Nat := 1
def lmWake : Nat := 2
def lmEnded : Nat := 3
def lmDiscard : Nat := 4
def lmFault : Nat := 5
def lmDebug : Nat := 6
def lmStopped : Nat := 7

/-! ## Finding launches -/

/-- What names a launch. -/
def Launch.key (l : Launch) : LaunchKey := { issuer := l.issuer, lid := l.lid }

/-- A launch that this chip issued. -/
def State.ownKey (s : State) (lid : BitVec 32) : LaunchKey := { issuer := s.chipNumber, lid := lid }

/-- The launch of a name. -/
def State.launch (s : State) (k : LaunchKey) : Option Launch := s.launches.find? (·.key == k)

/-- The state with a launch's entry replaced. -/
def State.setLaunch (s : State) (l : Launch) : State :=
  { s with launches := s.launches.map (fun m => if m.key == l.key then l else m) }

/-- The cores that a launch has claimed on this chip. -/
def Launch.cores (l : Launch) : List Nat := l.clusters.flatMap coresOfCluster

/-- Is the launch in one of the states 1–4 (R76)? -/
def Launch.active (l : Launch) : Bool := l.state != .retired && l.state != .discarded

/-! ## Release -/

/-- R182: sub-array `a` of a bench is released and zeroed. -/
def Bench.releaseSub (b : Bench) (a : Nat) : Bench :=
  { b with
    owner := b.owner.setIfInBounds a none
    acc := b.acc.filter (fun e => e.1 / 8192 ≠ a)
    coverage := b.coverage.setIfInBounds a { best := [], gain := [], mode := 0 } }

/-- R182: every sub-array that core `c` has claimed outside a mask is released and zeroed. -/
def State.releaseSubs (s : State) (c : Nat) (keep : BitVec 4) : State :=
  s.modBench (benchOf c) (fun b =>
    (List.range 4).foldl (fun (b : Bench) a =>
      if b.owner[a]?.getD none == some c && !keep.getLsbD a then b.releaseSub a else b) b)

/-- R182: all of a core's claims are released, and its microprogram register is zeroed. -/
def State.releaseMatrix (s : State) (c : Nat) : State :=
  (s.releaseSubs c 0).modCore c (fun k => { k with samask := 0, fuse := 0, mprog := 0 })

/-- The strand stops: FREE, waiting for nothing, executing nothing. -/
def Strand.stop (t : Strand) : Strand :=
  { t with status := .free, park := none, pos := .nowhere, heldS := [], heldM := [], pending := [],
           storeBuf := [] }

/-- The strand ends its program: FREE; its stores still drain. -/
def Strand.ended (t : Strand) : Strand :=
  { t with status := .free, park := none, pos := .nowhere, heldS := [], heldM := [], pending := [] }

/-- Every strand of the core stops. -/
def Core.stopAll (k : Core) : Core := { k with strands := k.strands.map Strand.stop }

/-- R253, R306: the core FIFOs and the receive queues are emptied; the slots reserved in them are cancelled. -/
def Core.emptySinks (k : Core) : Core :=
  { k with
    fifos := Vector.replicate 8 []
    rx := k.rx.map (fun q => { entries := [], reserved := q.reserved.map (fun r => { r with cancelled := true }) }) }

/-- R76, R278: the launch unit releases a core: its channels' words return to their reset values. -/
def Core.release (k : Core) : Core :=
  { k with launch := none, spad := 0, slots := [], slot := 0, first := 0,
           channels := Vector.replicate 5 Channel.reset, debugStopped := false }

/-- The cores of a launch's clusters that it has started. -/
def State.heldCores (s : State) (l : Launch) : List Nat := l.cores.filter (fun c => (s.core c).launch == some l.key)

/-- R76, R182: the launch's clusters are released, its routes withdrawn; its stacks are its own no longer (R70). -/
def State.releaseLaunch (s : State) (l : Launch) : State :=
  let cs := s.heldCores l
  let s := cs.foldl (fun s c => (s.releaseMatrix c).modCore c Core.release) s
  { s with
    routes := s.routes.filter (·.launch ≠ l.key)
    stackRanges := s.stackRanges.filter (·.launch ≠ l.key)
    watches := s.watches.filter (fun w => !cs.contains w.core)
    reservations := s.reservations.filter (fun r => !cs.contains r.core) }

/-! ## Prerequisites (R76) -/

/-- What a QUEUED launch's prerequisites say. -/
inductive Verdict where
  | waiting
  | ready
  | failed (detail : Nat)
  deriving DecidableEq, Repr

/-- R76: the prerequisites of a launch; a failure wins over a remaining count of 0. Of several that fail, the one with the
lowest index is reported (DESIGN CHOICE, log entry 125). -/
def State.prereqVerdict (s : State) (l : Launch) : Verdict :=
  let objs := (List.range 4).zip l.preLocs |>.filter (fun p => lpbPrereq l.lpb p.1 != 0)
  match objs.find? (fun p => s.coMagic p.2 != kcnt || 0x100 ≤ (s.coStatus p.2).toNat % 2 ^ 16) with
  | some p => .failed (if s.coMagic p.2 ≠ kcnt then p.1 + 0x10 else p.1)
  | none => if objs.all (fun p => s.coRemain p.2 == 0) then .ready else .waiting

/-! ## The end of a launch (R87) -/

/-- R87: the launch-ended record. -/
def endedRecord (code detail : BitVec 16) (lid : BitVec 32) (done : Word) (tick : Word) : List Byte :=
  leBytes 2 0x0010 ++ leBytes 2 code.toNat ++ leBytes 2 detail.toNat ++ leBytes 2 0 ++ leBytes 4 lid.toNat ++
    leBytes 4 0 ++ leBytes 8 done.toNat ++ leBytes 8 tick.toNat

/-- R87: the signal of DONE by the launch unit. -/
def State.signalDone (s : State) (l : Launch) (code detail : BitVec 16) : State :=
  if lpbDone l.lpb = 0 then s
  else
    s.arriveOnly { source := 1, core := 0xFFFF, strand := 0xFFFF, addr := lpbDone l.lpb, ld := lidLd l.lid }
      l.doneLoc l.doneGen (some (detail ++ code))

/-- R87: the launch-ended record of an accepted launch is to be posted, with those of the launches that end in the same
tick. -/
def State.postEnded (s : State) (l : Launch) (code detail : BitVec 16) : State :=
  { s with endedRecords := s.endedRecords ++ [(l.lid, endedRecord code detail l.lid (lpbDone l.lpb) s.tick)] }

/-- Records in ascending LID order, those of one LID in the order in which they came. -/
def insertRecord (r : BitVec 32 × List Byte) : List (BitVec 32 × List Byte) → List (BitVec 32 × List Byte)
  | [] => [r]
  | q :: qs => if r.1.toNat ≤ q.1.toNat then r :: q :: qs else q :: insertRecord r qs

/-- R87: the records of the launches that ended in this tick are posted in ascending LID order. -/
def State.flushEnded (s : State) : State :=
  (s.endedRecords.foldr insertRecord []).foldl (fun s r => s.post (lidLd r.1) 0 r.2) { s with endedRecords := [] }

/-- R76, R87: a launch ends in a state with a code: its clusters are released, DONE is signalled, the record is
prepared, and the launches that wait on DONE are examined again. -/
def finishWith : Nat → State → Launch → LaunchState → BitVec 16 → BitVec 16 → State
  | fuel, s, l, st, code, detail =>
    let s := (s.setLaunch { l with state := st, code := code, detail := detail, pendingCode := none }).releaseLaunch l
    let s := (s.signalDone l code detail).postEnded l code detail
    match fuel with
    | 0 => s
    | f + 1 =>
      s.launches.foldl (fun s n => match s.launch n.key with
        | some m =>
          if m.state = .queued ∧ lpbDone l.lpb ≠ 0 ∧ m.preLocs.contains l.doneLoc then
            match s.prereqVerdict m with
            | .waiting => s
            | .ready => s.setLaunch { m with state := .ready, readyTick := s.tick }
            | .failed d => finishWith f s m .discarded codePrereq (BitVec.ofNat 16 d)
          else s
        | none => s) s

/-- A launch ends; chains of launches that wait on one another are followed to their end. -/
def State.finish (s : State) (l : Launch) (st : LaunchState) (code detail : BitVec 16) : State :=
  finishWith s.launches.length s l st code detail

/-- R76: a QUEUED launch's prerequisites are examined. -/
def State.examine (s : State) (m : Launch) : State :=
  if m.state = .queued then
    match s.prereqVerdict m with
    | .waiting => s
    | .ready => s.setLaunch { m with state := .ready, readyTick := s.tick }
    | .failed d => s.finish m .discarded codePrereq (BitVec.ofNat 16 d)
  else s

/-- R76: the prerequisites of a launch are examined, as the launch stands now. -/
def State.examineNow (s : State) (l : Launch) : State :=
  match s.launch l.key with
  | some m => s.examine m
  | none => s

/-- R76: the QUEUED launches that name an object which has been decremented are examined. -/
def State.examineNoted (s : State) : State :=
  let objs := s.decremented
  s.launches.foldl (fun s m => if objs.any m.preLocs.contains then s.examineNow m else s) { s with decremented := [] }

/-- R284, R76: an arrival at a count object, after which the launches that name it are examined. -/
def State.arrive (s : State) (a : ArrivalSource) (loc : Nat) (gen : BitVec 32) (status : Option (BitVec 32)) :
    State := (s.arriveOnly a loc gen status).examineNoted

/-- R88, R338: a launch of another chip ends here: its clusters are released, and its end is reported. That the clusters are
free at once, before the launch retires at the issuing chip, is DESIGN CHOICE (log entry 128). -/
def State.finishHere (s : State) (l : Launch) (code detail : BitVec 16) : State :=
  let s1 := (s.setLaunch { l with state := if code = codeDone then .retired else .discarded, code := code,
                                  detail := detail, pendingCode := none }).releaseLaunch l
  if code ≠ 0 then s1.send (.launchMessage l.issuer lmEnded l.lid 0) else s1

/-- R323: must the end of a launch wait for the groups of other chips: it ran there, and they have not reported its end? -/
def State.othersRun (s : State) (l : Launch) : Bool :=
  l.issuer == s.chipNumber && l.state == .running &&
    !(l.chips.filter (· ≠ s.chipNumber)).all (fun c => l.endedChips.contains c)

/-- R323: a launch whose end has been decided ends once the groups of its cores have settled, on every claimed chip. -/
def State.tryFinish (s : State) (key : LaunchKey) : State :=
  match s.launch key with
  | none => s
  | some l =>
    match l.pendingCode with
    | none => s
    | some (code, detail) =>
      if l.active ∧ s.groupsSettled l.cores ∧ !s.othersRun l then
        if l.issuer = s.chipNumber then
          s.finish l (if code = codeDone then .retired else .discarded) code detail
        else s.finishHere l code detail
      else s

/-- R323: after a step that settles groups, every launch whose end waited for it ends. -/
def State.tryFinishAll (s : State) : State := s.launches.foldl (fun s l => s.tryFinish l.key) s

/-- R375: the tenant key slots of a logical device are cleared. -/
def State.clearKeys (s : State) (n : BitVec 4) : State :=
  { s with security := { s.security with keys := s.security.keys.filter (fun k => k.2.owner != some n) } }

/-- R350, R375: the last step of quiescing a logical device, once every launch of it has ended: its keys are cleared. -/
def State.settleQuiesce (s : State) (n : Nat) : State :=
  if (s.ld n).quiescing && s.launches.all (fun l => !l.active || lidLd l.lid != n) then
    (s.clearKeys (BitVec.ofNat 4 n)).modLd n (fun d => { d with quiescing := false })
  else s

/-- What a group or an object may have let go on: launches, and the quiescing of logical devices. -/
def State.follow (s : State) : State :=
  (List.range 16).foldl State.settleQuiesce s.examineNoted.tryFinishAll

/-! ## Discard (R338) -/

/-- R338: journal entries still POSTED are freed by their replies without any trap; refused ones are freed. -/
def discardJournal (j : SMap JEntry) : SMap JEntry :=
  (j.filter (fun e => e.2.state != .refused)).map (fun e => (e.1, { e.2 with delivered := true }))

/-- R338: what the core drops when its launch is discarded. -/
def Core.discard (k : Core) : Core :=
  { k.stopAll with
    vqueue := []
    mqueue := []
    syscalls := []
    fenced := []
    combining := []
    journal := discardJournal k.journal
    rx := k.rx.map (fun q => { q with reserved := q.reserved.map (fun r => { r with cancelled := true }) }) }

/-- R338: the chains of the cores end at their current entry; their tiles leave the in-flight state. -/
def State.dropChains (s : State) (cores : List Nat) : State :=
  cores.foldl (fun s c =>
    let b := s.bench (benchOf c)
    let mine := b.chains.filter (·.core == c)
    let lines := mine.flatMap (fun k => k.moving.flatMap (fun m => m.todo.map (fun x => lineNo x.1)))
    let s := s.setBench (benchOf c)
      { b with chains := b.chains.filter (·.core ≠ c), owned := b.owned.filter (fun l => !lines.contains l),
               groups := b.groups.map (fun g => match g with
                 | some e => if e.core == c then none else some e
                 | none => none) }
    { s with tilesInFlight := mine.foldl (fun ts ch => ch.marked.foldl (fun ts t => ts.erase t) ts) s.tilesInFlight })
    s

/-- R286: the strands of a core that wait on count objects wait no longer: WAITER of each object falls by one. -/
def State.dropWaiters (s : State) (c : Nat) : State :=
  (s.core c).strands.toList.foldl (fun s t => match t.park with
    | some (.countObject loc _) => s.commitHome (cellsAt (loc + 0x18) (leBytes 4 (s.coWaiter loc - 1)))
    | _ => s) s

/-- R338: steps 1–4 of a discard on this chip. -/
def State.stopLaunch (s : State) (l : Launch) : State :=
  let cs := s.heldCores l
  let s := cs.foldl (fun s c => (s.dropWaiters c).modCore c Core.discard) (s.dropChains cs)
  s.discardGroups cs

/-- A message to the launch units of the other claimed chips. -/
def State.tellChips (s : State) (l : Launch) (kind : Nat) (value : Word) : State :=
  (l.chips.filter (· ≠ s.chipNumber)).foldl (fun s c => s.send (.launchMessage c kind l.lid value)) s

/-- The code and the detail of a discard, as a message carries them. -/
def discardValue (code detail : BitVec 16) : Word := (0#32 ++ detail) ++ code

/-- R338: the launch is discarded on this chip with a code. -/
def State.discardHere (s : State) (l : Launch) (code detail : BitVec 16) : State :=
  ((s.stopLaunch l).setLaunch { l with pendingCode := some (code, detail), localDone := true }).tryFinish l.key

/-- R338: a launch is discarded with a code. The issuing chip orders the other claimed chips to discard it too; another
chip reports the end to the issuing chip. -/
def State.discard (s : State) (key : LaunchKey) (code detail : BitVec 16) : State :=
  match s.launch key with
  | none => s
  | some l =>
    if !l.active || l.pendingCode.isSome then s
    else if l.issuer = s.chipNumber then
      (s.tellChips l lmDiscard (discardValue code detail)).discardHere l code detail
    else (s.send (.launchMessage l.issuer lmFault l.lid (discardValue code detail))).discardHere l code detail

/-- R326: how the DETAIL of LAUNCH_FAULT writes a trap cause. -/
def causeDetail (cause : Word) : BitVec 16 :=
  if cause.getLsbD 63 then 0x8000#16 + cause.extractLsb' 0 16 else cause.extractLsb' 0 16

/-- R328, R338: a trap of strand `i` of core `c` finds no handler, so its launch is discarded. A strand in no launch
stops. -/
def State.discardFor (s : State) (c i : Nat) (cause : Word) : State :=
  match (s.core c).launch with
  | some key => s.discard key codeFault (causeDetail cause)
  | none => s.modStrand c i Strand.stop

/-! ## Retirement (R87, R88) -/

/-- R87: every store of the launch's cores becomes visible at system scope. -/
def State.publishStores (s : State) (cores : List Nat) : State :=
  cores.foldl (fun s c => (allStrands.foldl (fun s i => s.drainAll c i) s).raiseCore c .s) s

/-- R87, R88: when every vpe has ended here and everywhere, the launch retires; a chip other than the issuing one
reports its end. -/
def State.tryRetire (s : State) (key : LaunchKey) : State :=
  match s.launch key with
  | none => s
  | some l =>
    let go := fun (s : State) =>
      (((s.publishStores (s.heldCores l)).discardGroups (s.heldCores l)).setLaunch
        { l with pendingCode := some (codeDone, 0) }).tryFinish key
    if l.state = .running ∧ l.localDone ∧ l.pendingCode.isNone then
      if l.issuer = s.chipNumber ∧ !(l.chips.filter (· ≠ s.chipNumber)).all (fun c => l.endedChips.contains c) then s
      else go s
    else s

end Sys2Proof.Machine
end

