-- ==== Sys2Proof/Machine/Shelf.lean ====
section
/-! DEFINITION. The code shelf: forms and their call sites, the directory, installing and evicting, function records
and handles, the start of a fetch, and entering a function (R61-R66, R89-R102, R112). -/

namespace Sys2Proof.Machine

/-! ## Forms -/

/-- Is a parcel the first of a 32-bit instruction (R23)? -/
def isWide (b0 : Byte) : Bool := b0.extractLsb' 0 2 == 3#2 && b0.extractLsb' 2 3 != 7#3

/-- The word of four bytes. -/
def word32 (b0 b1 b2 b3 : Byte) : BitVec 32 := b3 ++ b2 ++ b1 ++ b0

/-- R61: is the word a calld or a callh? -/
def isCallSite (w : BitVec 32) : Bool :=
  (w &&& 0x000FFFFF#32) == 0x0000008B#32 || (w &&& 0xFFF07FFF#32) == 0x0000108B#32

/-- R61: the offsets of the call sites of code that stands at offset `off`, in order. -/
def callSitesFrom : List Byte → Nat → List Nat
  | b0 :: b1 :: b2 :: b3 :: rest, off =>
    if isWide b0 then
      if isCallSite (word32 b0 b1 b2 b3) then off :: callSitesFrom rest (off + 4)
      else callSitesFrom rest (off + 4)
    else callSitesFrom (b2 :: b3 :: rest) (off + 2)
  | _, _ => []

/-- R61: the offsets of the call sites of a portable form. -/
def callSites (code : List Byte) : List Nat := callSitesFrom code 0

/-- The call sites of an entry: those of its code, or its waypoint table (R97). -/
def DirEntry.sites (d : DirEntry) : List Nat :=
  match d.kind with
  | .portable => callSites d.code
  | .native => d.wptab

/-- R101: where a return to waypoint `n` resumes. -/
def DirEntry.resumeAt (d : DirEntry) (n : Nat) : BitVec 24 := BitVec.ofNat 24 (d.sites.getD (n - 1) 0 + 4)

/-- R112: the waypoint of the call at an offset. -/
def DirEntry.waypointOf (d : DirEntry) (fpc : BitVec 24) : Option Nat :=
  (d.sites.findIdx? (· == fpc.toNat)).map (· + 1)

/-! ## The directory -/

/-- R92: the VALID entry of a pair of digest and VF. -/
def Cluster.lookup (k : Cluster) (digest : Digest) (vf : BitVec 6) : Option (Nat × DirEntry) :=
  k.dir.find? (fun e => e.2.digest == digest && e.2.vf == vf)

/-- The directory entry `e` of a cluster. -/
def Cluster.entry (k : Cluster) (e : Nat) : Option DirEntry := mapFind k.dir e

/-- The current core cycle of a cluster's directory: that of the core furthest ahead. -/
def State.clusterCycle (s : State) (l : Nat) : Nat :=
  (coresOfCluster l).foldl (fun m c => max m (s.core c).cycle.toNat) 0

/-- R102: is a strand executing in entry `e`, or was its interrupted form (R328)? -/
def Strand.executesIn (t : Strand) (e : Nat) : Bool :=
  (t.status == .live && t.pos == .inForm e) || t.heldS.contains (some e) || t.heldM.contains (some e)

/-- R102: is some strand of the cluster executing in entry `e`? -/
def State.executed (s : State) (l e : Nat) : Bool :=
  (coresOfCluster l).any (fun c => (s.core c).strands.toList.any (·.executesIn e))

/-- R102: can the entry be evicted? -/
def State.evictable (s : State) (l e : Nat) (d : DirEntry) : Bool := !d.pinned && !d.hold && !s.executed l e

/-- R91: what a free page's row reads. -/
def freeRow : BitVec 16 := 0xFFFF#16

/-- R91: row `i` of the shelf page map. -/
def Cluster.row (k : Cluster) (i : Nat) : BitVec 16 := mapGet freeRow k.pages i

/-- The free pages of a shelf, in order. -/
def Cluster.freePages (k : Cluster) : List Nat := (List.range 128).filter (fun i => k.row i == freeRow)

/-- R102: the entry is evicted, and its pages are freed. -/
def Cluster.evictEntry (k : Cluster) (e : Nat) : Cluster :=
  { k with
    dir := mapErase k.dir e
    pages := k.pages.filter (fun p => p.2.toNat / 256 ≠ e) }

/-- R89: the pages that a form occupies. -/
def pagesOf (len : Nat) : Nat := (len + 4095) / 4096

/-- R102: the age of an entry. -/
def DirEntry.age (d : DirEntry) (cycle : Nat) : Nat := (BitVec.ofNat 32 cycle - d.last).toNat

/-- R102: does entry `a` leave before entry `b`: OVER first, then the older, then the lower index? -/
def leavesBefore (cycle : Nat) (a b : Nat × DirEntry) : Bool :=
  if a.2.isOver != b.2.isOver then a.2.isOver
  else if a.2.age cycle ≠ b.2.age cycle then b.2.age cycle < a.2.age cycle
  else a.1 < b.1

/-- The entry of a list that leaves first. -/
def firstToLeave (cycle : Nat) : List (Nat × DirEntry) → Option (Nat × DirEntry)
  | [] => none
  | e :: es =>
    match firstToLeave cycle es with
    | none => some e
    | some f => if leavesBefore cycle e f then some e else some f

/-- R102: is there room for a form of `need` pages within `limit` entries? -/
def Cluster.hasRoom (k : Cluster) (limit need : Nat) : Bool :=
  k.dir.length < limit && need ≤ k.freePages.length

/-- R102: evictable entries leave, in order, until there is room or none is left. -/
def State.makeRoom (s : State) (l limit need : Nat) : Nat → Cluster → Cluster
  | 0, k => k
  | fuel + 1, k =>
    if k.hasRoom limit need then k
    else
      match firstToLeave (s.clusterCycle l) (k.dir.filter (fun e => s.evictable l e.1 e.2)) with
      | none => k
      | some e => s.makeRoom l limit need fuel (k.evictEntry e.1)

/-- R91: the rows of a form's pages, linked in order. -/
def linkPages (owner : Nat) : List Nat → List (Nat × BitVec 16)
  | [] => []
  | [p] => [(p, BitVec.ofNat 16 (owner * 256 + 0xFE))]
  | p :: q :: ps => (p, BitVec.ofNat 16 (owner * 256 + q)) :: linkPages owner (q :: ps)

/-- R101: a form's pages are written, its entry is filled and VALID set. The pages are the free ones with the lowest numbers
(DESIGN CHOICE, log entry 131), and LAST is the cycle of the install until a call or return enters (DESIGN CHOICE, log entry
132). -/
def Cluster.place (k : Cluster) (cycle : Nat) (digest : Digest) (vf : BitVec 6) (f : Form) (isOver : Bool) : Cluster :=
  match (List.range 64).find? (fun i => (k.entry i).isNone) with
  | none => k
  | some i =>
    let ps := k.freePages.take (pagesOf f.code.length)
    { k with
      pages := (linkPages i ps).foldl (fun m r => mapSet freeRow m r.1 r.2) k.pages
      dir := mapPut k.dir i
        { digest := digest, vf := vf, kind := f.kind, pinned := false, hold := false, isOver := isOver, nwp := f.nwp,
          src := f.src, last := BitVec.ofNat 32 cycle, firstPage := ps.headD 0, content := f.content,
          keyId := f.keyId, wptab := f.wptab, code := f.code } }

/-- R102: the outcome of an install. -/
inductive Installed where
  | done (k : Cluster)
  | beyond (k : Cluster)
  | waits
  deriving DecidableEq, Repr

/-- R102, R329: a form is installed, evicting as it must; a resident entry of the same pair is replaced, when it may
leave. -/
def State.installForm (s : State) (l : Nat) (digest : Digest) (vf : BitVec 6) (f : Form) : Installed :=
  let k0 := s.cluster l
  let resident := k0.lookup digest vf
  if (match resident with | some e => !s.evictable l e.1 e.2 | none => false) then .waits
  else
    let k := match resident with | some e => k0.evictEntry e.1 | none => k0
    let need := pagesOf f.code.length
    let k1 := s.makeRoom l k.cdlim.toNat need 64 k
    if k1.hasRoom k.cdlim.toNat need then .done (k1.place (s.clusterCycle l) digest vf f false)
    else if k1.hasRoom 64 need then .beyond (k1.place (s.clusterCycle l) digest vf f true)
    else .waits

/-- R92: a call or return into entry `e` updates its LAST. -/
def State.markLast (s : State) (l e : Nat) : State :=
  match (s.cluster l).entry e with
  | some d =>
    s.modCluster l (fun k => { k with dir := mapPut k.dir e { d with last := BitVec.ofNat 32 (s.clusterCycle l) } })
  | none => s

/-- R133: a resident entry is pinned, if the limit allows; the status. -/
def Cluster.pin (k : Cluster) (e : Nat) (d : DirEntry) : Cluster × Word :=
  if !d.pinned && k.cdlim.toNat - 1 ≤ (k.dir.filter (·.2.pinned)).length then (k, 2)
  else ({ k with dir := mapPut k.dir e { d with pinned := true } }, 0)

/-- R89, R91: the pages of entry `e`, in the order of the form. -/
def Cluster.pagesOf (k : Cluster) (e : Nat) : List Nat :=
  (List.range 128).filter (fun p => k.row p != freeRow && (k.row p).toNat / 256 == e)

/-- R229: the locations in the shelf of `n` bytes of entry `e` from offset `off` on. -/
def Cluster.shelfLocs (k : Cluster) (l e off n : Nat) : List Nat :=
  let ps := k.pagesOf e
  (List.range n).filterMap (fun j => (ps[(off + j) / 4096]?).map (fun p => shelfLoc l (4096 * p + (off + j) % 4096)))

/-- R101, R229: a cluster after an install of a form; the pages written are poisoned no longer. -/
def State.setInstalled (s : State) (l : Nat) (k : Cluster) (digest : Digest) (vf : BitVec 6) : State :=
  let s1 := s.setCluster l k
  if s1.poisoned.isEmpty then s1
  else
    let ps := ((k.lookup digest vf).map (fun e => k.pagesOf e.1)).getD []
    { s1 with poisoned := s1.poisoned.filter (fun q => !ps.any (fun p => q / 128 == sectorNo (shelfLoc l (4096 * p)) / 128)) }

/-! ## Rejections (R100) -/

def rejNotPermitted : Nat := 0
def rejForm : Nat := 1
def rejModel : Nat := 2
def rejKey : Nat := 3
def rejSigEd : Nat := 4
def rejSigPq : Nat := 5
def rejNativeDigest : Nat := 6
def rejPortDigest : Nat := 7

/-- R100: a rejection is counted, for a fetch that core `c` started. -/
def State.reject (s : State) (c reason : Nat) : State :=
  (s.modCluster (clusterOf c) (fun k =>
    let v := k.rejections[reason]?.getD 0
    { k with rejections := k.rejections.setIfInBounds reason (if v = BitVec.allOnes 32 then v else v + 1) }))
  |>.countEvent c (evRejection + reason) 1

/-! ## Trust (R95) -/

/-- R95: the trust entry of a virtual function; 64 zero bytes before a table is given. -/
def State.trustEntry (s : State) (vf : BitVec 6) : List Byte :=
  match s.trust with
  | none => List.replicate 64 0
  | some base => s.readBytes .device (base + 64 * vf.toNat) 64

/-- R95: is the digest permitted by a trust entry? -/
def State.permits (s : State) (entry : List Byte) (digest : Digest) : Bool :=
  let base := recNat entry 0 8 % 2 ^ 42
  let n := recNat entry 8 4
  n == 0xFFFFFFFF ||
    (List.range n).any (fun i => BitVec.ofNat 256 (s.readNat .device (base + 32 * i) 32) == digest)

/-! ## Fetches -/

/-- The fetch in flight for a pair in a cluster. -/
def Cluster.fetch (k : Cluster) (digest : Digest) (vf : BitVec 6) : Option Fetch :=
  k.fetches.find? (fun f => f.digest == digest && f.vf == vf)

/-- R93: is the entry of a pair in cluster `l` being copied: does a fetch of another cluster ask the sources among which it
is? -/
def State.copying (s : State) (l : Nat) (digest : Digest) (vf : BitVec 6) : Bool :=
  s.clusters.any (fun k => k.1 != l && k.2.fetches.any (fun f =>
    f.digest == digest && f.vf == vf && f.install.isNone &&
      (if k.1 / 32 = l / 32 then f.next == 1 else f.next == 2)))

/-- R93: HOLD of the entries of a pair, as the copies under way require. -/
def State.settleHolds (s : State) (digest : Digest) (vf : BitVec 6) : State :=
  { s with clusters := s.clusters.map (fun k => (k.1, { k.2 with dir := k.2.dir.map (fun e =>
      if e.2.digest = digest ∧ e.2.vf = vf then (e.1, { e.2 with hold := s.copying k.1 digest vf }) else e) })) }

/-- R92, R93, R95: a fetch for the pair is started by core `c`, unless one is in flight. `none`: the digest is not
permitted, so the fetch has ended at once and its reason is counted in the state given. -/
def State.startFetch (s : State) (c : Nat) (digest : Digest) (portOnly : Bool) (accept : Option (FormKind × Digest)) :
    Except State State :=
  let vf := (s.core c).vfNow
  let l := clusterOf c
  let entry := if s.isExecutive c then List.replicate 64 0 else s.trustEntry vf
  if ((s.cluster l).fetch digest vf).isSome then .ok s
  else if s.isExecutive c || s.permits entry digest then
    .ok ((s.modCluster l (fun k =>
      { k with fetches := k.fetches ++
          [{ digest := digest, vf := vf, portOnly := portOnly, accept := accept, core := c,
             executive := s.isExecutive c, entry := entry, next := 1, peer := 0, held := none, install := none }] })).settleHolds
        digest vf)
  else .error (s.reject c rejNotPermitted)

/-! ## Data reads of the control instructions (R112) -/

/-- A read of `n` bytes at `va` by strand `i` of the context's core, every byte translated first; the page-fault,
context-integrity and memory-error exceptions change nothing else, and a line that a unit owns is waited for (R265, R269). -/
def State.readData (s : State) (x : XCtx) (i : Nat) (va : Word) (n : Nat) : Except Stop (State × List Byte) :=
  match s.translate x .load va n with
  | .error f => .error (f.stop .load s)
  | .ok (s1, locs) =>
    match s1.onDie locs with
    | .error va => .error (.trap causeIntegrity va s)
    | .ok s2 =>
      match s2.ownedLine locs with
      | some line => .error (.wait (.ownedLine line) s)
      | none =>
        if s2.poisonedAt locs then .error (.trap causeMemory va s)
        else .ok (s2, locs.map (s2.readByte (.strand x.core i)))

/-! ## Function records (R64) -/

def recDigest (r : List Byte) : Digest := BitVec.ofNat 256 (recNat r 0 32)
def recValid (r : List Byte) : Bool := (recNat r 34 2).testBit 0
def recPortOnly (r : List Byte) : Bool := (recNat r 34 2).testBit 1
def recModule (r : List Byte) : Nat := recNat r 36 4
def recDirIdx (r : List Byte) : Nat := recNat r 40 4
def recNimp (r : List Byte) : Nat := recNat r 44 4
def recImph (r : List Byte) : Word := recWord r 48

/-- R64: the handle of record `i` of a core's directory. -/
def Core.handle (k : Core) (i : Nat) : Word := k.fdir + BitVec.ofNat 64 (64 * i)

/-- R112: CheckHandle: the state after its reads, and the record. -/
def State.checkHandle (s : State) (x : XCtx) (i : Nat) (h : Word) : Except Stop (State × List Byte) :=
  let k := s.core x.core
  let d := h.toNat - k.fdir.toNat
  if h.toNat < k.fdir.toNat ∨ d % 64 ≠ 0 ∨ k.nfdir ≤ d / 64 then .error (.trap causeCallHandle h s)
  else
    match s.readData x i h 64 with
    | .error e => .error e
    | .ok (s1, r) =>
      if !recValid r || recDirIdx r ≠ d / 64 || k.nmod ≤ recModule r then .error (.trap causeCallHandle h s)
      else .ok (s1, r)

/-- R112: DataBase: the data base of a record's module. -/
def State.dataBase (s : State) (x : XCtx) (i : Nat) (r : List Byte) : Except Stop (State × Word) :=
  match s.readData x i ((s.core x.core).modtab + BitVec.ofNat 64 (8 * recModule r)) 8 with
  | .error e => .error e
  | .ok (s1, b) => .ok (s1, wordOf b)

/-- R118: the record checks of a return on directory index `d`, with CHECK when it is used. -/
def State.returnRecord (s : State) (x : XCtx) (i d : Nat) (check : Option (BitVec 24)) (h : Word) :
    Except Stop (State × List Byte) :=
  let k := s.core x.core
  if k.nfdir ≤ d then .error (.trap causeReturnHandle h s)
  else
    match s.readData x i (k.handle d) 64 with
    | .error e => .error e
    | .ok (s1, r) =>
      if !recValid r || (match check with | some b => b ≠ (recDigest r).extractLsb' 0 24 | none => false) then
        .error (.trap causeReturnHandle h s)
      else .ok (s1, r)

/-! ## Positions -/

/-- The directory entry that a strand executes in. -/
def State.formOf (s : State) (c i : Nat) : Option DirEntry :=
  match (s.strand c i).pos with
  | .inForm e => (s.cluster (clusterOf c)).entry e
  | _ => none

/-- R328, R333: the kind of the form that holds the strand's current instruction, and its content digest; zeros when
no form holds it. -/
def State.formDig (s : State) (c i : Nat) : Option FormKind × Digest :=
  match (s.strand c i).pos with
  | .miss m => (m.saved.form, m.saved.dig)
  | _ =>
    match s.formOf c i with
    | some d => (some d.kind, d.content)
    | none => (none, 0)

/-- R101, R140: what is kept with a strand that parks on a code miss at its current instruction. -/
def State.savedPos (s : State) (c i : Nat) : SavedPos :=
  let t := s.strand c i
  let f := s.formDig c i
  { dir := t.curdir, fpc := t.fpc, form := f.1, ra := t.readX 1#5, gp := t.readX 3#5, dig := f.2 }

/-- R326: digest bytes 0–7, as the code faults report them. -/
def digestTval (d : Digest) : Word := d.extractLsb' 0 64

/-- What entering a function comes to (R112): the form is entered, the strand parks on a code miss, the fetch has
ended at once as not permitted, or the waypoint is above the form's NWP. -/
inductive Entered where
  | hit (s : State)
  | missed (s : State)
  | denied (s : State)
  | badWaypoint
  deriving DecidableEq, Repr

/-- R112: Enter: strand `i` of core `c` enters the function of a record, at its entry or at a waypoint. `counts` says that
a call or return does so. -/
def State.enter (s : State) (c i : Nat) (r : List Byte) (w : Nat) (saved : SavedPos) (handler : Option Word)
    (counts : Bool) : Entered :=
  let vf := (s.core c).vfNow
  let l := clusterOf c
  let digest := recDigest r
  let dir := BitVec.ofNat 24 (recDirIdx r)
  match (s.cluster l).lookup digest vf with
  | some (e, d) =>
    if d.nwp < w then .badWaypoint
    else
      .hit ((s.modStrand c i (fun t =>
        { t with curdir := dir, fpc := if w = 0 then 0 else d.resumeAt w, pos := .inForm e })).markLast l e)
  | none =>
    match s.startFetch c digest (recPortOnly r) none with
    | .error s1 => .denied s1
    | .ok s1 =>
      .missed (s1.modStrand c i (fun t =>
        { t with
          curdir := dir
          fpc := 0
          pos := .miss { digest := digest, resume := if w = 0 then .entry else .waypoint w, saved := saved,
                         handler := handler, counts := counts } }))

end Sys2Proof.Machine
end

