-- ==== Sys2Proof/Machine/Stack.lean ====
section
/-! DEFINITION. The stacks and the strand-local blocks of a launch's strands: what the resident executive reserves and maps
before they start, and what it does of an access below the mapped part of a stack (R69, R70, R72). The pages and the
addresses that it chooses are free values (log entry 9). -/

namespace Sys2Proof.Machine

/-- The executive writes a PTE with these low bits for the next page that it gives. -/
def State.grant (s : State) (loc flags : Nat) : State :=
  { (s.commitHome (cellsAt loc (leBytes 8 ((Config.executivePage s.fresh).toNat * 1024 + flags)))) with
    fresh := s.fresh + 1 }

/-- A new table holds no PTE. -/
def State.clearPage (s : State) (ppn : Nat) : State :=
  match s.tableLoc (ppn * 4096) with
  | some loc => s.commitHome (cellsAt loc (List.replicate 4096 0))
  | none => s

/-- R69, R70: the executive maps the page of an address where it is not mapped, below the table at page `ppn`, with the tables
that this takes: readable and writable in user mode. -/
def State.grantPage (s : State) (va : Nat) : Nat → Nat → State
  | 0, ppn =>
    match s.tableLoc (ppn * 4096 + 8 * (va / 4096 % 512)) with
    | none => s
    | some loc => if pteV (BitVec.ofNat 64 (s.readNat .device loc 8)) then s else s.grant loc 0xD7
  | level + 1, ppn =>
    match s.tableLoc (ppn * 4096 + 8 * (va / 4096 / 2 ^ (9 * (level + 1)) % 512)) with
    | none => s
    | some loc =>
      let p := BitVec.ofNat 64 (s.readNat .device loc 8)
      if pteV p then (if pteLeaf p then s else s.grantPage va level (ptePpn p))
      else
        let n := (Config.executivePage s.fresh).toNat
        ((s.grant loc 0x01).clearPage n).grantPage va level n

/-- R69, R70: the executive maps `n` bytes from an address on in an address space, where it translates. -/
def State.grantRange (s : State) (satp : Word) (va n : Nat) : State :=
  if field satp 60 4 ≠ 9 then s
  else (List.range ((va % 4096 + n + 4095) / 4096)).foldl
    (fun s i => s.grantPage (va / 4096 * 4096 + 4096 * i) 3 (field satp 0 44)) s

/-! ## Stacks (R69, R70) -/

/-- R72: the stack limit of a launch in bytes, whole pages. -/
def lpbStackBytes (b : List Byte) : Nat :=
  ((if lpbStack b = 0 then 1024 else lpbStack b) + 3) / 4 * 4096

/-- R69: the top of the stack of a strand: its range is the limit and 4 KiB more. -/
def stackTop (k : LaunchKey) (b : List Byte) (vpe : BitVec 24) (i : Nat) : Nat :=
  (Config.stackPage k.issuer k.lid vpe i).toNat * 4096 + lpbStackBytes b + 4096

/-- R69: before the strand's first instruction, the range of its stack is reserved and the top of it mapped. -/
def State.reserveStack (s : State) (k : LaunchKey) (b : List Byte) (satp : Word) (vpe : BitVec 24) (i : Nat) : State :=
  let top := stackTop k b vpe i
  let mapped := min 16384 (lpbStackBytes b)
  { (s.grantRange satp (top - mapped) mapped) with
    stackRanges := { launch := k, vpeid := vpe, strand := i, satp := satp, top := top, limit := lpbStackBytes b,
                     mapped := mapped } :: s.stackRanges }

/-- R70: the reserved range, below its mapped part, in which an address of a core's address space lies. -/
def State.stackBelow (s : State) (c : Nat) (va : Word) : Option StackRange :=
  s.stackRanges.find? (fun r =>
    some r.launch == (s.core c).launch && r.satp == (s.core c).satp &&
      decide (r.top ≤ va.toNat + r.limit + 4096 ∧ va.toNat + r.mapped < r.top))

/-- R70: the executive maps every page of a stack from an address within its limit up to the mapped part. -/
def State.growStack (s : State) (r : StackRange) (va : Word) : State :=
  let low := va.toNat / 4096 * 4096
  { (s.grantRange r.satp low (r.top - r.mapped - low)) with
    stackRanges := { r with mapped := r.top - low } :: s.stackRanges.erase r }

/-- R70: does an address pass the limit of the stack? -/
def StackRange.passed (r : StackRange) (va : Word) : Bool := decide (va.toNat + r.limit < r.top)

/-! ## Strand-local blocks (R72) -/

/-- R72: the base of a strand's block. -/
def localBase (k : LaunchKey) (vpe : BitVec 24) (i : Nat) : Word := Config.localBlock k.issuer k.lid vpe i

/-- R72: before the strand's first instruction, its strand-local block is mapped and holds zeros. -/
def State.clearLocal (s : State) (k : LaunchKey) (b : List Byte) (x : XCtx) (vpe : BitVec 24) (i : Nat) : State :=
  if lpbTls b = 0 then s
  else
    let base := localBase k vpe i
    let s1 := s.grantRange x.satp base.toNat (lpbTls b)
    match s1.translate x .store base (lpbTls b) with
    | .ok (s2, locs) => s2.commitHome (locs.map (fun l => (l, 0)))
    | .error _ => s1

/-- R69, R72: what the executive prepares for the strands of a vpe that a launch may start. -/
def State.prepareVpe (s : State) (k : LaunchKey) (b : List Byte) (x : XCtx) (vpe : BitVec 24) : State :=
  (List.range (lpbHelpers b + 1)).foldl
    (fun s i => (s.reserveStack k b x.satp vpe i).clearLocal k b x vpe i) s

end Sys2Proof.Machine
end

