-- ==== Sys2Proof/Machine/Ops.lean ====
section
/-! DEFINITION. The named operations that the meanings share: the current instruction, taking a trap and returning from
one, retiring, what every instruction checks of the pending prefix and of its privilege, and the scalar loads and
stores (R25, R28, R32, R104, R106, R109, R326-R329). -/

namespace Sys2Proof.Machine

/-- Actions on a list's elements in order, until one ends early. -/
def eachOf {α : Type} (f : State → α → Except Stop State) : List α → State → Except Stop State
  | [], s => .ok s
  | a :: as, s =>
    match f s a with
    | .ok s1 => eachOf f as s1
    | .error e => .error e

/-! ## The current instruction -/

/-- The code of the form that the strand executes in; empty in no form. -/
def State.code (s : State) (c i : Nat) : List Byte := ((s.formOf c i).map (·.code)).getD []

/-- The bytes of the form from FPC on, up to one instruction. -/
def State.bytesAt (s : State) (c i : Nat) : List Byte := ((s.code c i).drop (s.strand c i).fpc.toNat).take 4

/-- The word of the instruction at FPC: one parcel, or two (R326). -/
def State.currentWord (s : State) : Word :=
  match s.bytesAt s.here s.cur with
  | b0 :: b1 :: b2 :: b3 :: _ => if isWide b0 then (0#32 ++ word32 b0 b1 b2 b3) else (0#48 ++ (b1 ++ b0))
  | b0 :: b1 :: _ => 0#48 ++ (b1 ++ b0)
  | _ => 0

/-! ## Taking a trap (R328) -/

/-- R333: the PRIV code of a privilege. -/
def Priv.code : Priv → Nat
  | .user => 0
  | .supervisor => 1
  | .machine => 3

/-- The privilege of a code; the reserved code reads as user mode. -/
def Priv.ofCode : Nat → Priv
  | 1 => .supervisor
  | 3 => .machine
  | _ => .user

/-- The word with bits `lo`, `lo + 1`, … of it, `n` of them, replaced by the low bits of `v`. -/
def putField (w : Word) (lo n v : Nat) : Word :=
  let m := BitVec.ofNat 64 (2 ^ n - 1) <<< lo
  (w &&& ~~~m) ||| ((BitVec.ofNat 64 v <<< lo) &&& m)

/-- The status bits (R328). -/
def bitSIE : Nat := 1
def bitMIE : Nat := 3
def bitSPIE : Nat := 5
def bitMPIE : Nat := 7
def bitSPP : Nat := 8
def bitMPP : Nat := 11
def bitMPRV : Nat := 17

/-- R328: does the trap go to machine mode: on a server core, unless it is delegated. -/
def State.trapToMachine (s : State) (c i : Nat) (cause : Word) : Bool :=
  let t := s.strand c i
  let deleg := if cause.getLsbD 63 then t.mideleg else t.medeleg
  s.isServer c && (t.priv == .machine || !deleg.getLsbD (field cause 0 6))

/-- R328, R329: a code position. -/
def codePosition (dir : BitVec 24) (form : Option FormKind) (fpc : BitVec 24) : Word :=
  dir ++ 0#15 ++ (if form = some .native then 1#1 else 0#1) ++ fpc

/-- The offset of a level's trap line in the image (R332). -/
def trapLineOffset (machine : Bool) : Word := if machine then 0x740 else 0x700

/-- R332: the bytes of a trap line. -/
def trapLine (pp : Bool) (kpfx : BitVec 32) (dig : Digest) (gp : Word) : List Byte :=
  leBytes 8 pp.toNat ++ leBytes 8 kpfx.toNat ++ leBytes 32 dig.toNat ++ leBytes 8 gp.toNat

/-- R328: the CSRs, the status and the privilege that a trap to machine or supervisor mode leaves. -/
def Strand.enterLevel (t : Strand) (machine : Bool) (epc cause tval : Word) : Strand :=
  let held := match t.pos with
    | .inForm e => some e
    | _ => none
  if machine then
    { t with
      pp := false, priv := .machine, mepc := epc, mcause := cause, mtval := tval, heldM := held :: t.heldM
      mstatus := putField (putField (putField t.mstatus bitMPP 2 t.priv.code) bitMPIE 1
        (t.mstatus.getLsbD bitMIE).toNat) bitMIE 1 0 }
  else
    { t with
      pp := false, priv := .supervisor, sepc := epc, scause := cause, stval := tval, heldS := held :: t.heldS
      mstatus := putField (putField (putField t.mstatus bitSPP 1 t.priv.code) bitSPIE 1
        (t.mstatus.getLsbD bitSIE).toNat) bitSIE 1 0 }

/-- A store joins the strand's store buffer (R264). -/
def Strand.pushStore (t : Strand) (cells : List (Nat × Byte)) : Strand :=
  { t with storeBuf := t.storeBuf ++ [{ cells := cells }] }

/-- R106: after a trap every outstanding result counts as if its window were full. -/
def Strand.closeWindows (t : Strand) : Strand := { t with pending := t.pending.map (fun p => { p with window := 0 }) }

/-- R112, R265: the strand waits for a line of the handler's record that a unit owns. -/
def State.handlerWaits (s : State) (c i : Nat) (machine : Bool) (cause : Word) (saved : SavedPos) (p : Park) : State :=
  s.modStrand c i (fun t => { t with pos := .entering machine cause saved, park := some p })

/-- The handler is entered (R328): its record is read and checked at the strand's privilege (R112), gp and the function
are set; or the state in which that has failed. -/
def State.enterHandler (s : State) (c i : Nat) (machine : Bool) (cause : Word) (saved : SavedPos) : Except State State :=
  let t := s.strand c i
  let tvec := if machine then t.mtvec else t.stvec
  let x := s.xctx c i
  if tvec = 0 then .error s
  else
    match s.checkHandle x i tvec with
    | .error (.wait p _) => .ok (s.handlerWaits c i machine cause saved p)
    | .error (.trap _ _ _) => .error s
    | .ok (s1, r) =>
      match s1.dataBase x i r with
      | .error (.wait p _) => .ok (s1.handlerWaits c i machine cause saved p)
      | .error (.trap _ _ _) => .error s1
      | .ok (s2, gp) =>
        match (s2.modStrand c i (·.writeX 3#5 gp)).enter c i r 0 saved (some cause) false with
        | .hit s3 => .ok s3
        | .missed s3 => .ok s3
        | .denied s3 => .error s3
        | .badWaypoint => .error s2

/-- R328: a strand that waited for its handler's record enters the handler. -/
def State.retryHandler (s : State) (c i : Nat) (machine : Bool) (cause : Word) (saved : SavedPos) : State :=
  match (s.modStrand c i (fun t => { t with park := none })).enterHandler c i machine cause saved with
  | .ok s1 => s1
  | .error s1 => s1.discardFor c i cause

/-- R328: the strand with a trap's CSRs, status and privilege. -/
def State.levelEntered (s : State) (c i : Nat) (machine : Bool) (cause tval : Word) : State :=
  s.modStrand c i (fun t =>
    { t with park := none, failedWalks := [] }.enterLevel machine (codePosition t.curdir (s.formDig c i).1 t.fpc) cause tval)

/-- R138: a strand that leaves a waitev disarms its watch. -/
def State.disarm (s : State) (c i : Nat) : State :=
  { s with watches := s.watches.filter (fun w => !(w.core == c && w.strand == i)) }

/-- R70: the stack below whose mapped part a page fault lies. -/
def State.stackFault (s : State) (c : Nat) (cause tval : Word) : Option StackRange :=
  if cause = causeLoadPage ∨ cause = causeStorePage then s.stackBelow c tval else none

/-- R70: what the resident executive makes of an access of a strand below the mapped part of a stack: within the limit it maps
the pages, and the access restarts; below it, the strand waits for the end of its launch. -/
def State.stackTrap (s : State) (c i : Nat) (r : StackRange) (tval : Word) : State :=
  if r.passed tval then s.modStrand c i (fun t => { t with park := some (.stackLimit r.vpeid) })
  else (s.growStack r tval).modStrand c i (fun t => { t with park := none })

/-- R328: strand `i` of core `c` takes a trap to its handler. If the trap line cannot be written, or the handler's record
fails its checks, the launch is discarded. -/
def State.trapToHandler (s0 : State) (c i : Nat) (cause tval : Word) : State :=
  let s := s0.disarm c i
  let t := s.strand c i
  let machine := s.trapToMachine c i cause
  let saved := s.savedPos c i
  let line := trapLine t.pp t.kpfx (s.formDig c i).2 (t.readX 3#5)
  let failed := (s.levelEntered c i machine cause tval).discardFor c i cause
  match s.translate (s.deviceCtx c) .store (t.ctxbase + trapLineOffset machine) 56 with
  | .error _ => failed
  | .ok (s1, locs) =>
    match s1.onDie locs with
    | .error _ => failed
    | .ok s2 =>
      let s3 := (s2.levelEntered c i machine cause tval).modStrand c i (fun t =>
        (t.pushStore (locs.zip line)).closeWindows)
      match s3.enterHandler c i machine cause saved with
      | .ok s4 => s4
      | .error s4 => s4.discardFor c i cause

/-- R70, R328: strand `i` of core `c` takes a trap: the resident executive's for an access below the mapped part of a stack,
or its handler's. -/
def State.takeTrap (s : State) (c i : Nat) (cause tval : Word) : State :=
  match s.stackFault c cause tval with
  | some r => s.stackTrap c i r tval
  | none => s.trapToHandler c i cause tval

/-! ## Returning from a trap (R329) -/

/-- R329: the privilege and the status after sret or mret. -/
def Strand.leaveLevel (t : Strand) (machine : Bool) : Strand :=
  if machine then
    let p := Priv.ofCode (field t.mstatus bitMPP 2)
    let st := putField (putField (putField t.mstatus bitMIE 1 (t.mstatus.getLsbD bitMPIE).toNat) bitMPIE 1 1) bitMPP 2 0
    { t with priv := p, heldM := t.heldM.tail, mstatus := if p = .machine then st else putField st bitMPRV 1 0 }
  else
    { t with
      priv := if t.mstatus.getLsbD bitSPP then .supervisor else .user
      heldS := t.heldS.tail
      mstatus := putField (putField (putField (putField t.mstatus bitSIE 1 (t.mstatus.getLsbD bitSPIE).toNat)
        bitSPIE 1 1) bitSPP 1 0) bitMPRV 1 0 }

/-- R329, R333: is a resident form accepted? -/
def DirEntry.accepted (d : DirEntry) (accept : Option (FormKind × Digest)) : Bool :=
  match accept with
  | none => true
  | some a => d.kind == a.1 && d.content == a.2

/-- R328: the fields of sepc and mepc. -/
def epcMask : Word := 0xFFFFFF0001FFFFFF#64

/-- R48: the fields of kpfx. -/
def kpfxMask : BitVec 32 := 0xFFFF8F80#32

/-- R48: kpfx with a number's fields; F3 and OPC are fixed. -/
def readKpfx (n : Nat) : BitVec 32 := (BitVec.ofNat 32 n &&& kpfxMask) ||| 0x300B#32

/-- R329: the return of the issuing strand from a trap of a level: it resumes in an accepted resident form, or waits for
one to be fetched. -/
def State.returnTrap (s : State) (machine : Bool) : Except Stop State :=
  let c := s.here
  let i := s.cur
  let t := s.me
  let p := if machine then t.mepc else t.sepc
  match s.readData (s.deviceCtx c) i (t.ctxbase + trapLineOffset machine) 56 with
  | .error e => .error e
  | .ok (s1, line) =>
    match s1.returnRecord (s1.xctx c i) i (field p 40 24) none p with
    | .error e => .error e
    | .ok (s2, r) =>
      let dig := BitVec.ofNat 256 (recNat line 0x10 32)
      let kind : FormKind := if p.getLsbD 24 then .native else .portable
      let accept := if dig = 0 then none else some (kind, dig)
      let digest := recDigest r
      let l := clusterOf c
      let resident := (s2.cluster l).lookup digest (s2.core c).vfNow
      match resident.filter (fun e => e.2.accepted accept) with
      | some (e, _) =>
        .ok ((s2.modStrand c i (fun t =>
          { (t.leaveLevel machine).writeX 3#5 (recWord line 0x30) with
            pp := line.headD 0 |>.getLsbD 0
            kpfx := readKpfx (recNat line 8 8)
            curdir := p.extractLsb' 40 24
            fpc := p.extractLsb' 0 24
            pos := .inForm e
            park := none
            instret := t.instret + 1 })).markLast l e).tally
      | none =>
        match s2.startFetch c digest (accept.isNone && recPortOnly r) accept with
        | .error s3 => .error (.trap causeCodePermission (digestTval digest) s3)
        | .ok s3 => .error (.wait (.fetch digest none) s3)

/-! ## Retiring -/

/-- R28: the issuing strand's instruction of `n` bytes retires. -/
def State.retire (s : State) (n : Nat) : State :=
  (s.modMe (fun t =>
    { t with fpc := t.fpc + BitVec.ofNat 24 n, instret := t.instret + 1, park := none, failedWalks := [] })).tally

/-- R28: the issuing strand's instruction retires with a transfer to an offset of its form. -/
def State.retireAt (s : State) (target : BitVec 24) : State :=
  (s.modMe (fun t => { t with fpc := target, instret := t.instret + 1, park := none, failedWalks := [] })).tally

/-- What a meaning that may end early leaves: its state, the trap taken, or the strand parked. -/
def State.outcome (r : Except Stop State) (here cur : Nat) : Host.Outcome State Fault Refusal :=
  match r with
  | .ok s => .next s
  | .error (.trap cause tval s) => .next (s.takeTrap here cur cause tval)
  | .error (.wait p s) => .next (s.modStrand here cur (fun t => { t with park := some p }))

/-- The illegal-instruction exception of the issuing instruction (R25). -/
def State.illegal (s : State) : Stop := .trap causeIllegal s.currentWord s

/-- R109: the exception of an instruction that the pending prefix may not govern; PP is cleared. -/
def State.illegalPrefix (s : State) : Stop := .trap causeIllegal s.currentWord (s.modMe (fun t => { t with pp := false }))

/-- R109: an instruction that accepts no prefix. -/
def State.plain (s : State) (f : State → Except Stop State) : Host.Outcome State Fault Refusal :=
  State.outcome (if s.me.pp then .error s.illegalPrefix else f s) s.here s.cur

/-- An instruction that accepts no prefix, always completes, and goes on with the next instruction, `n` bytes on. -/
def State.straight (s : State) (n : Nat) (f : State → State) : Host.Outcome State Fault Refusal :=
  s.plain (fun s => .ok ((f s).retire n))

/-- An instruction that accepts no prefix and, where it completes, goes on with the next one. -/
def State.checked (s : State) (n : Nat) (f : State → Except Stop State) : Host.Outcome State Fault Refusal :=
  s.plain (fun s => (f s).map (·.retire n))

/-! ## The prefix (R38, R48, R109) -/

/-- The fields of a pending prefix word. -/
structure Prefix where
  fmt1 : BitVec 5
  fmt2 : BitVec 5
  n : BitVec 5
  smode : BitVec 2
  sreg : BitVec 5
  deriving DecidableEq, Repr

/-- R48: the fields of a prefix word. -/
def Prefix.ofWord (w : BitVec 32) : Prefix :=
  { fmt1 := w.extractLsb' 7 5, fmt2 := w.extractLsb' 15 5, n := w.extractLsb' 27 5, smode := w.extractLsb' 25 2,
    sreg := w.extractLsb' 20 5 }

/-- R38: are the fields of a prefix legal? -/
def Prefix.legal (p : Prefix) : Bool :=
  p.fmt1.toNat < 12 && p.fmt2.toNat < 12 && [0, 6, 8, 12, 16].contains p.n.toNat &&
    (if p.smode = 0#2 then p.sreg == 0 else if p.smode = 3#2 then true else p.sreg != 0)

/-- The prefix pending for a strand. -/
def Strand.prefix? (t : Strand) : Option Prefix := if t.pp then some (Prefix.ofWord t.kpfx) else none

/-- R48, R109: an instruction that accepts the prefixes that `ok` does, and goes on with the next instruction. PP is
cleared when it retires. -/
def State.governed (s : State) (ok : Prefix → Bool) (f : Option Prefix → State → Except Stop State) :
    Host.Outcome State Fault Refusal :=
  let r : Except Stop State :=
    match s.me.prefix? with
    | none => (f none s).map (·.retire 4)
    | some p =>
      if p.legal && ok p then (f (some p) s).map (fun s => (s.modMe (fun t => { t with pp := false })).retire 4)
      else .error s.illegalPrefix
  State.outcome r s.here s.cur

/-! ## Privilege (R25, R113) -/

/-- The order of privileges. -/
def Priv.rank : Priv → Nat
  | .user => 0
  | .supervisor => 1
  | .machine => 3

/-- An instruction that its condition excludes is illegal, before anything else (R25). -/
def State.require (s : State) (ok : Bool) (f : State → Except Stop State) : Except Stop State :=
  if ok then f s else .error s.illegal

/-! ## Data accesses -/

/-- R232: does a TLB hold the page of an access? In the deferred mode a miss waits for its walk. -/
def State.tlbHit (s : State) (x : XCtx) (va : Word) : Bool :=
  x.bare || inWindow va || va.toInt < -(2 ^ 47) || 2 ^ 47 ≤ va.toInt || (s.tlbEntry x va).isSome

/-- R232, R258: the first page of a range whose walk has still to be made, by the issuing strand. -/
def State.walkNeeded (s : State) (x : XCtx) (va : Word) (n : Nat) : Option Word :=
  if s.deferred then
    ((pageChunks (n / 4096 + 2) va n).map (·.1)).find? (fun v => !s.tlbHit x v && !s.me.failedWalks.contains v)
  else none

/-- R232: the walks under way, and those that wait for a walker, in the order of their arrival. -/
def State.liveWalks (s : State) : List (Nat × Nat) :=
  s.walks.filter (fun w => match (s.strand w.1 w.2).park with
    | some (.walk _ _) => true
    | _ => false)

/-- R232: the issuing strand waits for the walk of a page. -/
def State.waitWalk (s : State) (v : Word) (a : Access) : Stop :=
  .wait (.walk v (a == .store)) { s with walks := s.liveWalks ++ [(s.here, s.cur)] }

/-- An access to data of the issuing strand: its bytes translated and on the die, or how it ends early (R32, R236). -/
def State.reach (s : State) (a : Access) (va : Word) (n : Nat) : Except Stop (State × List Nat) :=
  let x := s.xctx s.here s.cur
  match s.walkNeeded x va n with
  | some v => .error (s.waitWalk v a)
  | none =>
    match s.translate x a va n with
    | .error f => .error (f.stop a s)
    | .ok (s1, locs) =>
      match s1.onDie locs with
      | .error va => .error (.trap causeIntegrity va s)
      | .ok s2 => .ok (s2.refreshSources s2.here s2.cur, locs)

/-- R244, R264: does an outstanding load or atomic of the issuing strand come before an access to these bytes? A plain load
does before one to its own bytes; a commutative atomic, whose store comes before every later store, before a store to any
bytes; an unpaired atomic before none. -/
def State.comesFirst (s : State) (a : Access) (locs : List Nat) : Bool :=
  s.me.pending.any (fun p =>
    let use := p.atomic.map (·.use)
    use != some 2#2 && ((use == some 1#2 && a == .store && !p.todo.isEmpty) ||
      p.todo.any (fun q => q.2.any (fun l => locs.contains l))))

/-- R264: an access that takes its place in the order of the strand as it issues: as `reach`, once what comes first has
performed. -/
def State.access (s : State) (a : Access) (va : Word) (n : Nat) : Except Stop (State × List Nat) :=
  match s.reach a va n with
  | .error e => .error e
  | .ok (s1, locs) => if a = .store ∧ s.comesFirst a locs then .error (.wait .results s) else .ok (s1, locs)

/-- The locations of a load of the issuing strand, which are neither poisoned nor owned (R229, R269). -/
def State.loadLocs (s : State) (va : Word) (n : Nat) : Except Stop (State × List Nat) :=
  match s.access .load va n with
  | .error e => .error e
  | .ok (s1, locs) =>
    match s1.ownedLine locs with
    | some line => .error (.wait (.ownedLine line) s)
    | none => if s1.poisonedAt locs then .error (.trap causeMemory va s) else .ok (s1, locs)

/-- The bytes that the issuing strand reads. -/
def State.bytesOf (s : State) (locs : List Nat) : List Byte := locs.map (s.readByte (.strand s.here s.cur))

/-- A load of the issuing strand that is performed as it issues. -/
def State.loadNow (s : State) (va : Word) (n : Nat) : Except Stop (State × List Byte) :=
  match s.loadLocs va n with
  | .error e => .error e
  | .ok (s1, locs) => if s.comesFirst .load locs then .error (.wait .results s) else .ok (s1, s1.bytesOf locs)

/-- The value of a scalar load of `bits` bits. -/
def extendTo (bits : Nat) (signed : Bool) (bs : List Byte) : Word :=
  let v := leNat bs % 2 ^ bits
  if signed then (BitVec.ofNat bits v).signExtend 64 else BitVec.ofNat 64 v

/-- R106: an outstanding result of the issuing strand. -/
def State.await (s : State) (p : Pending) : State := s.modMe (fun t => { t with pending := t.pending ++ [p] })

/-- R106: a load of the issuing strand that is outstanding, `bits` wide, with the parts that perform in one step each. -/
def State.awaitLoad (s : State) (dst : Dst) (parts : List (List Nat)) (bits : Nat) (signed : Bool) (la : Nat) : State :=
  let n := (parts.map List.length).foldl (· + ·) 0
  s.await
    { dst := dst
      todo := (parts.foldl (fun (r : Nat × List (Nat × List Nat)) p => (r.1 + p.length, r.2 ++ [(r.1, p)])) (0, [])).2
      got := List.replicate n 0, bits := bits, signed := signed, window := la, queued := false }

/-- R106: a result of the issuing strand that is known and outstanding. -/
def State.awaitKnown (s : State) (dst : Dst) (bs : List Byte) (la : Nat) : State :=
  s.await { dst := dst, todo := [], got := bs, bits := 64, signed := false, window := la, queued := false }

/-- The strand with a result written to its destination. -/
def Strand.result (t : Strand) (dst : Dst) (bits : Nat) (signed : Bool) (bs : List Byte) : Strand :=
  match dst with
  | .discard => t
  | .x rd => t.writeX rd (extendTo bits signed bs)
  | .v vd => t.writeV vd (lineOf bs)
  | .pair rd => (t.writeX (rd ++ 0#1) (wordOf bs)).writeX (rd ++ 1#1) (wordOf (bs.drop 8))

/-- R106: the first of a strand's outstanding results that a queue entry brings to a destination, taken away. -/
def dropQueued (dst : Dst) : List Pending → List Pending
  | [] => []
  | p :: ps => if p.queued && p.dst == dst then ps else p :: dropQueued dst ps

/-- R107, R189: the result of a queue entry of a strand arrives as the entry completes. -/
def Strand.settleQueued (t : Strand) (dst : Dst) (bs : List Byte) : Strand :=
  if t.pending.any (fun p => p.queued && p.dst == dst) then
    { (t.result dst 64 false bs) with pending := dropQueued dst t.pending }
  else t

/-- R32, R217: the parts of a scalar access: a naturally aligned one is one step, any other one step per byte. -/
def scalarParts (va : Word) (locs : List Nat) : List (List Nat) :=
  if va.toNat % locs.length = 0 then [locs] else locs.map (fun l => [l])

/-- R32: a scalar load of `n` bytes into rd, with lookahead `la`. -/
def State.loadScalar (s : State) (rd : BitVec 5) (va : Word) (n : Nat) (signed : Bool) (la : Nat) : Except Stop State :=
  match s.loadLocs va n with
  | .error e => .error e
  | .ok (s1, locs) =>
    if s1.deferred then .ok (s1.awaitLoad (.x rd) (scalarParts va locs) (8 * n) signed la)
    else .ok (s1.writeX rd (extendTo (8 * n) signed (s1.bytesOf locs)))

/-- R32, R264: a store of the issuing strand enters its store buffer. -/
def State.storeBytes (s : State) (va : Word) (bs : List Byte) : Except Stop State :=
  match s.access .store va bs.length with
  | .error e => .error e
  | .ok (s1, locs) => .ok (s1.modMe (·.pushStore (locs.zip bs)))

/-- A long-latency result of the issuing strand that is known at once: written now, or outstanding in the deferred
mode (R106). -/
def State.deliverX (s : State) (rd : BitVec 5) (w : Word) (la : Nat) : State :=
  if s.deferred then s.awaitKnown (.x rd) (leBytes 8 w.toNat) la else s.writeX rd w

/-- As `deliverX`, for a v register. -/
def State.deliverV (s : State) (vd : BitVec 5) (l : Line) (la : Nat) : State :=
  if s.deferred then s.awaitKnown (.v vd) (lineBytes l) la else s.writeV vd l

/-- R107: no vector-queue entry of the strand is queued or bound. -/
def State.vectorIdle (s : State) (c i : Nat) : Bool :=
  (s.core c).vqueue.all (fun e => e.strand != i) &&
    (s.bench (benchOf c)).groups.toList.all (fun g => match g with
      | some b => !(b.core == c && b.entry.strand == i)
      | none => true)

/-- R106: every outstanding result of the strand has arrived. -/
def State.resultsIn (s : State) (c i : Nat) : Bool := (s.strand c i).pending.isEmpty && s.vectorIdle c i

end Sys2Proof.Machine
end

