-- ==== Sys2Proof/Machine/Operands.lean ====
section
/-! DEFINITION. Operand forms of the standard subset: immediates, the registers of compressed forms, transfers within a
form, and the integer arithmetic that a word does not have of itself (R27, R28, R34). -/

namespace Sys2Proof.Machine

/-! ## Immediates -/

/-- A 12-bit immediate, sign-extended. -/
def imm12 (i : BitVec 12) : Word := i.signExtend 64

/-- The immediate of lui and auipc. -/
def imm20 (i : BitVec 20) : Word := (i ++ 0#12).signExtend 64

/-- A branch offset, held without its low zero bit. -/
def branchOffset (i : BitVec 12) : Word := (i ++ 0#1).signExtend 64

/-- A jal offset, held without its low zero bit. -/
def jumpOffset (i : BitVec 20) : Word := (i ++ 0#1).signExtend 64

/-- The signed immediate of a compressed form. -/
def imm6 (i : BitVec 6) : Word := i.signExtend 64

/-- The immediate of c.lui. -/
def immCLui (i : BitVec 6) : Word := (i ++ 0#12).signExtend 64

/-- The immediate of c.addi16sp. -/
def immC16sp (i : BitVec 6) : Word := (i ++ 0#4).signExtend 64

/-- The offset of c.j. -/
def immCJ (i : BitVec 11) : Word := (i ++ 0#1).signExtend 64

/-- The offset of c.beqz and c.bnez. -/
def immCB (i : BitVec 8) : Word := (i ++ 0#1).signExtend 64

/-- An unsigned compressed offset in units of 4 bytes. -/
def uoff4 {n : Nat} (i : BitVec n) : Word := (i ++ 0#2).setWidth 64

/-- An unsigned compressed offset in units of 8 bytes. -/
def uoff8 {n : Nat} (i : BitVec n) : Word := (i ++ 0#3).setWidth 64

/-- The x register of a three-bit compressed field: x8 to x15. -/
def creg (r : BitVec 3) : BitVec 5 := 1#2 ++ r

/-- The stack pointer. -/
def sp : BitVec 5 := 2#5

/-- The register of return handles. -/
def ra : BitVec 5 := 1#5

/-! ## Transfers within a form (R28) -/

/-- R28: the length of the form that the issuing strand executes in. -/
def State.funcLength (s : State) : Nat := (s.code s.here s.cur).length

/-- R28: FPC as a word. -/
def State.fpcWord (s : State) : Word := s.me.fpc.setWidth 64

/-- R28: a transfer of the issuing strand, with a link register when there is one. -/
def State.jumpTo (s : State) (link : Option (BitVec 5)) (n : Nat) (target : Word) : Except Stop State :=
  if target.toInt < 0 ∨ (s.funcLength : Int) ≤ target.toInt then .error (.trap causeCodeBound target s)
  else
    let s1 := match link with
      | some rd => s.writeX rd (s.fpcWord + BitVec.ofNat 64 n)
      | none => s
    .ok (s1.retireAt (target.setWidth 24))

/-- R28: a conditional branch of `n` bytes. -/
def State.branchIf (s : State) (taken : Bool) (offset : Word) (n : Nat) : Except Stop State :=
  if taken then s.jumpTo none n (s.fpcWord + offset) else .ok (s.retire n)

/-! ## Arithmetic -/

/-- The result of a 32-bit operation in a 64-bit register. -/
def sextW (w : BitVec 32) : Word := w.signExtend 64

/-- The low half of a word. -/
def lowW (w : Word) : BitVec 32 := w.extractLsb' 0 32

/-- 1 or 0. -/
def boolWord (b : Bool) : Word := if b then 1 else 0

/-- The high half of a product of signed factors. -/
def mulHigh (a b : Word) : Word := (a.signExtend 128 * b.signExtend 128).extractLsb' 64 64

/-- The high half of a product of a signed and an unsigned factor. -/
def mulHighSU (a b : Word) : Word := (a.signExtend 128 * b.setWidth 128).extractLsb' 64 64

/-- The high half of a product of unsigned factors. -/
def mulHighU (a b : Word) : Word := (a.setWidth 128 * b.setWidth 128).extractLsb' 64 64

/-- A signed quotient: -1 on division by 0; the dividend where the quotient does not fit. -/
def divS {n : Nat} (a b : BitVec n) : BitVec n := if b = 0 then BitVec.allOnes n else a.sdiv b

/-- An unsigned quotient: all ones on division by 0. -/
def divU {n : Nat} (a b : BitVec n) : BitVec n := if b = 0 then BitVec.allOnes n else a / b

/-- A signed remainder: the dividend on division by 0. -/
def remS {n : Nat} (a b : BitVec n) : BitVec n := if b = 0 then a else a.srem b

/-- An unsigned remainder: the dividend on division by 0. -/
def remU {n : Nat} (a b : BitVec n) : BitVec n := if b = 0 then a else a % b

end Sys2Proof.Machine
end

