-- ==== Sys2Proof/Machine/Hazards.lean ====
section
/-! DEFINITION. The registers that each instruction reads and writes, and the dependence of an instruction on those
before it (R106, R107, R189, R380). -/

namespace Sys2Proof.Machine

/-- R106: the registers that count for dependence. -/
inductive Res where
  | x (r : BitVec 5)
  | v (r : BitVec 5)
  | p (r : BitVec 3)
  | q (r : BitVec 3)
  | csr (n : BitVec 12)
  deriving DecidableEq, Repr

/-- The registers that an instruction reads. A fence reads none, whatever its fields hold (R29). -/
def readsOf (i : Instr) : List Res :=
  match i with
  | .vadd _ vs1 vs2 pg _ => [.v vs1, .v vs2, .p (pg.setWidth 3)]
  | .vsub _ vs1 vs2 pg _ => [.v vs1, .v vs2, .p (pg.setWidth 3)]
  | .vmul _ vs1 vs2 pg _ => [.v vs1, .v vs2, .p (pg.setWidth 3)]
  | .vmulh _ vs1 vs2 pg _ => [.v vs1, .v vs2, .p (pg.setWidth 3)]
  | .vmulhn _ vs1 vs2 pg _ => [.v vs1, .v vs2, .p (pg.setWidth 3)]
  | .vand _ vs1 vs2 pg _ => [.v vs1, .v vs2, .p (pg.setWidth 3)]
  | .vor _ vs1 vs2 pg _ => [.v vs1, .v vs2, .p (pg.setWidth 3)]
  | .vxor _ vs1 vs2 pg _ => [.v vs1, .v vs2, .p (pg.setWidth 3)]
  | .vshl _ vs1 vs2 pg _ => [.v vs1, .v vs2, .p (pg.setWidth 3)]
  | .vshr _ vs1 vs2 pg _ => [.v vs1, .v vs2, .p (pg.setWidth 3)]
  | .vsra _ vs1 vs2 pg _ => [.v vs1, .v vs2, .p (pg.setWidth 3)]
  | .vmin _ vs1 vs2 pg _ => [.v vs1, .v vs2, .p (pg.setWidth 3)]
  | .vmax _ vs1 vs2 pg _ => [.v vs1, .v vs2, .p (pg.setWidth 3)]
  | .vminn _ vs1 vs2 pg _ => [.v vs1, .v vs2, .p (pg.setWidth 3)]
  | .vmaxn _ vs1 vs2 pg _ => [.v vs1, .v vs2, .p (pg.setWidth 3)]
  | .vadds _ vs1 vs2 pg _ => [.v vs1, .v vs2, .p (pg.setWidth 3)]
  | .vaddi _ vs1 pg _ _ => [.v vs1, .p (pg.setWidth 3)]
  | .vshli _ vs1 pg _ _ => [.v vs1, .p (pg.setWidth 3)]
  | .vshri _ vs1 pg _ _ => [.v vs1, .p (pg.setWidth 3)]
  | .vsrai _ vs1 pg _ _ => [.v vs1, .p (pg.setWidth 3)]
  | .vcmpeq _ vs1 vs2 pg _ => [.v vs1, .v vs2, .p (pg.setWidth 3)]
  | .vcmplt _ vs1 vs2 pg _ => [.v vs1, .v vs2, .p (pg.setWidth 3)]
  | .vcmple _ vs1 vs2 pg _ => [.v vs1, .v vs2, .p (pg.setWidth 3)]
  | .vcmpltn _ vs1 vs2 pg _ => [.v vs1, .v vs2, .p (pg.setWidth 3)]
  | .vcnt _ vs1 pg _ => [.v vs1, .p (pg.setWidth 3)]
  | .vclz _ vs1 pg _ => [.v vs1, .p (pg.setWidth 3)]
  | .vredsum _ vs1 pg _ => [.v vs1, .p (pg.setWidth 3)]
  | .vredmax _ vs1 pg _ => [.v vs1, .p (pg.setWidth 3)]
  | .vredmin _ vs1 pg _ => [.v vs1, .p (pg.setWidth 3)]
  | .vsel _ vs1 vs2 pg _ => [.v vs1, .v vs2, .p (pg.setWidth 3)]
  | .vmovi _ pg _ _ => [.p (pg.setWidth 3)]
  | .vmacc _ vs1 vs2 pg _ => [.v vs1, .v vs2, .p (pg.setWidth 3)]
  | .vfadd _ vs1 vs2 pg _ => [.v vs1, .v vs2, .p (pg.setWidth 3)]
  | .vfsub _ vs1 vs2 pg _ => [.v vs1, .v vs2, .p (pg.setWidth 3)]
  | .vfmul _ vs1 vs2 pg _ => [.v vs1, .v vs2, .p (pg.setWidth 3)]
  | .vfma _ vs1 vs2 pg _ => [.v vs1, .v vs2, .p (pg.setWidth 3)]
  | .vfms _ vs1 vs2 pg _ => [.v vs1, .v vs2, .p (pg.setWidth 3)]
  | .vfdiv _ vs1 vs2 pg _ => [.v vs1, .v vs2, .p (pg.setWidth 3)]
  | .vfsqrt _ vs1 pg _ => [.v vs1, .p (pg.setWidth 3)]
  | .vfmin _ vs1 vs2 pg _ => [.v vs1, .v vs2, .p (pg.setWidth 3)]
  | .vfmax _ vs1 vs2 pg _ => [.v vs1, .v vs2, .p (pg.setWidth 3)]
  | .vfabs _ vs1 pg _ => [.v vs1, .p (pg.setWidth 3)]
  | .vfneg _ vs1 pg _ => [.v vs1, .p (pg.setWidth 3)]
  | .vfexp2 _ vs1 pg _ => [.v vs1, .p (pg.setWidth 3)]
  | .vflog2 _ vs1 pg _ => [.v vs1, .p (pg.setWidth 3)]
  | .vfrcp _ vs1 pg _ => [.v vs1, .p (pg.setWidth 3)]
  | .vfcmpeq _ vs1 vs2 pg _ => [.v vs1, .v vs2, .p (pg.setWidth 3)]
  | .vfcmplt _ vs1 vs2 pg _ => [.v vs1, .v vs2, .p (pg.setWidth 3)]
  | .vfcmple _ vs1 vs2 pg _ => [.v vs1, .v vs2, .p (pg.setWidth 3)]
  | .vfcmpun _ vs1 vs2 pg _ => [.v vs1, .v vs2, .p (pg.setWidth 3)]
  | .vfredsum _ vs1 pg _ => [.v vs1, .p (pg.setWidth 3)]
  | .vfredmax _ vs1 pg _ => [.v vs1, .p (pg.setWidth 3)]
  | .vfredmin _ vs1 pg _ => [.v vs1, .p (pg.setWidth 3)]
  | .vfcvt _ vs1 pg _ _ => [.v vs1, .p (pg.setWidth 3)]
  | .vfcvti _ vs1 pg _ _ => [.v vs1, .p (pg.setWidth 3)]
  | .vicvtf _ vs1 pg _ _ => [.v vs1, .p (pg.setWidth 3)]
  | .vfwmacc _ vs1 vs2 pg _ => [.v vs1, .v vs2, .p (pg.setWidth 3)]
  | .vfclass _ vs1 pg _ => [.v vs1, .p (pg.setWidth 3)]
  | .vfround _ vs1 pg _ => [.v vs1, .p (pg.setWidth 3)]
  | .vfscale _ vs1 vs2 pg _ => [.v vs1, .v vs2, .p (pg.setWidth 3)]
  | .vfrsqrt _ vs1 pg _ => [.v vs1, .p (pg.setWidth 3)]
  | .vfmaxnum _ vs1 vs2 pg _ => [.v vs1, .v vs2, .p (pg.setWidth 3)]
  | .vmoviF _ pg _ _ => [.p (pg.setWidth 3)]
  | .vfminnum _ vs1 vs2 pg _ => [.v vs1, .v vs2, .p (pg.setWidth 3)]
  | .vbcast _ rs1 _ => [.x rs1]
  | .vext _ vs1 rs2 _ => [.v vs1, .x rs2]
  | .vins _ rs1 rs2 _ => [.x rs1, .x rs2]
  | .vperm _ vs1 vs2 _ => [.v vs1, .v vs2]
  | .vslideup _ vs1 rs2 _ => [.v vs1, .x rs2]
  | .vslidedn _ vs1 rs2 _ => [.v vs1, .x rs2]
  | .vzip _ vs1 vs2 _ => [.v vs1, .v vs2]
  | .vunzip _ vs1 _ => [.v vs1]
  | .vrev _ vs1 _ => [.v vs1]
  | .vcompress _ vs1 ps2 _ => [.v vs1, .p ps2]
  | .pand _ ps1 ps2 => [.p ps1, .p ps2]
  | .por _ ps1 ps2 => [.p ps1, .p ps2]
  | .pxor _ ps1 ps2 => [.p ps1, .p ps2]
  | .pnot _ ps1 => [.p ps1]
  | .pwhile _ rs1 rs2 _ => [.x rs1, .x rs2]
  | .pcount _ ps1 _ => [.p ps1]
  | .pfirst _ ps1 _ => [.p ps1]
  | .vqred vd qs1 rs2 _ => [.q qs1, .x rs2, .v vd, .csr 0x808#12]
  | .vmv _ vs1 _ => [.v vs1]
  | .mcfg _ rs1 _ => [.x rs1]
  | .mma _ rs1 rs2 _ => [.x rs1, .x rs2, .csr 0x802#12, .csr 0x803#12, .csr 0x804#12, .csr 0x805#12, .csr 0x806#12]
  | .mmas _ rs1 rs2 _ => [.x rs1, .x rs2, .csr 0x802#12, .csr 0x803#12, .csr 0x804#12, .csr 0x805#12, .csr 0x806#12]
  | .mzero _ _ => [.csr 0x802#12]
  | .mst _ rs1 rs2 _ => [.x rs1, .x rs2, .csr 0x802#12, .csr 0x803#12, .csr 0x804#12, .csr 0x805#12, .csr 0x806#12]
  | .mld _ rs1 rs2 _ => [.x rs1, .x rs2, .csr 0x802#12, .csr 0x803#12, .csr 0x804#12, .csr 0x805#12, .csr 0x806#12]
  | .mrd _ _ rs2 _ => [.x rs2, .csr 0x802#12]
  | .mrec _ rs1 rs2 _ => [.x rs1, .x rs2, .csr 0x802#12, .csr 0x803#12, .csr 0x804#12, .csr 0x805#12, .csr 0x806#12]
  | .mprog _ rs1 => [.x rs1]
  | .mwr _ vs1 rs2 => [.v vs1, .x rs2, .csr 0x802#12]
  | .cvinit _ rs1 rs2 => [.x rs1, .x rs2, .csr 0x802#12]
  | .cvprobe _ vs1 rs2 => [.v vs1, .x rs2, .csr 0x802#12]
  | .cvcommit _ rs1 rs2 => [.x rs1, .x rs2, .csr 0x802#12]
  | .cvgain _ _ => [.csr 0x802#12]
  | .cvclr _ => [.csr 0x802#12]
  | .cvsel _ _ vs2 => [.v vs2, .csr 0x802#12]
  | .cvsave _ rs1 => [.x rs1, .csr 0x802#12]
  | .cvrest _ rs1 => [.x rs1, .csr 0x802#12]
  | .erun _ rs1 rs2 => [.x rs1, .x rs2]
  | .ewait _ rs1 => [.x rs1]
  | .estat _ rs1 => [.x rs1]
  | .qpush qd rs1 => [.q qd, .x rs1]
  | .qpop _ qs1 => [.q qs1]
  | .qpushv qd rs1 => [.v rs1, .q qd]
  | .qpopv _ qs1 => [.q qs1]
  | .qstat _ qs1 => [.q qs1]
  | .qbind _ rs1 => [.x rs1]
  | .vld _ rs1 rs2 _ _ => [.x rs1, .x rs2]
  | .vst vd rs1 rs2 _ _ => [.v vd, .x rs1, .x rs2]
  | .vldx _ rs1 rs2 _ _ => [.x rs1, .v rs2]
  | .vstx vd rs1 rs2 _ _ => [.v vd, .x rs1, .v rs2]
  | .vldl _ rs1 rs2 _ _ => [.x rs1, .x rs2]
  | .vstl vd rs1 rs2 _ _ => [.v vd, .x rs1, .x rs2]
  | .vldk _ rs1 rs2 _ _ => [.x rs1, .x rs2]
  | .vldt _ rs1 rs2 _ _ => [.x rs1, .x rs2]
  | .ldk _ rs1 rs2 _ => [.x rs1, .x rs2]
  | .ldt _ rs1 rs2 _ => [.x rs1, .x rs2]
  | .rld _ rs1 rs2 _ => [.x rs1, .x rs2]
  | .rst rd rs1 rs2 _ => [.x rd, .v rd, .x rs1, .x rs2]
  | .gst rd rs1 rs2 _ => [.x rd, .v rd, .x rs1, .x rs2]
  | .ksend _ rs1 rs2 _ => [.x rs1, .x rs2]
  | .famoAddBf16x2 _ rs1 rs2 _ => [.x rs1, .x rs2]
  | .famoAddF16x2 _ rs1 rs2 _ => [.x rs1, .x rs2]
  | .famoAddF32 _ rs1 rs2 _ => [.x rs1, .x rs2]
  | .famoAddF64 _ rs1 rs2 _ => [.x rs1, .x rs2]
  | .famoMinBf16x2 _ rs1 rs2 _ => [.x rs1, .x rs2]
  | .famoMinF16x2 _ rs1 rs2 _ => [.x rs1, .x rs2]
  | .famoMinF32 _ rs1 rs2 _ => [.x rs1, .x rs2]
  | .famoMinF64 _ rs1 rs2 _ => [.x rs1, .x rs2]
  | .famoMaxBf16x2 _ rs1 rs2 _ => [.x rs1, .x rs2]
  | .famoMaxF16x2 _ rs1 rs2 _ => [.x rs1, .x rs2]
  | .famoMaxF32 _ rs1 rs2 _ => [.x rs1, .x rs2]
  | .famoMaxF64 _ rs1 rs2 _ => [.x rs1, .x rs2]
  | .cas128 rd rs1 rs2 _ => [.x rs1, .x (rs2 ++ 0#1), .x (rs2 ++ 1#1), .x (rd ++ 0#1), .x (rd ++ 1#1)]
  | .iaddD _ rs1 rs2 _ => [.x rs1, .x rs2]
  | .iaddW _ rs1 rs2 _ => [.x rs1, .x rs2]
  | .iorD _ rs1 rs2 _ => [.x rs1, .x rs2]
  | .iandD _ rs1 rs2 _ => [.x rs1, .x rs2]
  | .sldAcq _ rs1 _ => [.x rs1]
  | .sstRel rs1 rs2 _ => [.x rs1, .x rs2]
  | .bmask _ rs1 rs2 => [.x rs1, .x rs2]
  | .tickw _ rs1 => [.x rs1]
  | .abarr _ rs1 rs2 => [.x rs1, .x rs2]
  | .abwait _ rs1 => [.x rs1]
  | .abinit _ rs1 rs2 => [.x rs1, .x rs2]
  | .gsel _ rs1 => [.x rs1]
  | .gcommit _ rs1 rs2 => [.x rs1, .x rs2]
  | .gabort _ rs1 => [.x rs1]
  | .gstat _ rs1 rs2 => [.x rs1, .x rs2]
  | .tset _ rs1 rs2 => [.x rs1, .x rs2]
  | .tmode _ rs1 rs2 => [.x rs1, .x rs2]
  | .kbin _ rs1 rs2 => [.x rs1, .x rs2]
  | .jrnl _ rs1 rs2 => [.x rs1, .x rs2]
  | .callh rs1 => [.x rs1]
  | .tcallh rs1 => [.x rs1]
  | .reth rs1 => [.x rs1]
  | .start _ rs1 rs2 => [.x rs1, .x rs2]
  | .hjoin _ rs1 => [.x rs1]
  | .launch _ rs1 => [.x rs1]
  | .lpoll _ rs1 => [.x rs1]
  | .sysc _ rs1 _ => [.x rs1]
  | .sysw _ rs1 => [.x rs1]
  | .nfy _ rs1 rs2 => [.x rs1, .x rs2]
  | .cprobe _ rs1 rs2 => [.x rs1, .x rs2]
  | .cpin _ rs1 => [.x rs1]
  | .cunpin _ rs1 => [.x rs1]
  | .cevict _ rs1 => [.x rs1]
  | .ctxflush _ rs1 => [.x rs1]
  | .ctxload _ rs1 => [.x rs1]
  | .wsw _ rs1 rs2 => [.x rs1, .x rs2]
  | .waitev _ rs1 rs2 => [.x rs1, .x rs2]
  | .mark rs1 => [.x rs1]
  | .jalr _ rs1 _ => [.x rs1]
  | .beq rs1 rs2 _ => [.x rs1, .x rs2]
  | .bne rs1 rs2 _ => [.x rs1, .x rs2]
  | .blt rs1 rs2 _ => [.x rs1, .x rs2]
  | .bge rs1 rs2 _ => [.x rs1, .x rs2]
  | .bltu rs1 rs2 _ => [.x rs1, .x rs2]
  | .bgeu rs1 rs2 _ => [.x rs1, .x rs2]
  | .lb _ rs1 _ => [.x rs1]
  | .lh _ rs1 _ => [.x rs1]
  | .lw _ rs1 _ => [.x rs1]
  | .ld _ rs1 _ => [.x rs1]
  | .lbu _ rs1 _ => [.x rs1]
  | .lhu _ rs1 _ => [.x rs1]
  | .lwu _ rs1 _ => [.x rs1]
  | .sb rs1 rs2 _ => [.x rs1, .x rs2]
  | .sh rs1 rs2 _ => [.x rs1, .x rs2]
  | .sw rs1 rs2 _ => [.x rs1, .x rs2]
  | .sd rs1 rs2 _ => [.x rs1, .x rs2]
  | .addi _ rs1 _ => [.x rs1]
  | .slti _ rs1 _ => [.x rs1]
  | .sltiu _ rs1 _ => [.x rs1]
  | .xori _ rs1 _ => [.x rs1]
  | .ori _ rs1 _ => [.x rs1]
  | .andi _ rs1 _ => [.x rs1]
  | .slli _ rs1 _ => [.x rs1]
  | .srli _ rs1 _ => [.x rs1]
  | .srai _ rs1 _ => [.x rs1]
  | .addiw _ rs1 _ => [.x rs1]
  | .slliw _ rs1 _ => [.x rs1]
  | .srliw _ rs1 _ => [.x rs1]
  | .sraiw _ rs1 _ => [.x rs1]
  | .add _ rs1 rs2 => [.x rs1, .x rs2]
  | .sll _ rs1 rs2 => [.x rs1, .x rs2]
  | .slt _ rs1 rs2 => [.x rs1, .x rs2]
  | .sltu _ rs1 rs2 => [.x rs1, .x rs2]
  | .xor _ rs1 rs2 => [.x rs1, .x rs2]
  | .srl _ rs1 rs2 => [.x rs1, .x rs2]
  | .or _ rs1 rs2 => [.x rs1, .x rs2]
  | .and _ rs1 rs2 => [.x rs1, .x rs2]
  | .sub _ rs1 rs2 => [.x rs1, .x rs2]
  | .sra _ rs1 rs2 => [.x rs1, .x rs2]
  | .mul _ rs1 rs2 => [.x rs1, .x rs2]
  | .mulh _ rs1 rs2 => [.x rs1, .x rs2]
  | .mulhsu _ rs1 rs2 => [.x rs1, .x rs2]
  | .mulhu _ rs1 rs2 => [.x rs1, .x rs2]
  | .div _ rs1 rs2 => [.x rs1, .x rs2]
  | .divu _ rs1 rs2 => [.x rs1, .x rs2]
  | .rem _ rs1 rs2 => [.x rs1, .x rs2]
  | .remu _ rs1 rs2 => [.x rs1, .x rs2]
  | .addw _ rs1 rs2 => [.x rs1, .x rs2]
  | .sllw _ rs1 rs2 => [.x rs1, .x rs2]
  | .srlw _ rs1 rs2 => [.x rs1, .x rs2]
  | .subw _ rs1 rs2 => [.x rs1, .x rs2]
  | .sraw _ rs1 rs2 => [.x rs1, .x rs2]
  | .mulw _ rs1 rs2 => [.x rs1, .x rs2]
  | .divw _ rs1 rs2 => [.x rs1, .x rs2]
  | .divuw _ rs1 rs2 => [.x rs1, .x rs2]
  | .remw _ rs1 rs2 => [.x rs1, .x rs2]
  | .remuw _ rs1 rs2 => [.x rs1, .x rs2]
  | .lrW _ rs1 _ _ => [.x rs1]
  | .lrD _ rs1 _ _ => [.x rs1]
  | .scW _ rs1 rs2 _ _ => [.x rs1, .x rs2]
  | .scD _ rs1 rs2 _ _ => [.x rs1, .x rs2]
  | .amoswapW _ rs1 rs2 _ _ => [.x rs1, .x rs2]
  | .amoswapD _ rs1 rs2 _ _ => [.x rs1, .x rs2]
  | .amoaddW _ rs1 rs2 _ _ => [.x rs1, .x rs2]
  | .amoaddD _ rs1 rs2 _ _ => [.x rs1, .x rs2]
  | .amoxorW _ rs1 rs2 _ _ => [.x rs1, .x rs2]
  | .amoxorD _ rs1 rs2 _ _ => [.x rs1, .x rs2]
  | .amoandW _ rs1 rs2 _ _ => [.x rs1, .x rs2]
  | .amoandD _ rs1 rs2 _ _ => [.x rs1, .x rs2]
  | .amoorW _ rs1 rs2 _ _ => [.x rs1, .x rs2]
  | .amoorD _ rs1 rs2 _ _ => [.x rs1, .x rs2]
  | .amominW _ rs1 rs2 _ _ => [.x rs1, .x rs2]
  | .amominD _ rs1 rs2 _ _ => [.x rs1, .x rs2]
  | .amomaxW _ rs1 rs2 _ _ => [.x rs1, .x rs2]
  | .amomaxD _ rs1 rs2 _ _ => [.x rs1, .x rs2]
  | .amominuW _ rs1 rs2 _ _ => [.x rs1, .x rs2]
  | .amominuD _ rs1 rs2 _ _ => [.x rs1, .x rs2]
  | .amomaxuW _ rs1 rs2 _ _ => [.x rs1, .x rs2]
  | .amomaxuD _ rs1 rs2 _ _ => [.x rs1, .x rs2]
  | .csrrw _ rs1 csr => [.x rs1, .csr csr]
  | .csrrs _ rs1 csr => [.x rs1, .csr csr]
  | .csrrc _ rs1 csr => [.x rs1, .csr csr]
  | .csrrwi _ csr _ => [.csr csr]
  | .csrrsi _ csr _ => [.csr csr]
  | .csrrci _ csr _ => [.csr csr]
  | .sfenceVma rs1 rs2 => [.x rs1, .x rs2]
  | .cAddi4spn _ _ => [.x sp]
  | .cLw _ rs1 _ => [.x (creg rs1)]
  | .cLd _ rs1 _ => [.x (creg rs1)]
  | .cSw rs2 rs1 _ => [.x (creg rs2), .x (creg rs1)]
  | .cSd rs2 rs1 _ => [.x (creg rs2), .x (creg rs1)]
  | .cAddi rd _ => [.x rd]
  | .cAddiw rd _ => [.x rd]
  | .cAddi16sp _ => [.x sp]
  | .cSrli rd _ => [.x (creg rd)]
  | .cSrai rd _ => [.x (creg rd)]
  | .cAndi rd _ => [.x (creg rd)]
  | .cSub rd rs2 => [.x (creg rd), .x (creg rs2)]
  | .cXor rd rs2 => [.x (creg rd), .x (creg rs2)]
  | .cOr rd rs2 => [.x (creg rd), .x (creg rs2)]
  | .cAnd rd rs2 => [.x (creg rd), .x (creg rs2)]
  | .cSubw rd rs2 => [.x (creg rd), .x (creg rs2)]
  | .cAddw rd rs2 => [.x (creg rd), .x (creg rs2)]
  | .cBeqz rs1 _ => [.x (creg rs1)]
  | .cBnez rs1 _ => [.x (creg rs1)]
  | .cSlli rd _ => [.x rd]
  | .cLwsp _ _ => [.x sp]
  | .cLdsp _ _ => [.x sp]
  | .cJr rs1 => [.x rs1]
  | .cMv _ rs2 => [.x rs2]
  | .cJalr rs1 => [.x rs1]
  | .cAdd rd rs2 => [.x rd, .x rs2]
  | .cSwsp rs2 _ => [.x rs2, .x sp]
  | .cSdsp rs2 _ => [.x rs2, .x sp]
  | _ => []

/-- The registers that an instruction writes. A queued vector
instruction counts as one that writes vround and vfflags, on which CSR instructions depend (R163). -/
def writesOf (i : Instr) : List Res :=
  match i with
  | .vadd vd _ _ _ _ => [.v vd, .csr 0x800#12, .csr 0x801#12]
  | .vsub vd _ _ _ _ => [.v vd, .csr 0x800#12, .csr 0x801#12]
  | .vmul vd _ _ _ _ => [.v vd, .csr 0x800#12, .csr 0x801#12]
  | .vmulh vd _ _ _ _ => [.v vd, .csr 0x800#12, .csr 0x801#12]
  | .vmulhn vd _ _ _ _ => [.v vd, .csr 0x800#12, .csr 0x801#12]
  | .vand vd _ _ _ _ => [.v vd, .csr 0x800#12, .csr 0x801#12]
  | .vor vd _ _ _ _ => [.v vd, .csr 0x800#12, .csr 0x801#12]
  | .vxor vd _ _ _ _ => [.v vd, .csr 0x800#12, .csr 0x801#12]
  | .vshl vd _ _ _ _ => [.v vd, .csr 0x800#12, .csr 0x801#12]
  | .vshr vd _ _ _ _ => [.v vd, .csr 0x800#12, .csr 0x801#12]
  | .vsra vd _ _ _ _ => [.v vd, .csr 0x800#12, .csr 0x801#12]
  | .vmin vd _ _ _ _ => [.v vd, .csr 0x800#12, .csr 0x801#12]
  | .vmax vd _ _ _ _ => [.v vd, .csr 0x800#12, .csr 0x801#12]
  | .vminn vd _ _ _ _ => [.v vd, .csr 0x800#12, .csr 0x801#12]
  | .vmaxn vd _ _ _ _ => [.v vd, .csr 0x800#12, .csr 0x801#12]
  | .vadds vd _ _ _ _ => [.v vd, .csr 0x800#12, .csr 0x801#12]
  | .vaddi vd _ _ _ _ => [.v vd, .csr 0x800#12, .csr 0x801#12]
  | .vshli vd _ _ _ _ => [.v vd, .csr 0x800#12, .csr 0x801#12]
  | .vshri vd _ _ _ _ => [.v vd, .csr 0x800#12, .csr 0x801#12]
  | .vsrai vd _ _ _ _ => [.v vd, .csr 0x800#12, .csr 0x801#12]
  | .vcmpeq pd _ _ _ _ => [.p pd, .csr 0x800#12, .csr 0x801#12]
  | .vcmplt pd _ _ _ _ => [.p pd, .csr 0x800#12, .csr 0x801#12]
  | .vcmple pd _ _ _ _ => [.p pd, .csr 0x800#12, .csr 0x801#12]
  | .vcmpltn pd _ _ _ _ => [.p pd, .csr 0x800#12, .csr 0x801#12]
  | .vcnt vd _ _ _ => [.v vd, .csr 0x800#12, .csr 0x801#12]
  | .vclz vd _ _ _ => [.v vd, .csr 0x800#12, .csr 0x801#12]
  | .vredsum vd _ _ _ => [.v vd, .csr 0x800#12, .csr 0x801#12]
  | .vredmax vd _ _ _ => [.v vd, .csr 0x800#12, .csr 0x801#12]
  | .vredmin vd _ _ _ => [.v vd, .csr 0x800#12, .csr 0x801#12]
  | .vsel vd _ _ _ _ => [.v vd, .csr 0x800#12, .csr 0x801#12]
  | .vmovi vd _ _ _ => [.v vd, .csr 0x800#12, .csr 0x801#12]
  | .vmacc vd _ _ _ _ => [.v vd, .csr 0x800#12, .csr 0x801#12]
  | .vfadd vd _ _ _ _ => [.v vd, .csr 0x800#12, .csr 0x801#12]
  | .vfsub vd _ _ _ _ => [.v vd, .csr 0x800#12, .csr 0x801#12]
  | .vfmul vd _ _ _ _ => [.v vd, .csr 0x800#12, .csr 0x801#12]
  | .vfma vd _ _ _ _ => [.v vd, .csr 0x800#12, .csr 0x801#12]
  | .vfms vd _ _ _ _ => [.v vd, .csr 0x800#12, .csr 0x801#12]
  | .vfdiv vd _ _ _ _ => [.v vd, .csr 0x800#12, .csr 0x801#12]
  | .vfsqrt vd _ _ _ => [.v vd, .csr 0x800#12, .csr 0x801#12]
  | .vfmin vd _ _ _ _ => [.v vd, .csr 0x800#12, .csr 0x801#12]
  | .vfmax vd _ _ _ _ => [.v vd, .csr 0x800#12, .csr 0x801#12]
  | .vfabs vd _ _ _ => [.v vd, .csr 0x800#12, .csr 0x801#12]
  | .vfneg vd _ _ _ => [.v vd, .csr 0x800#12, .csr 0x801#12]
  | .vfexp2 vd _ _ _ => [.v vd, .csr 0x800#12, .csr 0x801#12]
  | .vflog2 vd _ _ _ => [.v vd, .csr 0x800#12, .csr 0x801#12]
  | .vfrcp vd _ _ _ => [.v vd, .csr 0x800#12, .csr 0x801#12]
  | .vfcmpeq pd _ _ _ _ => [.p pd, .csr 0x800#12, .csr 0x801#12]
  | .vfcmplt pd _ _ _ _ => [.p pd, .csr 0x800#12, .csr 0x801#12]
  | .vfcmple pd _ _ _ _ => [.p pd, .csr 0x800#12, .csr 0x801#12]
  | .vfcmpun pd _ _ _ _ => [.p pd, .csr 0x800#12, .csr 0x801#12]
  | .vfredsum vd _ _ _ => [.v vd, .csr 0x800#12, .csr 0x801#12]
  | .vfredmax vd _ _ _ => [.v vd, .csr 0x800#12, .csr 0x801#12]
  | .vfredmin vd _ _ _ => [.v vd, .csr 0x800#12, .csr 0x801#12]
  | .vfcvt vd _ _ _ _ => [.v vd, .csr 0x800#12, .csr 0x801#12]
  | .vfcvti vd _ _ _ _ => [.v vd, .csr 0x800#12, .csr 0x801#12]
  | .vicvtf vd _ _ _ _ => [.v vd, .csr 0x800#12, .csr 0x801#12]
  | .vfwmacc vd _ _ _ _ => [.v vd, .csr 0x800#12, .csr 0x801#12]
  | .vfclass vd _ _ _ => [.v vd, .csr 0x800#12, .csr 0x801#12]
  | .vfround vd _ _ _ => [.v vd, .csr 0x800#12, .csr 0x801#12]
  | .vfscale vd _ _ _ _ => [.v vd, .csr 0x800#12, .csr 0x801#12]
  | .vfrsqrt vd _ _ _ => [.v vd, .csr 0x800#12, .csr 0x801#12]
  | .vfmaxnum vd _ _ _ _ => [.v vd, .csr 0x800#12, .csr 0x801#12]
  | .vmoviF vd _ _ _ => [.v vd, .csr 0x800#12, .csr 0x801#12]
  | .vfminnum vd _ _ _ _ => [.v vd, .csr 0x800#12, .csr 0x801#12]
  | .vbcast vd _ _ => [.v vd, .csr 0x800#12, .csr 0x801#12]
  | .vext rd _ _ _ => [.x rd, .csr 0x800#12, .csr 0x801#12]
  | .vins vd _ _ _ => [.v vd, .csr 0x800#12, .csr 0x801#12]
  | .vperm vd _ _ _ => [.v vd, .csr 0x800#12, .csr 0x801#12]
  | .vslideup vd _ _ _ => [.v vd, .csr 0x800#12, .csr 0x801#12]
  | .vslidedn vd _ _ _ => [.v vd, .csr 0x800#12, .csr 0x801#12]
  | .vzip vd _ _ _ => [.v vd, .csr 0x800#12, .csr 0x801#12]
  | .vunzip vd _ _ => [.v vd, .csr 0x800#12, .csr 0x801#12]
  | .vrev vd _ _ => [.v vd, .csr 0x800#12, .csr 0x801#12]
  | .vcompress vd _ _ _ => [.v vd, .csr 0x800#12, .csr 0x801#12]
  | .pand pd _ _ => [.p pd, .csr 0x800#12, .csr 0x801#12]
  | .por pd _ _ => [.p pd, .csr 0x800#12, .csr 0x801#12]
  | .pxor pd _ _ => [.p pd, .csr 0x800#12, .csr 0x801#12]
  | .pnot pd _ => [.p pd, .csr 0x800#12, .csr 0x801#12]
  | .pwhile pd _ _ _ => [.p pd, .csr 0x800#12, .csr 0x801#12]
  | .pcount rd _ _ => [.x rd, .csr 0x800#12, .csr 0x801#12]
  | .pfirst rd _ _ => [.x rd, .csr 0x800#12, .csr 0x801#12]
  | .vqred vd _ _ _ => [.v vd, .csr 0x800#12, .csr 0x801#12, .csr 0x808#12]
  | .vmv vd _ _ => [.v vd, .csr 0x800#12, .csr 0x801#12]
  | .mcfg rd _ _ => [.x rd, .csr 0x802#12]
  | .mma _ _ _ _ => [.csr 0x806#12]
  | .mmas _ _ _ _ => [.csr 0x806#12]
  | .mst _ _ _ _ => [.csr 0x806#12]
  | .mld _ _ _ _ => [.csr 0x806#12]
  | .mrd vd _ _ _ => [.v vd]
  | .mrec _ _ _ _ => [.csr 0x806#12]
  | .mprog rd _ => [.x rd]
  | .cvgain vd _ => [.v vd]
  | .cvsel rd _ _ => [.x rd]
  | .erun rd _ _ => [.x rd]
  | .ewait rd _ => [.x rd]
  | .estat rd _ => [.x rd]
  | .qpop rd _ => [.x rd]
  | .qpopv rd _ => [.v rd]
  | .qstat rd _ => [.x rd]
  | .qbind qd _ => [.q qd]
  | .vld vd _ _ _ _ => [.v vd]
  | .vldx vd _ _ _ _ => [.v vd]
  | .vldl vd _ _ _ _ => [.v vd]
  | .vldk vd _ _ _ _ => [.v vd]
  | .vldt vd _ _ _ _ => [.v vd]
  | .ldk rd _ _ _ => [.x rd]
  | .ldt rd _ _ _ => [.x rd]
  | .ksend rd _ _ _ => [.x rd]
  | .famoAddBf16x2 rd _ _ _ => [.x rd]
  | .famoAddF16x2 rd _ _ _ => [.x rd]
  | .famoAddF32 rd _ _ _ => [.x rd]
  | .famoAddF64 rd _ _ _ => [.x rd]
  | .famoMinBf16x2 rd _ _ _ => [.x rd]
  | .famoMinF16x2 rd _ _ _ => [.x rd]
  | .famoMinF32 rd _ _ _ => [.x rd]
  | .famoMinF64 rd _ _ _ => [.x rd]
  | .famoMaxBf16x2 rd _ _ _ => [.x rd]
  | .famoMaxF16x2 rd _ _ _ => [.x rd]
  | .famoMaxF32 rd _ _ _ => [.x rd]
  | .famoMaxF64 rd _ _ _ => [.x rd]
  | .cas128 rd _ _ _ => [.x (rd ++ 0#1), .x (rd ++ 1#1)]
  | .iaddD rd _ _ _ => [.x rd]
  | .iaddW rd _ _ _ => [.x rd]
  | .iorD rd _ _ _ => [.x rd]
  | .iandD rd _ _ _ => [.x rd]
  | .sldAcq rd _ _ => [.x rd]
  | .bmask rd _ _ => [.x rd]
  | .tickrd rd => [.x rd]
  | .tickw rd _ => [.x rd]
  | .abarr rd _ _ => [.x rd]
  | .abwait rd _ => [.x rd]
  | .abinit rd _ _ => [.x rd]
  | .gopen rd => [.x rd]
  | .gsel rd _ => [.x rd]
  | .gcommit rd _ _ => [.x rd]
  | .gabort rd _ => [.x rd]
  | .gstat rd _ _ => [.x rd]
  | .tset rd _ _ => [.x rd]
  | .tmode rd _ _ => [.x rd]
  | .kbin rd _ _ => [.x rd]
  | .jrnl rd _ _ => [.x rd]
  | .start rd _ _ => [.x rd]
  | .hjoin rd _ => [.x rd]
  | .hpoll rd => [.x rd]
  | .launch rd _ => [.x rd]
  | .lpoll rd _ => [.x rd]
  | .sysc rd _ _ => [.x rd]
  | .sysw rd _ => [.x rd]
  | .nfy rd _ _ => [.x rd]
  | .fhand rd _ => [.x rd]
  | .cprobe rd _ _ => [.x rd]
  | .cpin rd _ => [.x rd]
  | .cunpin rd _ => [.x rd]
  | .cevict rd _ => [.x rd]
  | .ctxflush rd _ => [.x rd]
  | .ctxload rd _ => [.x rd]
  | .wsw rd _ _ => [.x rd]
  | .waitev rd _ _ => [.x rd]
  | .lui rd _ => [.x rd]
  | .auipc rd _ => [.x rd]
  | .jal rd _ => [.x rd]
  | .jalr rd _ _ => [.x rd]
  | .lb rd _ _ => [.x rd]
  | .lh rd _ _ => [.x rd]
  | .lw rd _ _ => [.x rd]
  | .ld rd _ _ => [.x rd]
  | .lbu rd _ _ => [.x rd]
  | .lhu rd _ _ => [.x rd]
  | .lwu rd _ _ => [.x rd]
  | .addi rd _ _ => [.x rd]
  | .slti rd _ _ => [.x rd]
  | .sltiu rd _ _ => [.x rd]
  | .xori rd _ _ => [.x rd]
  | .ori rd _ _ => [.x rd]
  | .andi rd _ _ => [.x rd]
  | .slli rd _ _ => [.x rd]
  | .srli rd _ _ => [.x rd]
  | .srai rd _ _ => [.x rd]
  | .addiw rd _ _ => [.x rd]
  | .slliw rd _ _ => [.x rd]
  | .srliw rd _ _ => [.x rd]
  | .sraiw rd _ _ => [.x rd]
  | .add rd _ _ => [.x rd]
  | .sll rd _ _ => [.x rd]
  | .slt rd _ _ => [.x rd]
  | .sltu rd _ _ => [.x rd]
  | .xor rd _ _ => [.x rd]
  | .srl rd _ _ => [.x rd]
  | .or rd _ _ => [.x rd]
  | .and rd _ _ => [.x rd]
  | .sub rd _ _ => [.x rd]
  | .sra rd _ _ => [.x rd]
  | .mul rd _ _ => [.x rd]
  | .mulh rd _ _ => [.x rd]
  | .mulhsu rd _ _ => [.x rd]
  | .mulhu rd _ _ => [.x rd]
  | .div rd _ _ => [.x rd]
  | .divu rd _ _ => [.x rd]
  | .rem rd _ _ => [.x rd]
  | .remu rd _ _ => [.x rd]
  | .addw rd _ _ => [.x rd]
  | .sllw rd _ _ => [.x rd]
  | .srlw rd _ _ => [.x rd]
  | .subw rd _ _ => [.x rd]
  | .sraw rd _ _ => [.x rd]
  | .mulw rd _ _ => [.x rd]
  | .divw rd _ _ => [.x rd]
  | .divuw rd _ _ => [.x rd]
  | .remw rd _ _ => [.x rd]
  | .remuw rd _ _ => [.x rd]
  | .lrW rd _ _ _ => [.x rd]
  | .lrD rd _ _ _ => [.x rd]
  | .scW rd _ _ _ _ => [.x rd]
  | .scD rd _ _ _ _ => [.x rd]
  | .amoswapW rd _ _ _ _ => [.x rd]
  | .amoswapD rd _ _ _ _ => [.x rd]
  | .amoaddW rd _ _ _ _ => [.x rd]
  | .amoaddD rd _ _ _ _ => [.x rd]
  | .amoxorW rd _ _ _ _ => [.x rd]
  | .amoxorD rd _ _ _ _ => [.x rd]
  | .amoandW rd _ _ _ _ => [.x rd]
  | .amoandD rd _ _ _ _ => [.x rd]
  | .amoorW rd _ _ _ _ => [.x rd]
  | .amoorD rd _ _ _ _ => [.x rd]
  | .amominW rd _ _ _ _ => [.x rd]
  | .amominD rd _ _ _ _ => [.x rd]
  | .amomaxW rd _ _ _ _ => [.x rd]
  | .amomaxD rd _ _ _ _ => [.x rd]
  | .amominuW rd _ _ _ _ => [.x rd]
  | .amominuD rd _ _ _ _ => [.x rd]
  | .amomaxuW rd _ _ _ _ => [.x rd]
  | .amomaxuD rd _ _ _ _ => [.x rd]
  | .csrrw rd _ csr => [.x rd, .csr csr]
  | .csrrs rd _ csr => [.x rd, .csr csr]
  | .csrrc rd _ csr => [.x rd, .csr csr]
  | .csrrwi rd csr _ => [.x rd, .csr csr]
  | .csrrsi rd csr _ => [.x rd, .csr csr]
  | .csrrci rd csr _ => [.x rd, .csr csr]
  | .cAddi4spn rd _ => [.x (creg rd)]
  | .cLw rd _ _ => [.x (creg rd)]
  | .cLd rd _ _ => [.x (creg rd)]
  | .cAddi rd _ => [.x rd]
  | .cAddiw rd _ => [.x rd]
  | .cLi rd _ => [.x rd]
  | .cAddi16sp _ => [.x sp]
  | .cLui rd _ => [.x rd]
  | .cSrli rd _ => [.x (creg rd)]
  | .cSrai rd _ => [.x (creg rd)]
  | .cAndi rd _ => [.x (creg rd)]
  | .cSub rd _ => [.x (creg rd)]
  | .cXor rd _ => [.x (creg rd)]
  | .cOr rd _ => [.x (creg rd)]
  | .cAnd rd _ => [.x (creg rd)]
  | .cSubw rd _ => [.x (creg rd)]
  | .cAddw rd _ => [.x (creg rd)]
  | .cSlli rd _ => [.x rd]
  | .cLwsp rd _ => [.x rd]
  | .cLdsp rd _ => [.x rd]
  | .cMv rd _ => [.x rd]
  | .cJalr _ => [.x ra]
  | .cAdd rd _ => [.x rd]
  | _ => []

/-- R380: the registers that a queued entry reads after its issue cycle; with vround, on which a CSR instruction depends
(R163). -/
def lateReadsOf (i : Instr) : List Res :=
  match i with
  | .vadd _ vs1 vs2 pg _ => [.v vs1, .v vs2, .p (pg.setWidth 3), .csr 0x800#12]
  | .vsub _ vs1 vs2 pg _ => [.v vs1, .v vs2, .p (pg.setWidth 3), .csr 0x800#12]
  | .vmul _ vs1 vs2 pg _ => [.v vs1, .v vs2, .p (pg.setWidth 3), .csr 0x800#12]
  | .vmulh _ vs1 vs2 pg _ => [.v vs1, .v vs2, .p (pg.setWidth 3), .csr 0x800#12]
  | .vmulhn _ vs1 vs2 pg _ => [.v vs1, .v vs2, .p (pg.setWidth 3), .csr 0x800#12]
  | .vand _ vs1 vs2 pg _ => [.v vs1, .v vs2, .p (pg.setWidth 3), .csr 0x800#12]
  | .vor _ vs1 vs2 pg _ => [.v vs1, .v vs2, .p (pg.setWidth 3), .csr 0x800#12]
  | .vxor _ vs1 vs2 pg _ => [.v vs1, .v vs2, .p (pg.setWidth 3), .csr 0x800#12]
  | .vshl _ vs1 vs2 pg _ => [.v vs1, .v vs2, .p (pg.setWidth 3), .csr 0x800#12]
  | .vshr _ vs1 vs2 pg _ => [.v vs1, .v vs2, .p (pg.setWidth 3), .csr 0x800#12]
  | .vsra _ vs1 vs2 pg _ => [.v vs1, .v vs2, .p (pg.setWidth 3), .csr 0x800#12]
  | .vmin _ vs1 vs2 pg _ => [.v vs1, .v vs2, .p (pg.setWidth 3), .csr 0x800#12]
  | .vmax _ vs1 vs2 pg _ => [.v vs1, .v vs2, .p (pg.setWidth 3), .csr 0x800#12]
  | .vminn _ vs1 vs2 pg _ => [.v vs1, .v vs2, .p (pg.setWidth 3), .csr 0x800#12]
  | .vmaxn _ vs1 vs2 pg _ => [.v vs1, .v vs2, .p (pg.setWidth 3), .csr 0x800#12]
  | .vadds _ vs1 vs2 pg _ => [.v vs1, .v vs2, .p (pg.setWidth 3), .csr 0x800#12]
  | .vaddi _ vs1 pg _ _ => [.v vs1, .p (pg.setWidth 3), .csr 0x800#12]
  | .vshli _ vs1 pg _ _ => [.v vs1, .p (pg.setWidth 3), .csr 0x800#12]
  | .vshri _ vs1 pg _ _ => [.v vs1, .p (pg.setWidth 3), .csr 0x800#12]
  | .vsrai _ vs1 pg _ _ => [.v vs1, .p (pg.setWidth 3), .csr 0x800#12]
  | .vcmpeq _ vs1 vs2 pg _ => [.v vs1, .v vs2, .p (pg.setWidth 3), .csr 0x800#12]
  | .vcmplt _ vs1 vs2 pg _ => [.v vs1, .v vs2, .p (pg.setWidth 3), .csr 0x800#12]
  | .vcmple _ vs1 vs2 pg _ => [.v vs1, .v vs2, .p (pg.setWidth 3), .csr 0x800#12]
  | .vcmpltn _ vs1 vs2 pg _ => [.v vs1, .v vs2, .p (pg.setWidth 3), .csr 0x800#12]
  | .vcnt _ vs1 pg _ => [.v vs1, .p (pg.setWidth 3), .csr 0x800#12]
  | .vclz _ vs1 pg _ => [.v vs1, .p (pg.setWidth 3), .csr 0x800#12]
  | .vredsum _ vs1 pg _ => [.v vs1, .p (pg.setWidth 3), .csr 0x800#12]
  | .vredmax _ vs1 pg _ => [.v vs1, .p (pg.setWidth 3), .csr 0x800#12]
  | .vredmin _ vs1 pg _ => [.v vs1, .p (pg.setWidth 3), .csr 0x800#12]
  | .vsel _ vs1 vs2 pg _ => [.v vs1, .v vs2, .p (pg.setWidth 3), .csr 0x800#12]
  | .vmovi _ pg _ _ => [.p (pg.setWidth 3), .csr 0x800#12]
  | .vmacc _ vs1 vs2 pg _ => [.v vs1, .v vs2, .p (pg.setWidth 3), .csr 0x800#12]
  | .vfadd _ vs1 vs2 pg _ => [.v vs1, .v vs2, .p (pg.setWidth 3), .csr 0x800#12]
  | .vfsub _ vs1 vs2 pg _ => [.v vs1, .v vs2, .p (pg.setWidth 3), .csr 0x800#12]
  | .vfmul _ vs1 vs2 pg _ => [.v vs1, .v vs2, .p (pg.setWidth 3), .csr 0x800#12]
  | .vfma _ vs1 vs2 pg _ => [.v vs1, .v vs2, .p (pg.setWidth 3), .csr 0x800#12]
  | .vfms _ vs1 vs2 pg _ => [.v vs1, .v vs2, .p (pg.setWidth 3), .csr 0x800#12]
  | .vfdiv _ vs1 vs2 pg _ => [.v vs1, .v vs2, .p (pg.setWidth 3), .csr 0x800#12]
  | .vfsqrt _ vs1 pg _ => [.v vs1, .p (pg.setWidth 3), .csr 0x800#12]
  | .vfmin _ vs1 vs2 pg _ => [.v vs1, .v vs2, .p (pg.setWidth 3), .csr 0x800#12]
  | .vfmax _ vs1 vs2 pg _ => [.v vs1, .v vs2, .p (pg.setWidth 3), .csr 0x800#12]
  | .vfabs _ vs1 pg _ => [.v vs1, .p (pg.setWidth 3), .csr 0x800#12]
  | .vfneg _ vs1 pg _ => [.v vs1, .p (pg.setWidth 3), .csr 0x800#12]
  | .vfexp2 _ vs1 pg _ => [.v vs1, .p (pg.setWidth 3), .csr 0x800#12]
  | .vflog2 _ vs1 pg _ => [.v vs1, .p (pg.setWidth 3), .csr 0x800#12]
  | .vfrcp _ vs1 pg _ => [.v vs1, .p (pg.setWidth 3), .csr 0x800#12]
  | .vfcmpeq _ vs1 vs2 pg _ => [.v vs1, .v vs2, .p (pg.setWidth 3), .csr 0x800#12]
  | .vfcmplt _ vs1 vs2 pg _ => [.v vs1, .v vs2, .p (pg.setWidth 3), .csr 0x800#12]
  | .vfcmple _ vs1 vs2 pg _ => [.v vs1, .v vs2, .p (pg.setWidth 3), .csr 0x800#12]
  | .vfcmpun _ vs1 vs2 pg _ => [.v vs1, .v vs2, .p (pg.setWidth 3), .csr 0x800#12]
  | .vfredsum _ vs1 pg _ => [.v vs1, .p (pg.setWidth 3), .csr 0x800#12]
  | .vfredmax _ vs1 pg _ => [.v vs1, .p (pg.setWidth 3), .csr 0x800#12]
  | .vfredmin _ vs1 pg _ => [.v vs1, .p (pg.setWidth 3), .csr 0x800#12]
  | .vfcvt _ vs1 pg _ _ => [.v vs1, .p (pg.setWidth 3), .csr 0x800#12]
  | .vfcvti _ vs1 pg _ _ => [.v vs1, .p (pg.setWidth 3), .csr 0x800#12]
  | .vicvtf _ vs1 pg _ _ => [.v vs1, .p (pg.setWidth 3), .csr 0x800#12]
  | .vfwmacc _ vs1 vs2 pg _ => [.v vs1, .v vs2, .p (pg.setWidth 3), .csr 0x800#12]
  | .vfclass _ vs1 pg _ => [.v vs1, .p (pg.setWidth 3), .csr 0x800#12]
  | .vfround _ vs1 pg _ => [.v vs1, .p (pg.setWidth 3), .csr 0x800#12]
  | .vfscale _ vs1 vs2 pg _ => [.v vs1, .v vs2, .p (pg.setWidth 3), .csr 0x800#12]
  | .vfrsqrt _ vs1 pg _ => [.v vs1, .p (pg.setWidth 3), .csr 0x800#12]
  | .vfmaxnum _ vs1 vs2 pg _ => [.v vs1, .v vs2, .p (pg.setWidth 3), .csr 0x800#12]
  | .vmoviF _ pg _ _ => [.p (pg.setWidth 3), .csr 0x800#12]
  | .vfminnum _ vs1 vs2 pg _ => [.v vs1, .v vs2, .p (pg.setWidth 3), .csr 0x800#12]
  | .vbcast _ _ _ => [.csr 0x800#12]
  | .vext _ vs1 _ _ => [.v vs1, .csr 0x800#12]
  | .vins _ _ _ _ => [.csr 0x800#12]
  | .vperm _ vs1 vs2 _ => [.v vs1, .v vs2, .csr 0x800#12]
  | .vslideup _ vs1 _ _ => [.v vs1, .csr 0x800#12]
  | .vslidedn _ vs1 _ _ => [.v vs1, .csr 0x800#12]
  | .vzip _ vs1 vs2 _ => [.v vs1, .v vs2, .csr 0x800#12]
  | .vunzip _ vs1 _ => [.v vs1, .csr 0x800#12]
  | .vrev _ vs1 _ => [.v vs1, .csr 0x800#12]
  | .vcompress _ vs1 ps2 _ => [.v vs1, .p ps2, .csr 0x800#12]
  | .pand _ ps1 ps2 => [.p ps1, .p ps2, .csr 0x800#12]
  | .por _ ps1 ps2 => [.p ps1, .p ps2, .csr 0x800#12]
  | .pxor _ ps1 ps2 => [.p ps1, .p ps2, .csr 0x800#12]
  | .pnot _ ps1 => [.p ps1, .csr 0x800#12]
  | .pwhile _ _ _ _ => [.csr 0x800#12]
  | .pcount _ ps1 _ => [.p ps1, .csr 0x800#12]
  | .pfirst _ ps1 _ => [.p ps1, .csr 0x800#12]
  | .vqred _ _ _ _ => [.csr 0x800#12]
  | .vmv _ vs1 _ => [.v vs1, .csr 0x800#12]
  | .mwr _ vs1 _ => [.v vs1]
  | .cvprobe _ vs1 _ => [.v vs1]
  | .cvsel _ _ vs2 => [.v vs2]
  | _ => []

/-- x0 and p0 hold no value and count for nothing. -/
def Res.counts : Res → Bool
  | .x r => r != 0
  | .p r => r != 0
  | _ => true

/-- Do two lists share a register that counts? -/
def meets (a b : List Res) : Bool := a.any (fun r => r.counts && b.contains r)

/-- R106: does `j` depend on an instruction that writes `w` and reads `l` after its issue cycle? -/
def dependsOn (j : Instr) (w l : List Res) : Bool := meets w (readsOf j ++ writesOf j) || meets l (writesOf j)

/-- R107: the register that a result goes to. -/
def Dst.res : Dst → List Res
  | .discard => []
  | .x r => [.x r]
  | .v r => [.v r]
  | .pair r => [.x (r ++ 0#1), .x (r ++ 1#1)]

/-- R107: does the instruction enter the vector queue? -/
def isVectorEntry (i : Instr) : Bool := (lateReadsOf i).contains (.csr 0x800#12)

/-- R163, R380: v and p registers are those that the queues resolve among their entries. -/
def Res.inQueues : Res → Bool
  | .v _ => true
  | .p _ => true
  | _ => false

/-- R380: does queue entry `j` have to wait for an earlier entry `i` of the same strand? -/
def conflicts (i j : Instr) : Bool :=
  let w := (writesOf i).filter Res.inQueues
  let l := (lateReadsOf i).filter Res.inQueues
  dependsOn j w l

/-- The entries of the vector queue, queued or bound, of a strand. -/
def State.vectorEntries (s : State) (c i : Nat) : List VEntry :=
  ((s.core c).vqueue ++ ((s.bench (benchOf c)).groups.toList.filterMap (fun g => match g with
    | some b => if b.core = c then some b.entry else none
    | none => none))).filter (fun e => e.strand == i)

/-- The entries of the matrix queue of a strand, those of its chains apart. -/
def State.matrixEntries (s : State) (c i : Nat) : List MEntry :=
  (s.core c).mqueue.filter (fun e => e.strand == i && e.chain == none)

/-- R189, R192: what a matrix-queue entry has still to write: an entry that has retired has written mrp. -/
def MEntry.writes (e : MEntry) : List Res :=
  if e.retired then (writesOf e.instr).filter (fun r => r != .csr 0x806#12) else writesOf e.instr

/-- R106, R189, R380: does the instruction that a strand issues next depend on an outstanding one? `queued` says that it
enters one of the queues, which resolve v and p registers among their entries. -/
def State.dependent (s : State) (c i : Nat) (j : Instr) (queued : Bool) : Bool :=
  let keep := fun (l : List Res) => if queued then l.filter (fun r => !r.inQueues) else l
  (s.strand c i).pending.any (fun p => dependsOn j (if p.queued then keep p.dst.res else p.dst.res) []) ||
    (!queued || !isVectorEntry j) && (s.vectorEntries c i).any (fun e =>
      dependsOn j (keep (writesOf e.instr)) (keep (lateReadsOf e.instr))) ||
    (s.matrixEntries c i).any (fun e => dependsOn j (keep e.writes) (keep (lateReadsOf e.instr)))

end Sys2Proof.Machine
end

