-- ==== Sys2Proof/Machine/Traps.lean ====
section
/-! DEFINITION. Interrupts: what is pending at a strand, which one it may take, and taking it (R327, R328, R330, R336,
R360). -/

namespace Sys2Proof.Machine

/-- R330: the strand for which a refused journal entry is pending: the entry's, or the control strand when it is FREE. -/
def Core.refusalTarget (k : Core) (e : JEntry) : Nat := if (k.strand e.strand).status = .free then 0 else e.strand

/-- R330: the lowest REFUSED journal entry still to be delivered to a strand. -/
def Core.refusalFor (k : Core) (i : Nat) : Option Nat :=
  (k.journal.find? (fun e => e.2.state == .refused && !e.2.delivered && k.refusalTarget e.2 == i)).map (·.1)

/-- The index of the lowest set bit of a pending word (R360). -/
def lowestBit (b : BitVec 4) : Option Nat := (List.range 4).find? (fun i => b.getLsbD i)

/-- R328: the pending-interrupt bits of a strand. -/
def State.pendingBits (s : State) (c i : Nat) : Word :=
  let k := s.core c
  let t := k.strand i
  (t.ip &&& 0x402A0#64) ||| (if i = 0 ∧ k.ovf ≠ 0 then 0x10000#64 else 0) |||
    (if (k.refusalFor i).isSome then 0x20000#64 else 0)

/-- R328: what sie holds: on a server core the enables of mie that mideleg delegates, as the privileged specification has it;
elsewhere a register of its own. -/
def Strand.sieView (t : Strand) (server : Bool) : Word := if server then t.mie &&& t.mideleg else t.sie

/-- The word with the bits of a mask replaced. -/
def maskInto (old new mask : Word) : Word := (old &&& ~~~mask) ||| (new &&& mask)

/-- R328: the interrupt bits of sie and sip. -/
def sieMask : Word := 0x70220#64

/-- R328: a write of sie. -/
def Strand.writeSie (t : Strand) (server : Bool) (v : Word) : Strand :=
  if server then { t with mie := maskInto t.mie v (sieMask &&& t.mideleg) }
  else { t with sie := v &&& sieMask }

/-- R327: does the code go to machine mode at a strand: on a server core, unless it is delegated. -/
def State.interruptToMachine (s : State) (c i code : Nat) : Bool :=
  s.isServer c && !(s.strand c i).mideleg.getLsbD code

/-- R327: is an interrupt of a code enabled at a strand? -/
def State.interruptEnabled (s : State) (c i code : Nat) : Bool :=
  let t := s.strand c i
  if s.interruptToMachine c i code then
    t.mie.getLsbD code && (t.priv != .machine || t.mstatus.getLsbD bitMIE)
  else
    (t.sieView (s.isServer c)).getLsbD code &&
      (match t.priv with
      | .user => true
      | .supervisor => t.mstatus.getLsbD bitSIE
      | .machine => false)

/-- R327: the order in which pending interrupts are taken. -/
def interruptOrder : List Nat := [17, 18, 16, 9, 7, 5]

/-- R327, R360: does the core's pending overflow interrupt, or any other code, reach this strand? -/
def State.interruptReaches (s : State) (c i code : Nat) : Bool :=
  code != 16 || (i == 0 && (s.strand c 0).status == .live)

/-- R327: the interrupt that a strand takes at its next boundary. -/
def State.interruptFor (s : State) (c i : Nat) : Option Nat :=
  interruptOrder.find? (fun n =>
    (s.pendingBits c i).getLsbD n && s.interruptReaches c i n && s.interruptEnabled c i n)

/-- R326: the value that the interrupt of a code reports. -/
def State.interruptTval (s : State) (c i code : Nat) : Word :=
  if code = 16 then BitVec.ofNat 64 ((lowestBit (s.core c).ovf).getD 0)
  else if code = 17 then BitVec.ofNat 64 (((s.core c).refusalFor i).getD 0)
  else 0

/-- R330, R336, R360: what taking an interrupt clears: an overflow bit, the delivery of a refusal, or the pending bit. -/
def State.clearInterrupt (s : State) (c i code : Nat) : State :=
  if code = 16 then
    s.modCore c (fun k => { k with ovf := k.ovf &&& ~~~(1#4 <<< ((lowestBit k.ovf).getD 0)) })
  else if code = 17 then
    s.modCore c (fun k =>
      match k.refusalFor i with
      | some n => { k with journal := k.journal.map (fun e => if e.1 = n then (e.1, { e.2 with delivered := true }) else e) }
      | none => k)
  else s.modStrand c i (fun t => { t with ip := t.ip &&& ~~~(1#64 <<< code) })

/-- Is the entry a vqred? -/
def VEntry.isReduce (e : VEntry) : Bool :=
  match e.instr with
  | .vqred _ _ _ _ => true
  | _ => false

/-- R177: the vqred of a strand is withdrawn from its core's queue. -/
def Core.withdraw (k : Core) (i : Nat) : Core :=
  { k with vqueue := k.vqueue.filter (fun e => !(e.isReduce && e.strand == i)) }

/-- R176: the lane group to which a step of core `c`'s vqred is bound. -/
def State.vqredGroup (s : State) (c : Nat) : Option Nat :=
  (List.range 4).find? (fun g => match (s.bench (benchOf c)).groups[g]?.getD none with
    | some b => b.core == c && b.entry.isReduce
    | none => false)

/-- R177: a strand's vqred is between two steps: none of it is bound to a lane group. -/
def State.vqredBetween (s : State) (c i : Nat) : Bool :=
  (s.strand c i).park != some .vqred || (s.vqredGroup c).isNone ||
    ((s.core c).vqueue.head?.map (·.strand)) != some i

/-- R138, R177, R286: a strand that leaves its wait for an interrupt: its watch is disarmed, a count object's WAITER
falls by one, its vqred is withdrawn. -/
def State.leaveWait (s : State) (c i : Nat) : State :=
  match (s.strand c i).park with
  | some (.countObject loc _) => s.commitHome (cellsAt (loc + 0x18) (leBytes 4 (s.coWaiter loc - 1)))
  | some .vqred => s.modCore c (·.withdraw i)
  | some .watchWord => s.disarm c i
  | _ => s

/-- R31, R336: a strand-level pre-emption ends the strand's reservation. -/
def State.dropReservation (s : State) (c i : Nat) : State :=
  { s with reservations := s.reservations.filter (fun r => !(r.core == c && r.strand == i)) }

/-- R327, R328: a strand takes the interrupt of a code. -/
def State.takeInterrupt (s : State) (c i code : Nat) : State :=
  let tval := s.interruptTval c i code
  let s1 := (s.leaveWait c i).clearInterrupt c i code
  let s2 := if code = 18 then s1.dropReservation c i else s1
  s2.takeTrap c i (interruptCause code) tval

/-- An interrupt becomes pending at a strand. -/
def State.raise (s : State) (c i code : Nat) : State :=
  s.modStrand c i (fun t => { t with ip := t.ip ||| (1#64 <<< code) })

/-- R33: does an interrupt end the strand's wfi: one pending and enabled in sie or mie, whatever the global enables? -/
def State.wfiWakes (s : State) (c i : Nat) : Bool :=
  let t := s.strand c i
  s.pendingBits c i &&& (t.sieView (s.isServer c) ||| t.mie) != 0

/-- R122, R130, R138, R176, R257, R279, R286, R288: the waits that an interrupt ends. A wfi ends by itself, and the
interrupt is taken on the instruction after it (R33). -/
def Park.interruptible : Park → Bool
  | .helperFree _ => true
  | .ticket _ => true
  | .watchWord => true
  | .countObject _ _ => true
  | .barrier _ => true
  | .arrival _ => true
  | .helpersForBarrier => true
  | .untilTick _ => true
  | .journalMask _ _ => true
  | .vqred => true
  | .fifoFull _ => true
  | .fifoEmpty _ => true
  | .rxFull _ => true
  | .rxEmpty _ => true
  | .engineEmpty => true
  | .chain _ => true
  | .tile _ => true
  | _ => false

/-- R327: may the strand take an interrupt now: it issues next, or stands in a wait that an interrupt ends. -/
def Strand.atBoundary (t : Strand) : Bool :=
  t.status == .live &&
    (match t.pos with
    | .inForm _ => true
    | _ => false) &&
    (match t.park with
    | none => true
    | some p => p.interruptible)

/-- R137, R327, R337: the strand takes the interrupt that is pending and enabled, if it is at a boundary and its core is not
stopped for debugging or for a switch of worlds. -/
def State.interruptNow (s : State) (c i : Nat) : State :=
  if (s.strand c i).atBoundary && s.vqredBetween c i && !(s.core c).debugStopped && !(s.core c).stopping then
    match s.interruptFor c i with
    | some n => s.takeInterrupt c i n
    | none => s
  else s

end Sys2Proof.Machine
end

