-- ==== Sys2Proof/Machine/Context.lean ====
section
/-! DEFINITION. Context images: saving and restoring a strand, resuming it in its form, and the register cache
(R101, R110, R134, R135, R140, R332-R335). -/

namespace Sys2Proof.Machine

/-! ## Resuming in a form -/

/-- R140: a strand leaves its code-miss park with a fault: the values of the parking instruction are restored, and the
fault is precise there. If it was entering a handler, the entry has failed (R328). -/
def State.missFault (s : State) (c i : Nat) (m : Miss) (cause tval : Word) : State :=
  match m.handler with
  | some cause0 => s.discardFor c i cause0
  | none =>
    (s.modStrand c i (fun t =>
      { (t.writeX 1#5 m.saved.ra).writeX 3#5 m.saved.gp with
        curdir := m.saved.dir, fpc := m.saved.fpc, pos := .miss m })).takeTrap c i cause tval

/-- R63: the return handle that named a waypoint of a function. -/
def returnHandle (dir : BitVec 24) (n : Nat) (digest : Digest) : Word :=
  dir ++ BitVec.ofNat 16 n ++ digest.extractLsb' 0 24

/-- R333: the kind and digest that a resumption accepts. -/
def Resume.accept : Resume → Option (FormKind × Digest)
  | .exact a _ => a
  | _ => none

/-- R92, R101, R333: the look-up of a strand that waits for a form: it resumes, waits for a fetch, or faults. -/
def State.resumeMiss (s : State) (c i : Nat) (m : Miss) (portOnly : Bool) : State :=
  let l := clusterOf c
  let found := (s.cluster l).lookup m.digest (s.core c).vfNow
  match found.filter (fun e => e.2.accepted m.resume.accept) with
  | some (e, d) =>
    let go := fun (fpc : BitVec 24) =>
      let s1 := (s.modStrand c i (fun t => { t with fpc := fpc, pos := .inForm e })).markLast l e
      if m.counts then (s1.modStrand c i (fun t => { t with instret := t.instret + 1 })).countEvent c evRetired 1 else s1
    match m.resume with
    | .entry => go 0
    | .waypoint n =>
      if d.nwp < n then
        s.missFault c i m causeReturnHandle (returnHandle (s.strand c i).curdir n m.digest)
      else go (d.resumeAt n)
    | .exact _ fpc => go fpc
  | none =>
    let s1 := s.modStrand c i (fun t => { t with pos := .miss m })
    match s1.startFetch c m.digest (portOnly && m.resume.accept.isNone) m.resume.accept with
    | .ok s2 => s2
    | .error s2 => s2.missFault c i m causeCodePermission (digestTval m.digest)

/-- R333: the record of the function at CURDIR is read for a strand that is restored, and its look-up made. -/
def State.resumeStrand (s : State) (c i : Nat) (resume : Resume) (saved : SavedPos) : State :=
  let d := (s.strand c i).curdir
  let m : Miss := { digest := 0, resume := resume, saved := saved, handler := none,
                    counts := resume.accept.isNone && saved.form.isSome }
  match s.returnRecord (s.xctx c i) i d.toNat none (codePosition d saved.form saved.fpc) with
  | .ok (s1, r) =>
    s1.resumeMiss c i { m with digest := recDigest r } (recPortOnly r)
  | .error (.trap cause tval s1) => s1.missFault c i m cause tval
  | .error (.wait _ s1) => s1

/-! ## The image (R332) -/

/-- R333: what the image records of a strand's position. -/
structure Position where
  curdir : BitVec 24
  fpc : BitVec 24
  form : Nat
  resumeDig : Digest
  parked : List Byte
  deriving DecidableEq, Repr

/-- The code of a form kind. -/
def FormKind.code : FormKind → Nat
  | .portable => 0
  | .native => 1

/-- R333: the 64 bytes of a parked position. -/
def SavedPos.bytes (p : SavedPos) : List Byte :=
  match p.form with
  | some k =>
    leBytes 4 p.dir.toNat ++ leBytes 4 p.fpc.toNat ++ leBytes 1 k.code ++ leBytes 7 0 ++ leBytes 8 p.ra.toNat ++
      leBytes 8 p.gp.toNat ++ leBytes 32 p.dig.toNat
  | none =>
    leBytes 4 p.dir.toNat ++ leBytes 4 0 ++ leBytes 1 2 ++ leBytes 7 0 ++ leBytes 8 p.ra.toNat ++
      leBytes 8 p.gp.toNat ++ leBytes 32 0

/-- R333: the position of a strand. -/
def State.position (s : State) (c i : Nat) : Position :=
  let t := s.strand c i
  let none64 := List.replicate 64 (0 : Byte)
  match t.pos with
  | .miss m =>
    match m.resume with
    | .entry => { curdir := t.curdir, fpc := 0, form := 2, resumeDig := 0, parked := m.saved.bytes }
    | .waypoint n => { curdir := t.curdir, fpc := BitVec.ofNat 24 n, form := 2, resumeDig := 0, parked := m.saved.bytes }
    | .exact a fpc =>
      match a with
      | some (k, dig) => { curdir := t.curdir, fpc := fpc, form := k.code, resumeDig := dig, parked := none64 }
      | none => { curdir := t.curdir, fpc := fpc, form := 0, resumeDig := 0, parked := none64 }
  | .first _ =>
    { curdir := t.curdir, fpc := 0, form := 2, resumeDig := 0,
      parked := ({ dir := t.curdir, fpc := 0, form := none, ra := t.readX 1#5, gp := t.readX 3#5, dig := 0 } :
        SavedPos).bytes }
  | _ =>
    match s.formOf c i with
    | some d => { curdir := t.curdir, fpc := t.fpc, form := d.kind.code, resumeDig := d.content, parked := none64 }
    | none => { curdir := t.curdir, fpc := t.fpc, form := 0, resumeDig := 0, parked := none64 }

/-- The code of a strand state (R332). -/
def StrandStatus.code : StrandStatus → Nat
  | .free => 0
  | .live => 1
  | .ending => 2

/-- R332: line 6 of the image. -/
def Strand.stateLine (t : Strand) (p : Position) (sie sip : Word) : List Byte :=
  leBytes 4 p.curdir.toNat ++ leBytes 4 p.fpc.toNat ++ leBytes 1 t.status.code ++ leBytes 1 p.form ++
    leBytes 1 t.priv.code ++ leBytes 5 0 ++
    ([if t.pp then (1 : Word) else 0, t.kpfx.setWidth 64, t.vround.setWidth 64, t.vfflags.setWidth 64, t.mcfgw, t.mstra,
      t.mstrb, t.mkLen, t.mrp, t.gsel, t.rqprog, t.instret, t.mstatus &&& 0x000C0122#64] ++ t.q.toList ++
      [t.stvec, t.sscratch, t.sepc, t.scause, t.stval, sie, sip, t.sstepcnt]).flatMap (fun w => leBytes 8 w.toNat) ++
    leBytes 4 t.vpeid.toNat ++ leBytes 4 t.vpecnt.toNat

/-- R332: lines 4 and 5 of the image. -/
def Strand.registerLines (t : Strand) : List Byte :=
  (List.range 32).flatMap (fun r => leBytes 8 (t.readX (BitVec.ofNat 5 r)).toNat) ++
    (List.range 8).flatMap (fun r => leBytes 32 (t.readP (BitVec.ofNat 3 r)).toNat)

/-- R134, R332: the bytes that saving a strand writes, each run with its offset in the image; the dirty v lines too. -/
def State.imageWrites (s : State) (c i : Nat) : List (Nat × List Byte) :=
  let t := s.strand c i
  let p := s.position c i
  [(0x400, t.registerLines), (0x600, t.stateLine p (t.sieView (s.isServer c)) (s.pendingBits c i)),
    (0x780, leBytes 32 p.resumeDig.toNat ++ p.parked)] ++
    ((List.range 32).filter (fun r => t.vDirty.getLsbD r)).map
      (fun r => (0x800 + 256 * r, lineBytes (t.readV (BitVec.ofNat 5 r))))

/-- R332, R334: the places of an image, 4 to 39, and of its header, through the page tables; the image is in use. -/
def State.noteImageAt (s : State) (c : Nat) (image : Word) : State :=
  let place := fun (k : Nat) => match s.translate (s.deviceCtx c) .load (image + BitVec.ofNat 64 (256 * k)) 1 with
    | .ok (_, l :: _) => some l
    | _ => none
  match place 0 with
  | some head =>
    s.noteImage { head := head, image := image, lines := (List.range 36).filterMap (fun k => (place (k + 4)).map lineNo) }
  | none => s

/-- R134, R332: the bytes of an image from line 4 on, translated, with its trap lines on the die. -/
def State.imageReach (s : State) (x : XCtx) (a : Access) (base : Word) : Except Stop (State × List Nat) :=
  match s.translate x a (base + 0x400) 0x2400 with
  | .error f => .error (f.stop a s)
  | .ok (s1, locs) => .ok (s1.noteImageAt x.core base, locs)

/-- R86, R134: strand `i` of core `c` is saved to the image at `base`; its store buffer drains first. `home`: with its dirty
v lines, visible at chip scope; the lines leave the die (R334). Else into the core's L1, without its v lines. -/
def State.saveStrand (s : State) (x : XCtx) (c i : Nat) (base : Word) (home : Bool) : Except Stop State :=
  match s.imageReach x .store base with
  | .error e => .error e
  | .ok (s1, locs) =>
    match (s1.drainAll c i).onDie locs with
    | .error va => .error (.trap causeIntegrity va s)
    | .ok s2 =>
      let cells := fun (w : Nat × List Byte) => ((locs.drop (w.1 - 0x400)).take w.2.length).zip w.2
      if home then
        let ws := s.imageWrites c i
        let s3 := (ws.foldl (fun s w => s.commitHome (cells w)) s2).sealLines
          ((ws.flatMap (fun w => (cells w).map (fun k => lineNo k.1))).eraseDups)
        let s4 := s3.useCache (.core x.core) x.vf (some 4) (deviceLines (ws.flatMap (fun w => (cells w).map (·.1))))
        let bad := (List.range 32).filter (fun r => ((s.strand c i).vDirty &&& (s.strand c i).vPoison).getLsbD r)
        .ok ((s4.poisonSectors (bad.flatMap (fun r => (locs.drop (0x400 + 256 * r)).take 256))).modStrand c i (fun t =>
          { t with vDirty := 0 }))
      else .ok (((s.imageWrites c i).take 3).foldl (fun s w => s.commit c 0 (cells w)) s2)

/-! ## Restoring -/

/-- R333: is a recorded state one that a strand of core `c` may be loaded with? -/
def State.imageLoads (s : State) (c : Nat) (st line7 : List Byte) : Bool :=
  let form := recNat st 9 1
  let priv := recNat st 0xA 1
  form ≤ 2 && recNat st 8 1 ≤ 2 && !(form == 2 && 2 < recNat line7 0xA8 1) &&
    (priv == 0 || priv == 1 || (priv == 3 && s.isServer c))

/-- R332: the strand that the lines of an image record, before it resumes; ENDING is loaded as FREE (R135). -/
def Strand.ofImage (t : Strand) (regs st : List Byte) : Strand :=
  let w := fun (off : Nat) => recWord st off
  { t with
    status := if recNat st 8 1 = 1 then .live else .free
    x := Vector.ofFn (fun (r : Fin 32) => recWord regs (8 * r.val))
    p := Vector.ofFn (fun (r : Fin 8) => BitVec.ofNat 256 (recNat regs (256 + 32 * r.val) 32))
    q := Vector.ofFn (fun (r : Fin 8) => w (0x78 + 8 * r.val))
    vAbsent := BitVec.allOnes 32
    vDirty := 0
    vPoison := 0
    curdir := BitVec.ofNat 24 (recNat st 0 4)
    fpc := BitVec.ofNat 24 (recNat st 4 4)
    pos := .nowhere
    heldS := []
    heldM := []
    onHold := false
    priv := Priv.ofCode (recNat st 0xA 1)
    pp := (w 0x10).getLsbD 0
    kpfx := readKpfx (recNat st 0x18 4)
    vround := (w 0x20).extractLsb' 0 3
    vfflags := (w 0x28).extractLsb' 0 5
    mcfgw := w 0x30 &&& 0x000000FFFF3FF30F#64
    mstra := w 0x38
    mstrb := w 0x40
    mkLen := w 0x48
    mrp := w 0x50
    gsel := w 0x58
    rqprog := w 0x60
    instret := w 0x68
    mstatus := (t.mstatus &&& ~~~0x000C0122#64) ||| (w 0x70 &&& 0x000C0122#64)
    stvec := w 0xB8
    sscratch := w 0xC0
    sepc := w 0xC8 &&& epcMask
    scause := w 0xD0
    stval := w 0xD8
    sie := w 0xE0 &&& 0x70220#64
    ip := w 0xE8 &&& 0x402A0#64
    sstepcnt := w 0xF0
    vpeid := BitVec.ofNat 24 (recNat st 0xF8 4)
    vpecnt := BitVec.ofNat 24 (recNat st 0xFC 4)
    park := none
    pending := [] }

/-- R333: how a restored strand resumes, and what it keeps for a fault. -/
def resumeOf (t : Strand) (st line7 : List Byte) : Resume × SavedPos :=
  let form := recNat st 9 1
  let dig := BitVec.ofNat 256 (recNat line7 0x80 32)
  let kind : FormKind := if form = 1 then .native else .portable
  if form = 2 then
    let pform : Option FormKind := match recNat line7 0xA8 1 with
      | 0 => some .portable
      | 1 => some .native
      | _ => none
    (if t.fpc = 0 then .entry else .waypoint t.fpc.toNat,
      { dir := BitVec.ofNat 24 (recNat line7 0xA0 4), fpc := BitVec.ofNat 24 (recNat line7 0xA4 4), form := pform,
        ra := recWord line7 0xB0, gp := recWord line7 0xB8, dig := BitVec.ofNat 256 (recNat line7 0xC0 32) })
  else
    (.exact (if dig = 0 then none else some (kind, dig)) t.fpc,
      { dir := t.curdir, fpc := t.fpc, form := if dig = 0 then none else some kind, ra := t.readX 1#5,
        gp := t.readX 3#5, dig := dig })

/-! ## The register cache (R110, R336) -/

/-- The locations of line `r` of an image's v lines, for an access of core `c`. -/
def State.vLineAt (s : State) (a : Access) (c : Nat) (image : Word) (r : Nat) : Except XFault (State × List Nat) :=
  s.translate (s.deviceCtx c) a (image + BitVec.ofNat 64 (0x800 + 256 * r)) 256

/-- The locations of v line `r` of a strand's image, for an access. -/
def State.vLine (s : State) (a : Access) (c i r : Nat) : Except XFault (State × List Nat) :=
  s.vLineAt a c (s.strand c i).ctxbase r

/-- What memory holds of a line of an image, for core `c`. -/
def State.imageLine (s : State) (c : Nat) (image : Word) (r : Nat) : Option Line :=
  match s.vLineAt .load c image r with
  | .ok (_, locs) => some (lineOf (locs.map (s.byteFor (.core c))))
  | .error _ => none

/-- R110: the line of a switched-out strand as a coherent agent has it now: a byte that has been stored to since is the
stored one. -/
def OutLine.now (o : OutLine) (mem : Line) : Line :=
  lineOf ((((lineBytes o.line).zip (lineBytes o.seen)).zip (lineBytes mem)).map (fun b =>
    if b.2 = b.1.2 then b.1.1 else b.2))

/-- R336: the v lines of a strand that is switched out stay in the register cache, marked evictable. -/
def State.switchLinesOut (s : State) (c i : Nat) : State :=
  let t := s.strand c i
  let out := fun (l : RegLine) =>
    if l.core == c && l.strand == i && l.out.isNone then
      (s.imageLine c l.image l.reg.toNat).map (fun mem =>
        let o : OutLine :=
          { line := t.readV l.reg, seen := mem, dirty := t.vDirty.getLsbD l.reg.toNat,
            poison := t.vPoison.getLsbD l.reg.toNat }
        { l with out := some o })
    else some l
  s.modBench (benchOf c) (fun b => { b with regCache := b.regCache.filterMap out })

/-- R336: the lines of the image at `image` that the register cache still holds are lines of strand `i` again. -/
def State.switchLinesIn (s : State) (c i : Nat) (image : Word) : State :=
  let mine := fun (l : RegLine) => l.core == c && l.image == image && l.out.isSome
  let back := (s.bench (benchOf c)).regCache.filterMap (fun l => match l.out with
    | some o => if mine l then (s.imageLine c image l.reg.toNat).map (fun mem => (l.reg, o.now mem, o)) else none
    | none => none)
  let s1 := s.modBench (benchOf c) (fun b => { b with regCache := b.regCache.filterMap (fun l =>
      if mine l then
        (if back.any (fun k => k.1 == l.reg) then some { l with strand := i, out := none } else none)
      else some l) })
  s1.modStrand c i (fun t => back.foldl (fun t k =>
    { t with
      v := t.v.set k.1.toNat k.2.1
      vAbsent := t.vAbsent &&& ~~~(1#32 <<< k.1.toNat)
      vDirty := if k.2.2.dirty then t.vDirty ||| (1#32 <<< k.1.toNat) else t.vDirty
      vPoison := if k.2.2.poison then t.vPoison ||| (1#32 <<< k.1.toNat) else t.vPoison }) t)

/-- R135: the v lines of strand `i`, and of the image at `image`, are dropped from the register cache. -/
def State.dropLines (s : State) (c i : Nat) (image : Word) : State :=
  s.modBench (benchOf c) (fun b => { b with regCache := b.regCache.filter (fun l =>
    !(l.core == c && ((l.strand == i && l.out.isNone) || l.image == image))) })

/-- R135, R333: strand `i` of core `c` is restored from the image at `base`; the answer says whether it was loaded. `keep`:
lines of the image that the register cache still holds are found there (R336); else they are dropped (R135). -/
def State.loadStrand (s : State) (x : XCtx) (c i : Nat) (base : Word) (keep : Bool) : Except Stop (State × Bool) :=
  match s.translate x .load (base + 0x400) 0x400 with
  | .error f => .error (f.stop .load s)
  | .ok (s0, locs) =>
    let s1 := s0.noteImageAt x.core base
    let stays := (s1.modStrand c i Strand.stop, false)
    match s1.onDie locs with
    | .error _ => .ok stays
    | .ok s2 =>
      let bytes := locs.map (s2.readByte (if x.core = s.here then .strand s.here s.cur else .core x.core))
      let st := (bytes.drop 0x200).take 0x100
      let line7 := bytes.drop 0x300
      if s2.imageLoads c st line7 then
        let t := ((s2.strand c i).ofImage (bytes.take 0x200) st).writeSie (s2.isServer c) (recWord st 0xE0)
        let s3 := s2.setStrand c i t
        let s4 := if keep then s3.switchLinesIn c i base else s3.dropLines c i base
        if t.status = .live then
          let r := resumeOf t st line7
          .ok (s4.resumeStrand c i r.1 r.2, true)
        else .ok (s4, true)
      else .ok stays

/-- R336: a line is marked evictable: its strand has been switched out, is parked in wfi, or runs a trap handler. -/
def State.marksEvictable (s : State) (l : RegLine) : Bool :=
  let t := s.strand l.core l.strand
  l.out.isSome || t.park == some .wfi || !t.heldS.isEmpty || !t.heldM.isEmpty

/-- The v registers that an instruction names. -/
def linesNamed (i : Instr) : List (BitVec 5) :=
  (readsOf i ++ writesOf i).filterMap (fun r => match r with
    | .v n => some n
    | _ => none)

/-- R110: the line is one that the issuing strand, or an instruction bound, queued or outstanding, uses. -/
def State.lineUsed (s : State) (l : RegLine) : Bool :=
  l.out.isNone &&
    ((l.core == s.here && l.strand == s.cur) ||
      (s.strand l.core l.strand).pending.any (fun p => p.dst == .v l.reg) ||
      (s.vectorEntries l.core l.strand).any (fun e => (linesNamed e.instr).contains l.reg) ||
      (s.matrixEntries l.core l.strand).any (fun e => (linesNamed e.instr).contains l.reg))

/-- R110, R336: the line that leaves a full register cache, among those that no instruction uses: among the marked ones,
else among the others, the least recently used. The list is most recent first. -/
def State.regVictim (s : State) (ls : List RegLine) : Option RegLine :=
  let free := ls.filter (fun l => !s.lineUsed l)
  match (free.filter s.marksEvictable).getLast? with
  | some l => some l
  | none => free.getLast?

/-- R110: the strand of a line that leaves the register cache has it no more. -/
def Strand.loseLine (t : Strand) (l : RegLine) : Strand :=
  if l.out.isSome then t
  else
    { t with
      vAbsent := t.vAbsent ||| (1#32 <<< l.reg.toNat)
      vDirty := t.vDirty &&& ~~~(1#32 <<< l.reg.toNat)
      vPoison := t.vPoison &&& ~~~(1#32 <<< l.reg.toNat) }

/-- R229: is a line of the register cache poisoned? -/
def State.linePoisoned (s : State) (l : RegLine) : Bool :=
  match l.out with
  | some o => o.poison
  | none => (s.strand l.core l.strand).vPoison.getLsbD l.reg.toNat

/-- R110, R229: a line leaves the register cache: written back through the core's L1 if it is dirty, with its poison. -/
def State.spillReg (s : State) (l : RegLine) : State :=
  let t := s.strand l.core l.strand
  let drop := fun (s : State) =>
    (s.modStrand l.core l.strand (·.loseLine l)).modBench
      (benchOf l.core) (fun b => { b with regCache := b.regCache.filter (fun k => k != l) })
  let line := match l.out with
    | some o =>
      if o.dirty then (s.imageLine l.core l.image l.reg.toNat).map o.now else none
    | none => if t.vDirty.getLsbD l.reg.toNat then some (t.readV l.reg) else none
  match line with
  | none => drop s
  | some d =>
    match s.vLineAt .store l.core l.image l.reg.toNat with
    | .ok (s1, locs) =>
      match (s1.noteImageAt l.core l.image).onDie locs with
      | .ok s2 =>
        let s3 := s2.commit l.core 0 (locs.zip (lineBytes d))
        drop (if s.linePoisoned l then s3.poisonSectors locs else s3)
      | .error _ => s
    | .error _ => s

/-- R110: room for a line in the register cache of core `c`'s bench; `none` while instructions use every line. -/
def State.regRoom (s : State) (c : Nat) : Option State :=
  let ls := (s.bench (benchOf c)).regCache
  if ls.length < 256 then some s else (s.regVictim ls).map s.spillReg

/-- R110: v register `r` of strand `i` of core `c` takes its place in the register cache. -/
def State.cacheReg (s : State) (c i : Nat) (r : BitVec 5) : State :=
  s.modBench (benchOf c) (fun k => { k with regCache :=
    { core := c, strand := i, reg := r, image := (s.strand c i).ctxbase, out := none } :: k.regCache })

/-- R110, R335: v register `r` of a strand is filled from its image. -/
def State.fillReg (s : State) (c i : Nat) (r : BitVec 5) : Except Stop State :=
  match s.vLine .load c i r.toNat with
  | .error f => .error (f.stop .load s)
  | .ok (s1, locs) =>
    match s1.onDie locs with
    | .error va => .error (.trap causeIntegrity va s)
    | .ok s2 =>
      if s2.poisonedAt locs then
        .error (.trap causeMemory ((s.strand c i).ctxbase + BitVec.ofNat 64 (0x800 + 256 * r.toNat)) s)
      else
        match s2.regRoom c with
        | none => .error (.wait (.fill r) s)
        | some s3 =>
          let line := lineOf (locs.map (s3.byteFor (.core c)))
          let s4 := s3.modStrand c i (fun t =>
            { t with v := t.v.set r.toNat line, vAbsent := t.vAbsent &&& ~~~(1#32 <<< r.toNat) })
          .ok ((s4.cacheReg c i r).countEvent c evRegCacheMiss 1)

/-- R110: does the register cache hold v register `r` of a loaded strand? -/
def State.regCached (s : State) (c i : Nat) (r : BitVec 5) : Bool :=
  (s.bench (benchOf c)).regCache.any (fun l => l.core == c && l.strand == i && l.reg == r && l.out.isNone)

/-- R110: a line that an instruction uses becomes the most recently used; one that a strand has held since it started takes
its place in the register cache. -/
def State.touchReg (s : State) (c i : Nat) (r : BitVec 5) : Except Stop State :=
  let is := fun (l : RegLine) => l.core == c && l.strand == i && l.reg == r && l.out.isNone
  if s.regCached c i r then
    .ok (s.modBench (benchOf c) (fun b => { b with regCache := b.regCache.filter is ++ b.regCache.filter (fun l => !is l) }))
  else
    match s.regRoom c with
    | some s1 => .ok (s1.cacheReg c i r)
    | none => .error (.wait (.fill r) s)

/-- R110: the lines of the issuing strand that an instruction uses are in the register cache; in the deferred mode the
strand waits for each fill. -/
def State.useV (s : State) : List (BitVec 5) → Except Stop State
  | [] => .ok s
  | r :: rs =>
    if s.me.vAbsent.getLsbD r.toNat then
      if s.deferred then .error (.wait (.fill r) s)
      else
        match s.fillReg s.here s.cur r with
        | .ok s1 => s1.useV rs
        | .error e => .error e
    else
      match s.touchReg s.here s.cur r with
      | .ok s1 => s1.useV rs
      | .error e => .error e

end Sys2Proof.Machine
end

