-- ==== Sys2Proof/Machine/Vpe.lean ====
section
/-! DEFINITION. The vpe slots of a core: switching between them, the end of a vpe, and a core's part in its barrier
channels (R86-R88, R276-R282). -/

namespace Sys2Proof.Machine

/-! ## Slots -/

/-- The slot that core `c` runs. -/
def Core.slotAt (k : Core) (j : Nat) : Option Slot := k.slots[j]?

/-- The core with slot `j` changed. -/
def Core.modSlot (k : Core) (j : Nat) (f : Slot → Slot) : Core :=
  match k.slots[j]? with
  | some x => { k with slots := k.slots.set j (f x) }
  | none => k

/-- The live slots of a core, in ascending order. -/
def Core.liveSlots (k : Core) : List Nat :=
  (List.range k.slots.length).filter (fun j => ((k.slots[j]?).map (·.live)).getD false)

/-- R86, R337: every strand of a core is saved to the images of the slot it runs: at the home for a debug stop, else with
its v lines kept in the register cache, marked evictable. -/
def State.saveSlot (s : State) (c : Nat) (images : List Word) (home : Bool) : Except Stop State :=
  eachOf (fun s i => (s.saveStrand (s.deviceCtx c) c i (images.getD i 0) home).map (fun s =>
    if home then s else s.switchLinesOut c i)) allStrands s

/-- Every strand of a core is loaded from the images of a slot; the strands take its identifiers. -/
def State.loadSlot (s : State) (c : Nat) (x : Slot) : Except Stop State :=
  eachOf (fun s i =>
    let s1 := s.modStrand c i (fun t => { t with ctxbase := x.images.getD i 0 })
    (s1.loadStrand (s1.deviceCtx c) c i (x.images.getD i 0) true).map (fun r =>
      r.1.modStrand c i (fun t => { t with vpeid := x.vpeid, sstepcnt := x.sstepcnt }))) allStrands s

/-- R86: a slot switch whose images cannot be reached ends the launch, as a trap without a handler does. -/
def State.orDiscard (s : State) (c : Nat) (r : Except Stop State) : State :=
  match r with
  | .ok s1 => s1
  | .error (.trap cause _ _) => s.discardFor c 0 cause
  | .error (.wait _ _) => s

/-- R86: the core saves the vpe that it runs and loads slot `j`. A reservation of a strand (R31) stays with the core and the
strand's number across the switch (DESIGN CHOICE, log entry 121). -/
def State.switchSlot (s : State) (c j : Nat) : State :=
  let k := s.core c
  if k.slot = j then s
  else
    match k.slotAt j with
    | none => s
    | some x =>
      let saved := match k.slotAt k.slot with
        | some y => if y.live then s.saveSlot c y.images false else .ok s
        | none => .ok s
      s.orDiscard c (match saved with
        | .ok s1 => (s1.modCore c (fun k => { k with slot := j })).loadSlot c x
        | .error e => .error e)

/-! ## Channels -/

/-- Channel `ch` of a core. -/
def Core.channel (k : Core) (ch : Nat) : Channel := k.channels[ch]?.getD Channel.reset

/-- The state with a channel of a core changed. -/
def State.modChannel (s : State) (c ch : Nat) (f : Channel → Channel) : State :=
  s.modCore c (fun k => { k with channels := k.channels.setIfInBounds ch (f (k.channel ch)) })

/-- R276: the channel that serves a domain level of a core. -/
def State.channelOf (s : State) (c level : Nat) : Nat :=
  match ((s.core c).launch).bind s.launch with
  | some l => if level < 4 ∧ lpbDomain l.lpb level ≠ 0 then level else 4
  | none => 4

/-- R278: the fields of a membership word. -/
def Channel.isMember (h : Channel) : Bool := h.member.getLsbD 0
def Channel.span (h : Channel) : Nat := field h.member 8 2
def Channel.group (h : Channel) : Nat := field h.member 16 24

/-- R279: the scope of a channel's span. -/
def Channel.scope (h : Channel) : Nat := 3 + h.span

/-- Has the slot an arrival on the channel that is not released? -/
def Channel.hasArrived (h : Channel) (j : Nat) : Bool := h.arrived.any (·.1 == j)

/-- The earliest arrival of a channel's slots. -/
def Channel.earliest (h : Channel) (dflt : Word) : Word :=
  h.arrived.foldl (fun m a => if a.2.toNat < m.toNat then a.2 else m) ((h.arrived.head?.map (·.2)).getD dflt)

/-- R282: the milestone of the slots that executed sstep on a channel rises; the loaded vpe's strands show it. -/
def Core.advance (k : Core) (ch : Nat) : Core :=
  let up := fun (x : Slot) (j : Nat) => x.waiting == some ch && (k.channel ch).hasArrived j
  let slots := (List.range k.slots.length).zip k.slots |>.map (fun p =>
    if up p.2 p.1 then { p.2 with sstepcnt := p.2.sstepcnt + 1 } else p.2)
  { k with
    slots := slots
    strands := match slots[k.slot]? with
      | some x => k.strands.map (fun t => { t with sstepcnt := x.sstepcnt })
      | none => k.strands }

/-- R278, R289: a write of a channel's words; below supervisor only MEMBER of the membership word is taken. -/
def Channel.applyWrite (h : Channel) (w : ChannelWrite) : Channel :=
  if w.membership then
    { h with member := if w.user then (h.member &&& ~~~1#64) ||| (w.value &&& 1#64) else w.value }
  else { h with log := w.value }

/-- R279, R280: an arrival of the core on a channel is released: the milestones rise, the writes that waited are made, a
core without a live vpe arrives again at once, and the lowest live slot runs if the loaded one stands in its wait. -/
def State.releaseCore (s : State) (c ch : Nat) : State :=
  let live := (s.core c).liveSlots
  let s1 := s.modCore c (fun k => k.advance ch)
  let s2 := s1.modChannel c ch (fun h =>
    h.later.foldl Channel.applyWrite { h with arrived := [], sent := none, later := [] })
  let s3 := s2.modChannel c ch (fun h =>
    if live.isEmpty && h.isMember && (s.core c).launch.isSome then { h with sent := some s.tick } else h)
  let s4 := s3.traceRelease c ch
  match live, ((s4.core c).strand 0).park with
  | j :: _, some (.barrier _) => s4.switchSlot c j
  | _, _ => s4

/-- R278: the members of a core's group on this chip, in core order. -/
def State.groupMembers (s : State) (c ch : Nat) : List Nat :=
  let h := (s.core c).channel ch
  match ((s.core c).launch).bind s.launch with
  | none => []
  | some l => l.cores.filter (fun d =>
      let g := (s.core d).channel ch
      g.isMember && g.group == h.group && g.span == h.span)

/-- R282: an arrival record: EARLY, LATE, SUMLAG, LASTCORE, LASTCHIP, and how many members it is of. -/
structure ArrivalRecord where
  early : Word
  late : Word
  sumlag : Word
  lastCore : Nat
  lastChip : Nat
  members : Nat
  deriving DecidableEq, Repr

/-- R282: the record of the members of a group on this chip, all of which have arrived. -/
def State.localRecord (s : State) (c ch : Nat) : ArrivalRecord :=
  let ms := (s.groupMembers c ch).filterMap (fun d => ((s.core d).channel ch).sent.map (fun t => (d, t)))
  let t0 := (ms.head?.map (·.2)).getD s.tick
  let early := ms.foldl (fun m a => if a.2.toNat < m.toNat then a.2 else m) t0
  let last := ms.foldl (fun (m : Nat × Word) a => if m.2.toNat ≤ a.2.toNat then a else m) (c, early)
  { early := early, late := last.2, sumlag := ms.foldl (fun n a => n + (a.2 - early)) 0, lastCore := last.1,
    lastChip := s.chipNumber, members := ms.length }

/-- R282: the bytes of an arrival record, with the last four: SEQ in the log, the number of members on a barrier's route
(DESIGN CHOICE, log entry 136). -/
def ArrivalRecord.bytes (r : ArrivalRecord) (last : Nat) : List Byte :=
  leBytes 8 r.early.toNat ++ leBytes 8 r.late.toNat ++ leBytes 8 r.sumlag.toNat ++ leBytes 2 r.lastCore ++
    leBytes 2 r.lastChip ++ leBytes 4 last

/-- R278: has every member of a core's group on this chip arrived? -/
def State.groupArrived (s : State) (c ch : Nat) : Bool :=
  (s.groupMembers c ch).all (fun d => ((s.core d).channel ch).sent.isSome)

/-- R280, R303: once the members of a pod group on this chip have arrived, their record is the local source of the
barrier's route, or at the root the last contribution. -/
def State.armBarrier (s : State) (c ch : Nat) : State :=
  let h := (s.core c).channel ch
  if h.span = 2 && s.groupArrived c ch then
    let own := s.localRecord c ch
    let src := own.bytes own.members
    { s with routes := s.routes.map (fun r =>
        if some r.launch == (s.core c).launch && r.records.any (fun x => rrOp x == 5 && rrObj x == ch) &&
            r.state == .idle && !r.waiting && (r.hasSource || r.isRoot) then
          let r1 := { r with source := some src, waiting := true }
          s.tryRoute (if r.hasSource then { r1 with state := .armed } else r1)
        else r) }
  else s

/-- R279: when every live slot has arrived, the core's arrival goes up the tree, stamped with the earliest of theirs, or with
this tick where no vpe lives; a core that is no member is released at once. -/
def State.coreArrives (s : State) (c ch : Nat) : State :=
  let k := s.core c
  let h := k.channel ch
  if k.liveSlots.all h.hasArrived then
    if h.isMember then
      let stamp := if k.liveSlots.isEmpty then s.tick else h.earliest s.tick
      (s.modChannel c ch (fun h => { h with sent := h.sent.or (some stamp) })).armBarrier c ch
    else s.releaseCore c ch
  else s

/-- R279: slot `j` of a core arrives on a channel. -/
def State.slotArrives (s : State) (c j ch : Nat) : State :=
  (s.modChannel c ch (fun h => { h with arrived := h.arrived ++ [(j, s.tick)] })).coreArrives c ch

/-! ## The end of a vpe (R86, R87) -/

/-- R88: the launch's vpes have all ended on this chip. -/
def State.launchDone (s : State) (key : LaunchKey) : State :=
  match s.launch key with
  | some l =>
    if l.cores.all (fun c => (s.core c).liveSlots.isEmpty) then
      (s.setLaunch { l with localDone := true }).tryRetire key
    else s
  | none => s

/-- R86: the slot that runs after one has ended: the lowest live one whose arrival does not stand, or else the lowest
live one. -/
def Core.nextSlot (k : Core) : Option Nat :=
  match k.liveSlots.find? (fun j => match (k.slotAt j).bind (·.waiting) with
    | some ch => !(k.channel ch).hasArrived j
    | none => true) with
  | some j => some j
  | none => k.liveSlots.head?

/-- R86, R279: the vpe that core `c` runs ends: an ended vpe counts as arrived, the next slot runs, and with the last one
the core arrives on each of its channels. A control strand outside a launch just stops. -/
def State.endVpe (s : State) (c : Nat) : State :=
  let s1 := (s.drainAll c 0).modStrand c 0 Strand.ended
  match (s1.core c).launch with
  | none => s1
  | some key =>
    let s2 := s1.modCore c (fun k => k.modSlot k.slot (fun x => { x with live := false, waiting := none }))
    let s3 := (List.range 5).foldl (fun s ch =>
      let h := (s.core c).channel ch
      if h.arrived.isEmpty && !(s.core c).liveSlots.isEmpty then s
      else if (s.core c).liveSlots.isEmpty && !h.isMember then s
      else s.coreArrives c ch) s2
    let s4 := match (s3.core c).nextSlot with
      | some j => s3.switchSlot c j
      | none => s3
    s4.launchDone key

end Sys2Proof.Machine
end

