-- ==== Sys2Proof/Machine/Fence.lean ====
section
/-! DEFINITION. What a strand waits for before a fence, a release or the end of its program, and the fence step itself
(R106, R191, R264, R266, R273, R331). -/

namespace Sys2Proof.Machine

/-- R106: the strand parks until its outstanding results have arrived. -/
def State.afterResults (s : State) (f : State → Except Stop State) : Except Stop State :=
  if s.resultsIn s.here s.cur then f s else .error (.wait .results s)

/-- R191: the strand waits until its matrix-queue entries have completed. -/
def State.afterMatrix (s : State) (f : State → Except Stop State) : Except Stop State :=
  if s.myCore.mqueue.any (fun e => e.strand == s.cur) then .error (.wait .matrixDone s) else f s

/-- R264: the issuing strand's store buffer is emptied; a store to a line that an engine owns waits (R269). -/
def State.drainMine (s : State) : Except Stop State :=
  let s1 := s.drainAll s.here s.cur
  match s1.me.storeBuf with
  | [] => .ok s1
  | w :: _ => .error (.wait (.ownedLine ((s1.storeHeld s1.here s1.cur (w.cells.map (·.1))).getD 0)) s1)

/-- R268: does the strand's store buffer hold a store to one of these bytes? -/
def Strand.buffers (t : Strand) (locs : List Nat) : Bool := t.storeBuf.any (fun w => w.cells.any (fun x => locs.contains x.1))

/-- R264: stores of a strand drain until its buffer holds none to these bytes, at most `n` of them. -/
def State.drainOver (s : State) (c i : Nat) (locs : List Nat) : Nat → State
  | 0 => s
  | n + 1 => if (s.strand c i).buffers locs then (s.drainOne c i).drainOver c i locs n else s

/-- R268: the issuing strand's store buffer holds no store to these bytes; a store to a line that an engine owns waits (R269). -/
def State.drainTo (s : State) (locs : List Nat) : Except Stop State :=
  let s1 := s.drainOver s.here s.cur locs s.me.storeBuf.length
  match s1.me.storeBuf with
  | w :: _ =>
    if s1.me.buffers locs then
      .error (.wait (.ownedLine ((s1.storeHeld s1.here s1.cur (w.cells.map (·.1))).getD 0)) s1)
    else .ok s1
  | [] => .ok s1

/-- R264: every earlier load of the strand has performed. -/
def State.loadsPerformed (s : State) : Bool := s.me.pending.all (fun p => p.todo.isEmpty)

/-- R266, R273: the remote stores that a fence of scope 5 or 6 waits for. -/
def State.remoteWaits (s : State) : Bool :=
  let k := s.myCore
  k.combining.any (fun e => e.strand == s.cur) ||
    k.journal.any (fun e => e.2.strand == s.cur && e.2.state == .posted)

/-- R273: a refusal of the issuing strand's that is not delivered yet is taken, whatever the enables hold. -/
def State.takeRefusal (s : State) (f : State → Except Stop State) : Except Stop State :=
  match s.myCore.refusalFor s.cur with
  | some n => .error (.trap (interruptCause 17) (BitVec.ofNat 64 n) (s.clearInterrupt s.here s.cur 17))
  | none => f s

/-- R264, R266, R273: the fence step of the issuing strand at a scope, after its waits. -/
def State.fence (s : State) (scope : Nat) : Except Stop State :=
  s.afterMatrix (fun s =>
    if !s.loadsPerformed then .error (.wait .results s)
    else
      let step := fun (s : State) =>
        match s.drainMine with
        | .ok s1 => Except.ok (((if scope = 6 then s1.keepOlder s1.here else s1).raiseCore s1.here (scopeReach scope)).tagScope s1.here scope)
        | .error e => .error e
      if scope < 5 then step s
      else if s.remoteWaits then .error (.wait (.fence scope) s)
      else s.takeRefusal step)

/-- R331: the waits of the control strand's exit: no store of the vpe in the combining buffer, then no journal entry
POSTED; then a refusal not delivered is taken. -/
def State.exitWaits (s : State) (f : State → Except Stop State) : Except Stop State :=
  let k := s.myCore
  if !k.combining.isEmpty then .error (.wait .exitStores s)
  else if k.journal.any (fun e => e.2.state == .posted) then .error (.wait .exitPosted s)
  else
    match (allStrands.filterMap k.refusalFor).head? with
    | some n =>
      .error (.trap (interruptCause 17) (BitVec.ofNat 64 n)
        (s.modMyCore (fun k => { k with journal := k.journal.map (fun e =>
          if e.1 = n then (e.1, { e.2 with delivered := true }) else e) })))
    | none => f s

end Sys2Proof.Machine
end

