-- ==== Sys2Proof/Machine/Calls.lean ====
section
/-! DEFINITION. Calls, returns, helpers and the prefix (R109, R111-R125, R140). -/

namespace Sys2Proof.Machine

/-! ## Calls -/

/-- R63: the exit handle. -/
def exitHandle : Word := 0xFFFFFF0000000000#64

/-- A call or return of the issuing strand has entered a function. -/
def State.calledOut (s : State) : State := (s.modMe (fun t => { t with instret := t.instret + 1, park := none })).tally

/-- R112, R140: the issuing strand enters a function, with every check made; `s0` is the state at the instruction's
start. -/
def State.enterMe (s0 s1 : State) (r : List Byte) (w : Nat) (h : Word) : Except Stop State :=
  match s1.enter s0.here s0.cur r w (s0.savedPos s0.here s0.cur) none true with
  | .hit s => .ok s.calledOut
  | .missed s => .ok ((s.modMe (fun t => { t with park := none })).countEvent s.here evCodeMiss 1)
  | .denied _ =>
    .error (.trap causeCodePermission (digestTval (recDigest r))
      ((s0.countEvent s0.here evCodeMiss 1).reject s0.here rejNotPermitted))
  | .badWaypoint => .error (.trap causeReturnHandle h s0)

/-- The context of the issuing strand's data accesses. -/
def State.ctx (s : State) : XCtx := s.xctx s.here s.cur

/-- R115: the record of the current function. -/
def State.currentRecord (s : State) : Except Stop (State × List Byte) :=
  s.readData s.ctx s.cur (s.myCore.handle s.me.curdir.toNat) 64

/-- R115, R117: the handle of an import slot of a record. -/
def State.importHandle (s : State) (r : List Byte) (slot : BitVec 12) : Except Stop (State × Word) :=
  if recNimp r ≤ slot.toNat then .error (.trap causeCallHandle (slot.setWidth 64) s)
  else
    match s.readData s.ctx s.cur (recImph r + BitVec.ofNat 64 (8 * slot.toNat)) 8 with
    | .error e => .error e
    | .ok (s1, b) => .ok (s1, wordOf b)

/-- R112: the waypoint of the call at FPC. -/
def State.callWaypoint (s : State) : Except Stop Nat :=
  match (s.formOf s.here s.cur).bind (·.waypointOf s.me.fpc) with
  | some n => .ok n
  | none => .error (.trap causeCodeBound s.fpcWord s)

/-- R115: a call or tail call through a handle, in the function whose record is `cur`; `s` is the state at the
instruction's start. -/
def State.callThrough (s s1 : State) (cur : List Byte) (link : Bool) (h : Word) : Except Stop State :=
  match s1.checkHandle s1.ctx s1.cur h with
  | .error e => .error e
  | .ok (s2, r) =>
    match (if link then s.callWaypoint else .ok 0) with
    | .error e => .error e
    | .ok n =>
      match s2.dataBase s2.ctx s2.cur r with
      | .error e => .error e
      | .ok (s3, gp) =>
        let s4 := if link then s3.writeX ra (returnHandle s.me.curdir n (recDigest cur)) else s3
        State.enterMe s (s4.writeX 3#5 gp) r 0 h

/-- R115: a call or tail call of an import slot. -/
def State.callSlot (s : State) (link : Bool) (slot : BitVec 12) : Except Stop State :=
  s.afterResults (fun s =>
    match s.currentRecord with
    | .error e => .error e
    | .ok (s1, cur) =>
      match s1.importHandle cur slot with
      | .error e => .error e
      | .ok (s2, h) => s.callThrough s2 cur link h)

/-- R116: a call or tail call through a register, which is read first. -/
def State.callRegister (s : State) (link : Bool) (rs1 : BitVec 5) : Except Stop State :=
  s.afterResults (fun s =>
    match s.currentRecord with
    | .error e => .error e
    | .ok (s1, cur) => s.callThrough s1 cur link (s.x rs1))

/-- R115: calld. -/
def execCalld (imm : BitVec 12) (s : State) : Host.Outcome State Fault Refusal := s.plain (·.callSlot true imm)

/-- R115: tcalld. -/
def execTcalld (imm : BitVec 12) (s : State) : Host.Outcome State Fault Refusal := s.plain (·.callSlot false imm)

/-- R116: callh. -/
def execCallh (rs1 : BitVec 5) (s : State) : Host.Outcome State Fault Refusal := s.plain (·.callRegister true rs1)

/-- R116: tcallh. -/
def execTcallh (rs1 : BitVec 5) (s : State) : Host.Outcome State Fault Refusal := s.plain (·.callRegister false rs1)

/-- R117: fhand. -/
def execFhand (rd : BitVec 5) (imm : BitVec 12) (s : State) : Host.Outcome State Fault Refusal :=
  s.checked 4 (fun s =>
    match s.currentRecord with
    | .error e => .error e
    | .ok (s1, r) =>
      match s1.importHandle r imm with
      | .error e => .error e
      | .ok (s2, h) => .ok (s2.writeX rd h))

/-! ## The end of a program (R119, R124) -/

/-- R104, R124: an ENDING helper is FREE once its results have arrived and its stores are visible at core scope. -/
def State.tryFree (s : State) (c i : Nat) : State :=
  let s1 := s.drainAll c i
  let t := s1.strand c i
  if t.status = .ending ∧ s1.resultsIn c i ∧ t.storeBuf.isEmpty then s1.modStrand c i Strand.ended else s1

/-- R124: the issuing helper moves to ENDING; outside the deferred mode it is FREE as soon as it may be. -/
def State.endHelper (s : State) : Except Stop State :=
  s.afterResults (fun s => s.afterMatrix (fun s =>
    let s1 := s.modMe (fun t =>
      { t with status := .ending, park := none, pos := .nowhere, heldS := [], heldM := [], instret := t.instret + 1 }) |>.tally
    .ok (if s1.deferred then s1 else s1.tryFree s1.here s1.cur)))

/-- R123: the hpoll word of a core. -/
def Core.pollWord (k : Core) : Word :=
  ((List.range 10).map (· + 1)).foldl (fun w i =>
    if (k.strand i).status = .free then w else w ||| (1#64 <<< i)) 1#64

/-- R119, R331: the exit of the issuing strand's program. -/
def State.exitProgram (s : State) : Except Stop State :=
  if s.cur ≠ 0 then s.endHelper
  else
    s.afterMatrix (fun s =>
      let helpers := ((List.range 10).map (· + 1)).map s.myCore.strand
      if helpers.any (fun t => t.status == .live) then .error (.trap causeHelperLive s.myCore.pollWord s)
      else if helpers.any (fun t => t.status == .ending) then .error (.wait .helpersEnded s)
      else s.exitWaits (fun s =>
        .ok ((s.modMe (fun t => { t with instret := t.instret + 1 })).tally.endVpe s.here)))

/-- R118: reth. -/
def execReth (rs1 : BitVec 5) (s : State) : Host.Outcome State Fault Refusal :=
  s.plain (fun s => s.afterResults (fun s =>
    let h := s.x rs1
    if h = exitHandle then s.exitProgram
    else if s.myCore.nfdir ≤ field h 40 24 then .error (.trap causeReturnHandle h s)
    else
      match s.readData s.ctx s.cur (s.myCore.handle (field h 40 24)) 64 with
      | .error e => .error e
      | .ok (s1, r) =>
        if !recValid r || h.extractLsb' 0 24 != (recDigest r).extractLsb' 0 24 || field h 24 16 == 0 then
          .error (.trap causeReturnHandle h s)
        else
          match s1.dataBase s1.ctx s1.cur r with
          | .error e => .error e
          | .ok (s2, gp) => State.enterMe s (s2.writeX 3#5 gp) r (field h 24 16) h))

/-! ## Helpers -/

/-- R121: the lowest FREE helper. -/
def Core.freeHelper (k : Core) : Option Nat :=
  ((List.range k.helpers).map (· + 1)).find? (fun i => (k.strand i).status == .free)

/-- R69, R72: the LID by which the executive places the stacks of the issuing core's strands; 0 outside a launch. -/
def Core.launchKey (k : Core) : LaunchKey := k.launch.getD { issuer := 0, lid := 0 }

/-- R85, R121: the registers of a helper that starts. -/
def Strand.startHelper (t ctl : Strand) (sp tp : Word) (i : Nat) (arg gp : Word) (r : List Byte) : Strand :=
  let t0 : Strand := { t with x := Vector.replicate 32 0 }
  let t1 := ((((((t0.writeX 10#5 arg).writeX 11#5 (BitVec.ofNat 64 i)).writeX 1#5 exitHandle).writeX 2#5
    sp).writeX 4#5 tp).writeX 3#5 gp)
  { t1 with
    status := .live
    curdir := BitVec.ofNat 24 (recDirIdx r)
    fpc := 0
    pos := .first r
    heldS := [], heldM := [], park := none, pending := []
    priv := ctl.priv, pp := false, vround := ctl.vround, vfflags := 0, mcfgw := 0, mstra := 0, mstrb := 0, mkLen := 0
    mrp := 0, gsel := 0, rqprog := 0, vpeid := ctl.vpeid, vpecnt := ctl.vpecnt, sstepcnt := ctl.sstepcnt
    mstatus := maskStatus t.mstatus ctl.mstatus, sie := ctl.sie
    mie := maskInto t.mie ctl.mie (t.mideleg &&& ctl.mideleg), stvec := ctl.stvec, sscratch := ctl.sscratch
    sepc := ctl.sepc, scause := ctl.scause, stval := ctl.stval, ip := maskPending t.ip ctl.ip }
where
  /-- R85: the supervisor's bits of the status are the control strand's. -/
  maskStatus (own ctl : Word) : Word := (own &&& ~~~0x000C0122#64) ||| (ctl &&& 0x000C0122#64)
  /-- R85, R328: the interrupts pending in sip are the control strand's. -/
  maskPending (own ctl : Word) : Word := (own &&& ~~~0x40220#64) ||| (ctl &&& 0x40220#64)

/-- R69: the stack that the executive has reserved for a strand of the vpe that the issuing core runs. -/
def State.helperStack (s : State) (i : Nat) : Word :=
  BitVec.ofNat 64 (stackTop s.myCore.launchKey (((s.launch s.myCore.launchKey).map (·.lpb)).getD []) s.me.vpeid i)

/-- R121: start. -/
def execStart (rd rs1 rs2 : BitVec 5) (s : State) : Host.Outcome State Fault Refusal :=
  s.checked 4 (fun s => s.require (s.cur == 0) (fun s =>
    match s.checkHandle s.ctx s.cur (s.x rs1) with
    | .error e => .error e
    | .ok (s1, r) =>
      match s1.myCore.freeHelper with
      | none => .ok (s1.writeX rd 0)
      | some i =>
        match s1.dataBase s1.ctx s1.cur r with
        | .error e => .error e
        | .ok (s2, gp) =>
          match s2.drainMine with
          | .error e => .error e
          | .ok s3 =>
            let tp := localBase s3.myCore.launchKey s3.me.vpeid i
            .ok ((s3.modStrand s3.here i (fun t =>
              t.startHelper s3.me (s3.helperStack i) tp i (s.x rs2) gp r)).writeX rd
              (BitVec.ofNat 64 i))))

/-- R124: hend. -/
def execHend (s : State) : Host.Outcome State Fault Refusal :=
  s.plain (fun s => s.require (s.cur != 0) (fun s => s.endHelper))

/-- R122: hjoin. -/
def execHjoin (rd rs1 : BitVec 5) (s : State) : Host.Outcome State Fault Refusal :=
  s.checked 4 (fun s => s.require (s.cur == 0) (fun s =>
    let n := (s.x rs1).toNat
    if n < 1 ∨ 10 < n then .ok (s.writeX rd 1)
    else if (s.myCore.strand n).status = .free then .ok (s.writeX rd 0)
    else .error (.wait (.helperFree n) s)))

/-- R123: hpoll. -/
def execHpoll (rd : BitVec 5) (s : State) : Host.Outcome State Fault Refusal :=
  s.checked 4 (fun s => s.require (s.cur == 0) (fun s => .ok (s.writeX rd s.myCore.pollWord)))

/-- R104: an ENDING helper's outstanding results have arrived. -/
def execHelperFree (core strand : Nat) (s : State) : Host.Outcome State Fault Refusal :=
  .next (if (s.strand core strand).status = .ending then s.tryFree core strand else s)

/-! ## The prefix (R38, R109, R125) -/

/-- R38: the word of a pfx. -/
def pfxWord (fmt1 fmt2 n : BitVec 5) (smode : BitVec 2) (sreg : BitVec 5) : BitVec 32 :=
  n ++ smode ++ sreg ++ fmt2 ++ 0b011#3 ++ fmt1 ++ 0b0001011#7

/-- R109, R125: pfx. -/
def execPfx (fmt1 fmt2 n : BitVec 5) (smode : BitVec 2) (sreg : BitVec 5) (s : State) :
    Host.Outcome State Fault Refusal :=
  s.checked 4 (fun s =>
    let w := pfxWord fmt1 fmt2 n smode sreg
    s.require (Prefix.ofWord w).legal (fun s => .ok (s.modMe (fun t => { t with pp := true, kpfx := w }))))

/-! ## The first look-up of a helper (R121) -/

/-- R121, R140: the first look-up of a strand, of the function whose record `r` started it, at its first issue. -/
def State.firstLookup (s : State) (c i : Nat) (r : List Byte) : State :=
  let t := s.strand c i
  let saved : SavedPos := { dir := t.curdir, fpc := 0, form := none, ra := t.readX 1#5, gp := t.readX 3#5, dig := 0 }
  match s.enter c i r 0 saved none false with
  | .hit s2 => s2
  | .missed s2 => s2
  | .denied s2 => (s2.modStrand c i (fun t => { t with pos := .nowhere })).takeTrap c i causeCodePermission
      (digestTval (recDigest r))
  | .badWaypoint => s

end Sys2Proof.Machine
end

