-- ==== Sys2Proof/Machine/Services.lean ====
section
/-! DEFINITION. System calls, notifications, the shelf instructions, contexts, world switches, waitev and mark
(R128-R140). -/

namespace Sys2Proof.Machine

/-- The alignment exception of the control instructions. -/
def State.aligned (s : State) (a : Access) (va : Word) (n : Nat) (f : State → Except Stop State) : Except Stop State :=
  if va.toNat % n = 0 then f s
  else .error (.trap (if a = .load then causeLoadMisaligned else causeStoreMisaligned) va s)

/-- The value all ones. -/
def ones : Word := BitVec.allOnes 64

/-! ## System calls and notifications -/

/-- R128: the ticket after `t`. -/
def nextTicket (t : BitVec 32) : BitVec 32 := if t = BitVec.allOnes 32 then 1 else t + 1

/-- R128: sysc. -/
def execSysc (rd rs1 : BitVec 5) (dep : BitVec 1) (s : State) : Host.Outcome State Fault Refusal :=
  s.checked 4 (fun s => s.aligned .load (s.x rs1) 64 (fun s =>
    if 32 ≤ s.myCore.syscalls.length then .error (.wait .syscallQueue s)
    else
      match s.loadNow (s.x rs1) 64 with
      | .error e => .error e
      | .ok (s1, bytes) =>
        let t := s1.myCore.ticket
        .ok ((s1.modMyCore (fun k =>
          { k with
            ticket := nextTicket t
            syscalls := k.syscalls ++ [{ bytes := bytes, ticket := t, strong := dep == 1, strand := s1.cur }] })).writeX
          rd (t.setWidth 64))))

/-- R130: sysw. -/
def execSysw (rd rs1 : BitVec 5) (s : State) : Host.Outcome State Fault Refusal :=
  s.checked 4 (fun s =>
    let t := (s.x rs1).extractLsb' 0 32
    let k := s.myCore
    if k.syscalls.any (fun p => p.ticket == t) then .error (.wait (.ticket t) s)
    else
      match k.completed.find? (fun p => p.1 == t) with
      | some p => .ok (s.writeX rd p.2)
      | none => .ok (s.writeX rd ones))

/-- R131: nfy. -/
def execNfy (rd rs1 rs2 : BitVec 5) (s : State) : Host.Outcome State Fault Refusal :=
  s.checked 4 (fun s => s.aligned .load (s.x rs1) 32 (fun s =>
    match s.loadNow (s.x rs1) 32 with
    | .error e => .error e
    | .ok (s1, r) =>
      let blocks := s1.queueBlocks s1.myCore.ld.toNat 0
      match blocks[(s.x rs2).toNat]? with
      | none => .ok (s1.writeX rd 2)
      | some b =>
        if recNat r 0 2 < 0x100 then .ok (s1.writeX rd 3)
        else
          match s1.fence 6 with
          | .error e => .error e
          | .ok s2 =>
            let p := s2.postTo b r
            .ok (p.1.writeX rd (boolWord p.2))))

/-! ## The code shelf (R132, R133) -/

/-- R90: the image of a directory entry. -/
def DirEntry.image (d : DirEntry) : List Byte :=
  leBytes 32 d.digest.toNat ++ leBytes 1 d.vf.toNat ++ leBytes 1 d.kind.code ++
    leBytes 2 (1 + 2 * d.pinned.toNat + 4 * d.hold.toNat + 8 * d.isOver.toNat) ++ leBytes 4 d.code.length ++
    leBytes 2 d.nwp ++ leBytes 2 d.src ++ leBytes 4 d.last.toNat ++ leBytes 8 d.firstPage ++ leBytes 8 0

/-- R132: does the strand see the entry? -/
def State.seesEntry (s : State) (d : DirEntry) : Bool := s.me.priv == .machine || d.vf == s.myCore.vfNow

/-- The digest in memory at an address, 8-byte aligned. -/
def State.digestAt (s : State) (va : Word) (f : State → Digest → Except Stop State) : Except Stop State :=
  s.aligned .load va 8 (fun s =>
    match s.loadNow va 32 with
    | .error e => .error e
    | .ok (s1, b) => f s1 (BitVec.ofNat 256 (leNat b)))

/-- The cluster of the issuing strand. -/
def State.myCluster (s : State) : Cluster := s.cluster (clusterOf s.here)

/-- R132: cprobe. -/
def execCprobe (rd rs1 rs2 : BitVec 5) (s : State) : Host.Outcome State Fault Refusal :=
  s.checked 4 (fun s =>
    let sel := (s.x rs2).toNat
    let k := s.myCluster
    if sel < 0x40 then
      s.aligned .store (s.x rs1) 64 (fun s =>
        match (k.entry sel).filter s.seesEntry with
        | some d => (s.storeBytes (s.x rs1) d.image).map (·.writeX rd 0)
        | none => (s.storeBytes (s.x rs1) (List.replicate 64 0)).map (·.writeX rd 1))
    else if 0x100 ≤ sel ∧ sel < 0x108 then .ok (s.writeX rd ((k.rejections[sel - 0x100]?.getD 0).setWidth 64))
    else if sel = 0x200 then .ok (s.writeX rd (BitVec.ofNat 64 (k.dir.filter (fun e => s.seesEntry e.2)).length))
    else if sel = 0x201 then .ok (s.writeX rd (BitVec.ofNat 64 k.freePages.length))
    else if sel = 0x300 then
      s.digestAt (s.x rs1) (fun s d =>
        .ok (s.writeX rd (match s.myCluster.lookup d s.myCore.vfNow with
          | some e => BitVec.ofNat 64 e.1
          | none => ones)))
    else if 0x400 ≤ sel ∧ sel < 0x480 then .ok (s.writeX rd ((k.row (sel - 0x400)).setWidth 64))
    else .ok (s.writeX rd ones))

/-- R113: supervisor or machine mode. -/
def State.privileged (s : State) (f : State → Except Stop State) : Except Stop State := s.require (s.me.priv != .user) f

/-- The issuing cluster with a directory entry changed. -/
def State.setEntry (s : State) (e : Nat) (d : DirEntry) : State :=
  s.modCluster (clusterOf s.here) (fun k => { k with dir := mapPut k.dir e d })

/-- R133: cpin of a resident entry. -/
def State.pinEntry (s : State) (rd : BitVec 5) (e : Nat) (d : DirEntry) : State :=
  let r := s.myCluster.pin e d
  (s.setCluster (clusterOf s.here) r.1).writeX rd r.2

/-- R133: cpin. -/
def execCpin (rd rs1 : BitVec 5) (s : State) : Host.Outcome State Fault Refusal :=
  s.checked 4 (fun s => s.privileged (fun s => s.digestAt (s.x rs1) (fun s d =>
    match s.myCluster.lookup d s.myCore.vfNow with
    | some e => .ok (s.pinEntry rd e.1 e.2)
    | none =>
      match s.startFetch s.here d false none with
      | .ok s1 => .error (.wait (.fetch d (some rd)) s1)
      | .error s1 => .ok (s1.writeX rd 1))))

/-- R133: cunpin. -/
def execCunpin (rd rs1 : BitVec 5) (s : State) : Host.Outcome State Fault Refusal :=
  s.checked 4 (fun s => s.privileged (fun s => s.digestAt (s.x rs1) (fun s d =>
    match (s.myCluster.lookup d s.myCore.vfNow).filter (fun e => e.2.pinned) with
    | some e => .ok ((s.setEntry e.1 { e.2 with pinned := false }).writeX rd 0)
    | none => .ok (s.writeX rd 1))))

/-- R133: cevict. -/
def execCevict (rd rs1 : BitVec 5) (s : State) : Host.Outcome State Fault Refusal :=
  s.checked 4 (fun s => s.privileged (fun s => s.digestAt (s.x rs1) (fun s d =>
    match s.myCluster.lookup d s.myCore.vfNow with
    | none => .ok (s.writeX rd 1)
    | some e =>
      if s.evictable (clusterOf s.here) e.1 e.2 then
        .ok ((s.modCluster (clusterOf s.here) (fun k => k.evictEntry e.1)).writeX rd 0)
      else .ok (s.writeX rd 2))))

/-! ## Contexts (R134, R135) -/

/-- The strands that a mask names, the issuing one excepted, in ascending order. -/
def State.maskStrands (s : State) (mask : Word) : List Nat :=
  allStrands.filter (fun i => mask.getLsbD i && i != s.cur)

/-- The mask of a list of strands. -/
def maskOf (is : List Nat) : Word := is.foldl (fun w i => w ||| (1#64 <<< i)) 0

/-- The context in which an instruction of the issuing strand reaches images: their pages' U bit is not checked. -/
def State.imageCtx (s : State) : XCtx := { s.ctx with sum := true }

/-- R140: an action that is precise: where it ends early, nothing but its own exception or wait happens. -/
def State.precise (s : State) (f : State → Except Stop State) : Except Stop State :=
  match f s with
  | .ok s1 => .ok s1
  | .error (.trap cause tval _) => .error (.trap cause tval s)
  | .error (.wait p _) => .error (.wait p s)

/-- R134, R137: a strand stands at an instruction boundary with its results arrived: no instruction of it is in a matrix
queue before its retirement or in a vqred step, and it does not enter a handler. -/
def State.standsStill (s : State) (c i : Nat) : Bool :=
  let t := s.strand c i
  t.pending.isEmpty && s.vqredBetween c i && (s.vectorEntries c i).all VEntry.isReduce &&
    (s.matrixEntries c i).all (·.retired) &&
    (match t.pos with
    | .entering _ _ _ => false
    | _ => true)

/-- R134: the strands of the issuing core in a list are held, or released. -/
def State.holdStrands (s : State) (is : List Nat) (b : Bool) : State :=
  is.foldl (fun s i => s.modStrand s.here i (fun t => { t with onHold := b })) s

/-- R134: ctxflush. It holds the strands that it names until they stand still, and writes them to their images. -/
def execCtxflush (rd rs1 : BitVec 5) (s : State) : Host.Outcome State Fault Refusal :=
  s.checked 4 (fun s => s.privileged (fun s => s.afterMatrix (fun s =>
    let is := s.maskStrands (s.x rs1)
    if is.any (fun i => !s.standsStill s.here i) then .error (.wait .holding (s.holdStrands is true))
    else
      ((s.holdStrands is false).precise (eachOf (fun s i =>
        s.saveStrand s.imageCtx s.here i (s.strand s.here i).ctxbase true) is)).map (·.writeX rd (maskOf is)))))

/-- R135, R336: strands of a core are restored from images; the strands loaded. -/
def State.loadStrands (s : State) (x : XCtx) (c : Nat) (bases : List (Nat × Word)) (keep : Bool) :
    Except Stop (State × List Nat) :=
  bases.foldl (fun r b =>
    match r with
    | .ok (s, done) =>
      match s.loadStrand x c b.1 b.2 keep with
      | .ok (s1, true) => .ok (s1, done ++ [b.1])
      | .ok (s1, false) => .ok (s1, done)
      | .error e => .error e
    | .error e => .error e) (.ok (s, []))

/-- R135: ctxload. -/
def execCtxload (rd rs1 : BitVec 5) (s : State) : Host.Outcome State Fault Refusal :=
  s.checked 4 (fun s => s.privileged (fun s =>
    let is := (s.maskStrands (s.x rs1)).filter (fun i => (s.strand s.here i).status != .live)
    s.precise (fun s =>
      (s.loadStrands s.imageCtx s.here (is.map (fun i => (i, (s.strand s.here i).ctxbase))) false).map (fun r =>
        r.1.writeX rd (maskOf r.2)))))

/-! ## World switches (R136, R137) -/

/-- R136: does a descriptor break its layout? -/
def descriptorBad (b : List Byte) : Bool :=
  recNat b 0 4 != 0x444C574B || 63 < recNat b 4 1 || 15 < recNat b 5 1 || recNat b 4 1 / 4 != recNat b 5 1 ||
    127 < recNat b 6 2 ||
    (List.range 4).any (fun i => recNat b (0x10 + 8 * i) 8 / 512 != 0 || recNat b (0x36 + 8 * i) 2 != 0) ||
    (recWord b 0x70 &&& 0xFC#64) != 0 || 16 ≤ recNat b 0x78 2 || recNat b 0x7A 6 != 0

/-- R137: may the target core stop now: its strands at boundaries, its results arrived, its stores accepted into its
journal? -/
def State.canStop (s : State) (t : Nat) : Bool :=
  let k := s.core t
  k.combining.isEmpty && k.mqueue.isEmpty && allStrands.all (s.standsStill t)

/-- R137: the counters of the outgoing world are stored into its descriptor. -/
def Core.worldBytes (k : Core) : List Byte :=
  k.evsel.toList.flatMap (fun w => leBytes 8 w.toNat) ++ k.evcnt.toList.flatMap (fun w => leBytes 8 w.toNat) ++
    k.evallow.toList.flatMap (fun w => leBytes 8 w.toNat) ++ leBytes 8 k.evmode.toNat ++ leBytes 2 k.ovf.toNat

/-- R136: the ctxbase values at CTXTAB of a descriptor. -/
def State.ctxTable (s : State) (d : List Byte) : Except Stop (State × List (Nat × Word)) :=
  match s.readData s.ctx s.cur (recWord d 8) 88 with
  | .error e => .error e
  | .ok (s1, b) => .ok (s1, allStrands.map (fun i => (i, recWord b (8 * i))))

/-- R137: the outgoing world of core `t` is saved to the descriptor at `o`. -/
def State.saveWorld (s : State) (t : Nat) (o : Word) : Except Stop State :=
  match s.readData s.ctx s.cur o 128 with
  | .error e => .error e
  | .ok (s1, d) =>
    match s1.ctxTable d with
    | .error e => .error e
    | .ok (s2, bases) =>
      let s3 := allStrands.foldl (fun s i => s.leaveWait t i) s2
      match eachOf (fun s (b : Nat × Word) =>
          (s.saveStrand s.imageCtx t b.1 b.2 true).map (fun s => s.switchLinesOut t b.1)) bases s3 with
      | .error e => .error e
      | .ok s4 =>
        match s4.translate s4.ctx .store (o + 0x10) 0x6A with
        | .error f => .error (f.stop .store s)
        | .ok (s5, locs) => .ok (s5.commitHome (locs.zip (s5.core t).worldBytes))

/-- R137: the incoming world's descriptor is loaded into a core. -/
def Core.loadWorld (k : Core) (d : List Byte) : Core :=
  { k with
    vf := BitVec.ofNat 6 (recNat d 4 1)
    ld := BitVec.ofNat 4 (recNat d 5 1)
    keyslot := recNat d 6 2
    evsel := Vector.ofFn (fun (i : Fin 4) => recWord d (0x10 + 8 * i.val))
    evcnt := Vector.ofFn (fun (i : Fin 4) => BitVec.ofNat 48 (recNat d (0x30 + 8 * i.val) 6))
    evallow := Vector.ofFn (fun (i : Fin 4) => recWord d (0x50 + 8 * i.val))
    evmode := recWord d 0x70
    ovf := BitVec.ofNat 4 (recNat d 0x78 1) }

/-- R137, R182, R253, R306: the target's strands stop; its FIFOs and receive queues are emptied; reservations and watches
end and its matrix claims are released. -/
def State.haltCore (s : State) (t : Nat) : State :=
  let s1 := (s.modCore t (fun k => k.stopAll.emptySinks)).releaseMatrix t
  { s1 with
    reservations := s1.reservations.filter (fun r => r.core != t)
    watches := s1.watches.filter (fun w => w.core != t) }

/-- R137: the world of core `t` is switched. The descriptor of the incoming world is read after every store to that of the
outgoing one. -/
def State.switchWorld (s : State) (t : Nat) (d : Word) : Except Stop State :=
  let o := (s.core t).wdesc
  let lost := fun (s : State) => s.modBench (benchOf t) (fun b =>
    { b with regCache := b.regCache.filter (fun l => l.core != t || l.out.isSome) })
  let saved := if o = 0 then Except.ok (lost s) else s.saveWorld t o
  match saved with
  | .error e => .error e
  | .ok s1 =>
    let s2 := s1.haltCore t
    if d = 0 then .ok (s2.modCore t (fun k => { k with wdesc := 0 }))
    else
      match s2.readData s2.ctx s2.cur d 128 with
      | .error e => .error e
      | .ok (s3, desc) =>
        match s3.ctxTable desc with
        | .error e => .error e
        | .ok (s4, bases) =>
          let s5 := s4.modCore t (fun k => { (k.loadWorld desc) with wdesc := d })
          let s6 := bases.foldl (fun s b => s.modStrand t b.1 (fun x => { x with ctxbase := b.2 })) s5
          match s6.loadStrands s6.imageCtx t bases true with
          | .error e => .error e
          | .ok (s7, _) => .ok s7

/-- R365: the accesses of this instruction are not counted at core `t`. -/
def State.notCountedAt (s : State) (t : Nat) : State :=
  { s with cacheUses := s.cacheUses.map (fun u => { u with uncounted := some t }) }

/-- R137: wsw. -/
def execWsw (rd rs1 rs2 : BitVec 5) (s : State) : Host.Outcome State Fault Refusal :=
  s.checked 4 (fun s => s.require (s.me.priv == .machine && s.isServer s.here) (fun s =>
    s.afterResults (fun s => s.afterMatrix (fun s =>
      let t := (s.x rs1).toNat
      let d := s.x rs2
      if 4095 < t || s.isServer t then .ok (s.writeX rd 1)
      else
        let desc : Except Stop (State × List Byte) :=
          if d = 0 then .ok (s, [])
          else if d.toNat % 64 ≠ 0 then .ok (s, List.replicate 128 0)
          else s.readData s.ctx s.cur d 128
        match desc with
        | .error e => .error e
        | .ok (s1, b) =>
          if d != 0 && descriptorBad b then .ok (s1.writeX rd 2)
          else if !s1.canStop t then .error (.wait (.worldStop t) (s1.modCore t (fun k => { k with stopping := true })))
          else
            ((s1.modCore t (fun k => { k with stopping := false })).precise (·.switchWorld t d)).map
              (fun s => (s.notCountedAt t).writeX rd (s1.core t).wdesc)))))

/-! ## Waiting and marking (R138, R139) -/

/-- R138: the watch of a strand. -/
def State.watchOf (s : State) (c i : Nat) : Option Watch := s.watches.find? (fun w => w.core == c && w.strand == i)

/-- R138: the watch of the waitev in which the issuing strand is parked; `true`: its line has been stored to or lost. -/
def State.waitevFired (s : State) : Option Bool :=
  if s.me.park = some .watchWord then (s.watchOf s.here s.cur).map (·.fired) else none

/-- R138: waitev. -/
def execWaitev (rd rs1 rs2 : BitVec 5) (s : State) : Host.Outcome State Fault Refusal :=
  s.checked 4 (fun s => s.aligned .load (s.x rs1) 8 (fun s =>
    if s.waitevFired = some false then .error (.wait .watchWord s)
    else
      match s.loadLocs (s.x rs1) 8 with
      | .error e => .error e
      | .ok (s1, locs) =>
        let v := wordOf (s1.bytesOf locs)
        let s2 := s1.disarm s1.here s1.cur
        if s.waitevFired = some true ∨ v ≠ s.x rs2 then .ok (s2.writeX rd v)
        else
          .error (.wait .watchWord
            { s2 with watches :=
                { core := s2.here, strand := s2.cur, line := lineNo (locs.headD 0), fired := false } :: s2.watches })))

/-- R139: mark. -/
def execMark (rs1 : BitVec 5) (s : State) : Host.Outcome State Fault Refusal :=
  s.straight 4 (fun s => s.trace s.here 1 s.cur (s.x rs1))

/-- R138: a watched line was stored to, or left the core's L1: the strand wakes. -/
def execWaitevWake (core strand : Nat) (s : State) : Host.Outcome State Fault Refusal :=
  .next (match s.watchOf core strand with
    | some w =>
      if w.fired && (s.strand core strand).park == some .watchWord then
        s.modStrand core strand (fun t => { t with park := none })
      else s
    | none => s)

end Sys2Proof.Machine
end

