-- ==== Sys2Proof/Machine/VectorOps.lean ====
section
/-! DEFINITION. A v register as an array of elements, under a governing predicate: mapping, comparing and reducing
(R146, R160-R162, R165, R166, R170-R173). -/

namespace Sys2Proof.Machine

/-! ## Elements (R161) -/

/-- R36: the element size of a width code. -/
def elemBytes (w : BitVec 2) : Nat := 2 ^ w.toNat

/-- R161: the elements of `n` bytes of a line. -/
def lanes (n : Nat) : Nat := 256 / n

/-- Element `i` of a line, of `n` bytes. -/
def elemNat (l : Line) (n i : Nat) : Nat := (l.extractLsb' (8 * n * i) (8 * n)).toNat

/-- The line whose elements of `n` bytes are the list's; missing elements are 0. -/
def lineOfElems (n : Nat) (es : List Nat) : Line :=
  BitVec.ofNat 2048 (es.foldr (fun e acc => e % 2 ^ (8 * n) + 2 ^ (8 * n) * acc) 0)

/-- R161: is element `i` of `n` bytes active? -/
def active (p : Pred) (n i : Nat) : Bool := p.getLsbD (i * n)

/-- R36: the governing predicate of a pg field. -/
def Strand.governing (t : Strand) (pg : BitVec 2) : Pred := t.readP (pg.setWidth 3)

/-- R161: the line whose active elements are `f i`, the others those of `d`. -/
def mapLine (n : Nat) (p : Pred) (d : Line) (f : Nat → Nat) : Line :=
  lineOfElems n ((List.range (lanes n)).map (fun i => if active p n i then f i else elemNat d n i))

/-- R165: a predicate with every bit of element `i` set to `f i`. -/
def predOf (n : Nat) (f : Nat → Bool) : Pred :=
  BitVec.ofNat 256 ((List.range (lanes n)).foldr (fun i acc => (if f i then 2 ^ n - 1 else 0) + 2 ^ n * acc) 0)

/-- The active elements of a line, in order. -/
def activeElems (n : Nat) (p : Pred) (l : Line) : List Nat :=
  ((List.range (lanes n)).filter (active p n)).map (elemNat l n)

/-- R160: one level of the tree. -/
def pairUp {α : Type} (f : α → α → α) : List α → List α
  | a :: b :: r => f a b :: pairUp f r
  | r => r

/-- R160: the root of the tree over the leaves, `2^k` of them. -/
def treeOf {α : Type} (d : α) (f : α → α → α) : Nat → List α → α
  | 0, l => l.headD d
  | k + 1, l => treeOf d f k (pairUp f l)

/-- The flags of several operations. -/
def orFlags (l : List Flags) : Flags := l.foldl (· ||| ·) 0

/-- R147: flags accrue in vfflags. -/
def Strand.accrue (t : Strand) (f : Flags) : Strand := { t with vfflags := t.vfflags ||| f }

/-! ## Integer operations (R164-R166) -/

/-- R164: vd := `f a b d` in each active element. -/
def Strand.intMap (t : Strand) (vd vs1 vs2 : BitVec 5) (pg et : BitVec 2)
    (f : (w : Nat) → BitVec w → BitVec w → BitVec w → BitVec w) : Strand :=
  let n := elemBytes et
  let e := fun (r : BitVec 5) (i : Nat) => BitVec.ofNat (8 * n) (elemNat (t.readV r) n i)
  t.writeV vd (mapLine n (t.governing pg) (t.readV vd) (fun i => (f (8 * n) (e vs1 i) (e vs2 i) (e vd i)).toNat))

/-- R164: as `intMap`, for an operation on the one source. -/
def Strand.intMap1 (t : Strand) (vd vs1 : BitVec 5) (pg et : BitVec 2)
    (f : (w : Nat) → BitVec w → BitVec w) : Strand :=
  t.intMap vd vs1 vs1 pg et (fun w a _ _ => f w a)

/-- R165: pd := the comparison of each active element. -/
def Strand.intCmp (t : Strand) (pd : BitVec 3) (vs1 vs2 : BitVec 5) (pg et : BitVec 2)
    (f : (w : Nat) → BitVec w → BitVec w → Bool) : Strand :=
  let n := elemBytes et
  let e := fun (r : BitVec 5) (i : Nat) => BitVec.ofNat (8 * n) (elemNat (t.readV r) n i)
  t.writeP pd (predOf n (fun i => active (t.governing pg) n i && f (8 * n) (e vs1 i) (e vs2 i)))

/-- R166: vd := the active elements combined from `init w`, in element 0. -/
def Strand.intRed (t : Strand) (vd vs1 : BitVec 5) (pg et : BitVec 2) (init : Nat → Int) (f : Int → Int → Int) : Strand :=
  let n := elemBytes et
  let v := ((activeElems n (t.governing pg) (t.readV vs1)).map (signedOf n)).foldl f (init (8 * n))
  t.writeV vd (lineOfElems n [(BitVec.ofInt (8 * n) v).toNat])

/-- R164: an integer saturated to the elements of `w` bits. -/
def saturate (w : Nat) (v : Int) : BitVec w := BitVec.ofInt w (max (-(2 ^ (w - 1))) (min (2 ^ (w - 1) - 1) v))

/-- The number of 1 bits. -/
def popCount {w : Nat} (a : BitVec w) : BitVec w := BitVec.ofNat w ((List.range w).countP a.getLsbD)

/-- The number of leading 0 bits. -/
def leadingZeros {w : Nat} (a : BitVec w) : BitVec w := BitVec.ofNat w (w - bitLen a.toNat)

/-! ## Floating operations (R167-R171) -/

/-- R36: the floating format of a width code of custom-1. -/
def fmtOf (et : BitVec 2) : Fmt :=
  if et = 0#2 then fmtBf16 else if et = 1#2 then fmtF16 else if et = 2#2 then fmtF32 else fmtF64

/-- The bytes of a format of 8 bits or more. -/
def Fmt.bytes (f : Fmt) : Nat := f.width / 8

/-- R167: vd := `f a b d`, words to a word with flags, in each active element. -/
def Strand.fpMap (t : Strand) (vd vs1 vs2 : BitVec 5) (pg et : BitVec 2) (f : Fmt → Nat → Nat → Nat → Nat × Flags) :
    Strand :=
  let k := fmtOf et
  let n := k.bytes
  let p := t.governing pg
  let r := (List.range (lanes n)).map (fun i =>
    if active p n i then f k (elemNat (t.readV vs1) n i) (elemNat (t.readV vs2) n i) (elemNat (t.readV vd) n i)
    else (elemNat (t.readV vd) n i, 0))
  (t.writeV vd (lineOfElems n (r.map (·.1)))).accrue (orFlags (r.map (·.2)))

/-- R167: vd := Round(`f a b d`). -/
def Strand.fpArith (t : Strand) (rm : Rm) (vd vs1 vs2 : BitVec 5) (pg et : BitVec 2) (f : Fp → Fp → Fp → Fp × Flags) :
    Strand :=
  t.fpMap vd vs1 vs2 pg et (fun k a b d => k.deliver rm (f (k.decode a) (k.decode b) (k.decode d)))

/-- R167: vd := `f a b`, which is exact and sets no flag. -/
def Strand.fpExact (t : Strand) (vd vs1 vs2 : BitVec 5) (pg et : BitVec 2) (f : Fp → Fp → Fp) : Strand :=
  t.fpMap vd vs1 vs2 pg et (fun k a b _ => (k.encode (f (k.decode a) (k.decode b)), 0))

/-- R167: pd := the comparison of each active element. -/
def Strand.fpCmp (t : Strand) (pd : BitVec 3) (vs1 vs2 : BitVec 5) (pg et : BitVec 2) (f : Fp → Fp → Bool) : Strand :=
  let k := fmtOf et
  let n := k.bytes
  t.writeP pd (predOf n (fun i => active (t.governing pg) n i &&
    f (k.decode (elemNat (t.readV vs1) n i)) (k.decode (elemNat (t.readV vs2) n i))))

/-- R170: vd := the active elements combined, in element 0; `empty` when none is active. -/
def Strand.fpRed (t : Strand) (vd vs1 : BitVec 5) (pg et : BitVec 2) (empty : Fp) (f : Fp → Fp → Fp) : Strand :=
  let k := fmtOf et
  let n := k.bytes
  let v := match (activeElems n (t.governing pg) (t.readV vs1)).map k.decode with
    | [] => empty
    | a :: r => r.foldl f a
  t.writeV vd (lineOfElems n [k.encode v])

/-- R147, R160: the rounded sum of two words of a format, with flags. -/
def Fmt.addWords (k : Fmt) (rm : Rm) (a b : Nat) : Nat × Flags :=
  k.deliver rm ((k.decode a).add (rm == rdn) (k.decode b))

/-- R160: a node of the tree of a floating sum. -/
def Fmt.addNode (k : Fmt) (rm : Rm) (a b : Nat × Flags) : Nat × Flags :=
  let r := k.addWords rm a.1 b.1
  (r.1, a.2 ||| b.2 ||| r.2)

/-- The doubled format of a widening accumulate (R171). -/
def widerFmt (et : BitVec 2) : Fmt := if et = 2#2 then fmtF64 else fmtF32

/-- R171: d + a·b + a'·b', exact, with the flags of the products and of the sum. -/
def accumulatePair (rdn : Bool) (d a b a' b' : Fp) : Fp × Flags :=
  let p := a.mul b
  let q := a'.mul b'
  let r := d.add rdn p.1
  let u := r.1.add rdn q.1
  (u.1, p.2 ||| q.2 ||| r.2 ||| u.2)

/-! ## Conversions (R172, R173) -/

/-- R172: the floating format of a type code of vfcvt. -/
def cvtFmt (ty : BitVec 5) : Fmt :=
  match ty.toNat with
  | 4 => fmtBf16
  | 5 => fmtF16
  | 6 => fmtF32
  | 7 => fmtF64
  | 8 => fmtE4m3
  | 9 => fmtE5m2
  | 10 => fmtE4m3n
  | _ => fmtE5m2n

/-- R172: the bits of an integer type code, and whether it is signed. -/
def cvtInt (ty : BitVec 5) : Nat × Bool :=
  if ty = 12#5 then (4, true) else (8 * 2 ^ (ty.toNat % 4), ty.toNat < 16)

/-- R173: a line of `C` converted elements of `wd` bits, each inactive one 0. -/
def lineOfBits (wd : Nat) (es : List Nat) : Line :=
  BitVec.ofNat 2048 (es.foldr (fun e acc => e % 2 ^ wd + 2 ^ wd * acc) 0)

/-- R173: a conversion from elements of `ws` bytes to elements of `wd` bits. -/
def Strand.convert (t : Strand) (vd vs1 : BitVec 5) (pg : BitVec 2) (ws wd : Nat) (f : Nat → Nat × Flags) : Strand :=
  let count := 2048 / max (8 * ws) wd
  let r := (List.range count).map (fun i =>
    if active (t.governing pg) ws i then f (elemNat (t.readV vs1) ws i) else (0, 0))
  (t.writeV vd (lineOfBits wd (r.map (·.1)))).accrue (orFlags (r.map (·.2)))

/-- R149, R173: a value converted to an integer of `wd` bits. -/
def toInteger (rm : Rm) (wd : Nat) (signed : Bool) (a : Fp) : Nat × Flags :=
  let r := if signed then a.toRange rm (-(2 ^ (wd - 1))) (2 ^ (wd - 1) - 1) else a.toRange rm 0 (2 ^ wd - 1)
  ((BitVec.ofInt wd r.1).toNat, r.2)

/-! ## Immediates (R150) -/

/-- R150: the value of an fimm8. -/
def fimm8 (i : BitVec 8) : Fp :=
  let ex := i.toNat / 8 % 16
  let mt := i.toNat % 8
  if ex = 15 then (if mt = 0 then .inf (i.getLsbD 7) else .nan)
  else if ex = 0 then .fin (i.getLsbD 7) mt (-9)
  else .fin (i.getLsbD 7) (8 + mt) (ex - 10)

end Sys2Proof.Machine
end

