-- ==== Sys2Proof/Machine/VectorMem.lean ====
section
/-! DEFINITION. Vector loads and stores, constant and tagged loads, and tile state (R218-R224, R236-R240). -/

namespace Sys2Proof.Machine

/-! ## Lines -/

/-- The exception of a misaligned access. -/
def misaligned (a : Access) (va : Word) (s : State) : Stop :=
  .trap (if a = .load then causeLoadMisaligned else causeStoreMisaligned) va s

/-- The exception of an access that may not be made. -/
def noAccess (a : Access) (va : Word) (s : State) : Stop :=
  .trap (if a = .load then causeLoadAccess else causeStoreAccess) va s

/-- A list cut into pieces of `n`. -/
def pieces {α : Type} (n : Nat) : Nat → List α → List (List α)
  | 0, _ => []
  | _, [] => []
  | fuel + 1, l => l.take n :: pieces n fuel (l.drop n)

/-- The 32-byte sectors of the locations of a line. -/
def sectorsOf {α : Type} (l : List α) : List (List α) := pieces 32 8 l

/-- R236, R263: the steps of a line load: one for cacheable memory, one for each sector of scratchpad. -/
def lineParts (locs : List Nat) : List (List Nat) := if locs.any isScratch then sectorsOf locs else [locs]

/-- R106: a line that the issuing strand loads from these locations into vd. -/
def State.loadLine (s : State) (vd : BitVec 5) (locs : List Nat) (parts : List (List Nat)) (la : Nat) : State :=
  if s.deferred then s.awaitLoad (.v vd) parts 2048 false la else s.writeV vd (lineOf (s.bytesOf locs))

/-- R236: vld. -/
def execVld (vd rs1 rs2 : BitVec 5) (la : BitVec 4) (_w : BitVec 2) (s : State) : Host.Outcome State Fault Refusal :=
  s.checked 4 (fun s => s.useV [vd] |>.bind (fun s =>
    let va := s.x rs1 + s.x rs2
    s.aligned .load va 256 (fun s => (s.loadLocs va 256).map (fun r =>
      r.1.loadLine vd r.2 (lineParts r.2) la.toNat))))

/-- Stores of the issuing strand enter its store buffer in order. -/
def State.pushStores (s : State) (stores : List (List (Nat × Byte))) : State :=
  s.modMe (fun t => stores.foldl Strand.pushStore t)

/-- R236, R238: vst. -/
def execVst (vd rs1 rs2 : BitVec 5) (_la : BitVec 4) (_w : BitVec 2) (s : State) : Host.Outcome State Fault Refusal :=
  s.checked 4 (fun s => s.useV [vd] |>.bind (fun s =>
    let va := s.x rs1 + s.x rs2
    s.aligned .store va 256 (fun s => (s.access .store va 256).map (fun r =>
      r.1.pushStores (sectorsOf (r.2.zip (lineBytes (r.1.v vd))))))))

/-! ## Gathers and scatters (R237) -/

/-- R237: the element addresses of a gather or a scatter. -/
def elemAddrs (base : Word) (index : Line) (n : Nat) : List Word :=
  (List.range (256 / n)).map (fun i => base + BitVec.ofNat 64 (elemNat index n i * n))

/-- The lower of two failing addresses. -/
def lowest (a : Option Word) (b : Word) : Option Word :=
  match a with
  | some x => if x.toNat ≤ b.toNat then some x else some b
  | none => some b

/-- What the elements of a gather or scatter translate to: the locations of each, and the lowest failing addresses. -/
structure Gather where
  s : State
  locs : List (List Nat)
  access : Option Word
  page : Option Word
  deriving DecidableEq, Repr

/-- One element of a gather or scatter. -/
def Gather.step (a : Access) (n : Nat) (g : Gather) (va : Word) : Gather :=
  match g.s.translate (g.s.xctx g.s.here g.s.cur) a va n with
  | .ok (s1, ls) => { g with s := s1, locs := g.locs ++ [ls] }
  | .error (.access v) => { g with access := lowest g.access v }
  | .error (.page v) => { g with page := lowest g.page v }

/-- R236, R237: every element's address is checked and translated before any byte moves. -/
def State.accessMany (s : State) (a : Access) (vas : List Word) (n : Nat) : Except Stop (State × List (List Nat)) :=
  match vas.foldl lowest' none with
  | some v => .error (misaligned a v s)
  | none =>
    match vas.findSome? (fun v => s.walkNeeded (s.xctx s.here s.cur) v n) with
    | some v => .error (s.waitWalk v a)
    | none =>
      let g := vas.foldl (Gather.step a n) { s := s, locs := [], access := none, page := none }
      match g.access, g.page with
      | some v, _ => .error (noAccess a v s)
      | none, some v => .error ((XFault.page v).stop a s)
      | none, none =>
        match g.s.onDie g.locs.flatten with
        | .error v => .error (.trap causeIntegrity v s)
        | .ok s1 =>
          if a = .store ∧ s.comesFirst a g.locs.flatten then .error (.wait .results s)
          else .ok (s1.refreshSources s1.here s1.cur, g.locs)
where
  lowest' (m : Option Word) (v : Word) : Option Word := if v.toNat % n = 0 then m else lowest m v

/-- R236, R237: vldx. -/
def execVldx (vd rs1 rs2 : BitVec 5) (la : BitVec 4) (w : BitVec 2) (s : State) : Host.Outcome State Fault Refusal :=
  s.checked 4 (fun s => s.useV [vd, rs2] |>.bind (fun s =>
    let n := elemBytes w
    let vas := elemAddrs (s.x rs1) (s.v rs2) n
    match s.accessMany .load vas n with
    | .error e => .error e
    | .ok (s1, locs) =>
      match s1.ownedLine locs.flatten with
      | some line => .error (.wait (.ownedLine line) s)
      | none =>
        match (vas.zip locs).find? (fun p => s1.poisonedAt p.2) with
        | some p => .error (.trap causeMemory p.1 s)
        | none => .ok (s1.loadLine vd locs.flatten locs la.toNat)))

/-- R236-R238: vstx. -/
def execVstx (vd rs1 rs2 : BitVec 5) (_la : BitVec 4) (w : BitVec 2) (s : State) : Host.Outcome State Fault Refusal :=
  s.checked 4 (fun s => s.useV [vd, rs2] |>.bind (fun s =>
    let n := elemBytes w
    match s.accessMany .store (elemAddrs (s.x rs1) (s.v rs2) n) n with
    | .error e => .error e
    | .ok (s1, locs) =>
      let bytes := pieces n 256 (lineBytes (s1.v vd))
      .ok (s1.pushStores ((locs.zip bytes).map (fun p => p.1.zip p.2)))))

/-! ## Lane-private slices (R218, R270) -/

/-- R218: an offset of the core's slice, below 16,384 and a multiple of 256. -/
def State.sliceAt (s : State) (a : Access) (off : Word) (f : State → List Nat → Except Stop State) : Except Stop State :=
  if off.toNat < 16384 ∧ off.toNat % 256 = 0 then f s ((List.range 256).map (fun i => sliceLoc s.here (off.toNat + i)))
  else .error (noAccess a off s)

/-- R236: vldl. -/
def execVldl (vd rs1 rs2 : BitVec 5) (la : BitVec 4) (_w : BitVec 2) (s : State) : Host.Outcome State Fault Refusal :=
  s.checked 4 (fun s => s.useV [vd] |>.bind (fun s =>
    s.sliceAt .load (s.x rs1 + s.x rs2) (fun s locs =>
      if s.poisonedAt locs then .error (.trap causeMemory (s.x rs1 + s.x rs2) s)
      else .ok (s.deliverV vd (lineOf (locs.map s.mem.byte)) la.toNat))))

/-- R236: vstl. -/
def execVstl (vd rs1 rs2 : BitVec 5) (_la : BitVec 4) (_w : BitVec 2) (s : State) : Host.Outcome State Fault Refusal :=
  s.checked 4 (fun s => s.useV [vd] |>.bind (fun s =>
    s.sliceAt .store (s.x rs1 + s.x rs2) (fun s locs =>
      .ok ((s.storeSlice (locs.zip (lineBytes (s.v vd)))).touch (locs.map (·, 0))))))

/-! ## The constant cache (R224) -/

/-- R224: the line of a constant-cache line as a reader sees it: a sector that memory has changed since the fill reads
old or new. -/
def State.constSector (s : State) (c : Nat) (k : ConstLine) (i : Nat) : List Byte :=
  if Config.constantKeepsOld (s.fresh + i) then ((lineBytes k.bytes).drop (32 * i)).take 32
  else s.readBytes (.die (dieOf c)) (256 * k.line + 32 * i) 32

/-- R224: a line of device memory read through the constant cache of the core's cluster. -/
def State.constRead (s : State) (c line : Nat) : State × Line :=
  let l := clusterOf c
  let vf := (s.core c).vfNow
  match (s.cluster l).constCache.find? (fun k => k.vf == vf && k.line == line) with
  | some k => ({ s with fresh := s.fresh + 8 }, lineOf ((List.range 8).flatMap (s.constSector c k)))
  | none =>
    let bytes := lineOf (s.readBytes (.die (dieOf c)) (256 * line) 256)
    let old := (s.cluster l).constCache
    let kept := if old.length < 256 then old else old.eraseIdx (Config.constantVictim s.fresh % old.length)
    ({ (s.modCluster l (fun k => { k with constCache := { vf := vf, line := line, bytes := bytes } :: kept })) with
       fresh := s.fresh + 1 }, bytes)

/-- R239: the locations of a constant load: device memory only. -/
def State.constLocs (s : State) (va : Word) (n : Nat) : Except Stop (State × List Nat) :=
  if inWindow va then .error (noAccess .load va s)
  else
    match s.loadLocs va n with
    | .error e => .error e
    | .ok (s1, locs) => if locs.all isDevice then .ok (s1, locs) else .error (noAccess .load va s)

/-- R236: vldk. -/
def execVldk (vd rs1 rs2 : BitVec 5) (la : BitVec 4) (_w : BitVec 2) (s : State) : Host.Outcome State Fault Refusal :=
  s.checked 4 (fun s => s.useV [vd] |>.bind (fun s =>
    let va := s.x rs1 + s.x rs2
    s.aligned .load va 256 (fun s => (s.constLocs va 256).map (fun r =>
      let k := r.1.constRead r.1.here (lineNo (r.2.headD 0))
      k.1.deliverV vd k.2 la.toNat))))

/-- R239: ldk. -/
def execLdk (rd rs1 rs2 : BitVec 5) (la : BitVec 4) (s : State) : Host.Outcome State Fault Refusal :=
  s.checked 4 (fun s =>
    let va := s.x rs1 + 8 * s.x rs2
    s.aligned .load va 8 (fun s => (s.constLocs va 8).map (fun r =>
      let k := r.1.constRead r.1.here (lineNo (r.2.headD 0))
      k.1.deliverX rd (wordOf ((lineBytes k.2).drop (r.2.headD 0 % 256))) la.toNat)))

/-! ## Tiles (R220, R222, R240) -/

/-- R222: a tagged access of `n` bytes: inside a tile, no copy in flight to it, its SEQ as expected. -/
def State.taggedLocs (s : State) (va : Word) (n : Nat) (tag : BitVec 16) : Except Stop (State × List Nat) :=
  match s.access .load va n with
  | .error e => .error e
  | .ok (s1, locs) =>
    let t := tileNo (locs.headD 0)
    if !locs.all isScratch then .error (noAccess .load va s)
    else if s1.tilesInFlight.contains t then .error (.wait (.tile t) s1)
    else if (s1.tile t).seq ≠ tag then .error (.trap causeSchedule (0#32 ++ ((s1.tile t).seq ++ tag)) s)
    else if s1.poisonedAt locs then .error (.trap causeMemory va s)
    else if s1.comesFirst .load locs then .error (.wait .results s)
    else .ok (s1, locs)

/-- R236: vldt. -/
def execVldt (vd rs1 rs2 : BitVec 5) (la : BitVec 4) (_w : BitVec 2) (s : State) : Host.Outcome State Fault Refusal :=
  s.checked 4 (fun s => s.useV [vd] |>.bind (fun s =>
    s.aligned .load (s.x rs1) 256 (fun s => (s.taggedLocs (s.x rs1) 256 ((s.x rs2).extractLsb' 0 16)).map (fun r =>
      r.1.deliverV vd (lineOf (r.1.bytesOf r.2)) la.toNat))))

/-- R239: ldt. -/
def execLdt (rd rs1 rs2 : BitVec 5) (la : BitVec 4) (s : State) : Host.Outcome State Fault Refusal :=
  s.checked 4 (fun s =>
    s.aligned .load (s.x rs1) 8 (fun s => (s.taggedLocs (s.x rs1) 8 ((s.x rs2).extractLsb' 0 16)).map (fun r =>
      r.1.deliverX rd (wordOf (r.1.bytesOf r.2)) la.toNat)))

/-- R240: the state of the tile holding an address changes, and its old state is read. -/
def State.changeTile (s : State) (rd : BitVec 5) (va : Word) (f : Tile → Tile) : Except Stop State :=
  match s.access .store va 1 with
  | .error e => .error e
  | .ok (s1, locs) =>
    let t := tileNo (locs.headD 0)
    if !locs.all isScratch then .error (noAccess .store va s)
    else if s1.tilesInFlight.contains t then .error (.wait (.tile t) s1)
    else
      let old := s1.tile t
      .ok ((s1.setTile t (f old)).writeX rd (0#45 ++ (old.mode ++ old.seq)))

/-- R240: tset. -/
def execTset (rd rs1 rs2 : BitVec 5) (s : State) : Host.Outcome State Fault Refusal :=
  s.checked 4 (fun s => s.changeTile rd (s.x rs1) (fun t => { t with seq := (s.x rs2).extractLsb' 0 16 }))

/-- R240: tmode. -/
def execTmode (rd rs1 rs2 : BitVec 5) (s : State) : Host.Outcome State Fault Refusal :=
  s.checked 4 (fun s => s.changeTile rd (s.x rs1) (fun t => { t with mode := (s.x rs2).extractLsb' 0 3 }))

end Sys2Proof.Machine
end

