-- ==== Sys2Proof/Machine/Atomic.lean ====
section
/-! DEFINITION. Load-reserved and store-conditional, the standard atomics, and the atomics of custom-3 (R31, R241-R244,
R268). -/

namespace Sys2Proof.Machine

/-! ## What an atomic makes of a value (R31, R241-R243) -/

/-- R242: an operation on the lanes of a word, each of the format's width, rounded to nearest; no flag is written. -/
def laneOp (f : Fmt) (lanes : Nat) (op : Fp → Fp → Fp) (a b : Nat) : Nat :=
  (List.range lanes).foldl (fun r j =>
    let lane := fun (w : Nat) => f.decode (w / 2 ^ (f.width * j) % 2 ^ f.width)
    r + (f.deliver rne (op (lane a) (lane b), 0)).1 * 2 ^ (f.width * j)) 0

/-- R242: exact addition. -/
def addExact (a b : Fp) : Fp := (a.add false b).1

/-- R242: the format of the lanes, and how many there are. -/
def AtomFmt.lanes : AtomFmt → Fmt × Nat
  | .bf16x2 => (fmtBf16, 2)
  | .f16x2 => (fmtF16, 2)
  | .f32 => (fmtF32, 1)
  | .f64 => (fmtF64, 1)

/-- R242: the lanes of a value and of an operand combined. -/
def AtomFmt.combine (f : AtomFmt) (op : Fp → Fp → Fp) (old operand : Nat) : Nat := laneOp f.lanes.1 f.lanes.2 op old operand

/-- R31, R241-R243: the new value of `n` bytes. -/
def AtomOp.apply (op : AtomOp) (n old operand : Nat) : Nat :=
  let v := match op with
    | .swap => operand
    | .add => old + operand
    | .xor => old ^^^ operand
    | .and => old &&& operand
    | .or => old ||| operand
    | .min => if signedOf n old ≤ signedOf n operand then old else operand
    | .max => if signedOf n operand ≤ signedOf n old then old else operand
    | .minu => if old ≤ operand then old else operand
    | .maxu => if operand ≤ old then old else operand
    | .fadd f => f.combine addExact old operand
    | .fmin f => f.combine Fp.minimumNumber old operand
    | .fmax f => f.combine Fp.maximumNumber old operand
    | .cas _ => operand
  v % 2 ^ (8 * n)

/-- R243: does the operation store: a compare-and-swap only when it finds the value that it expects? -/
def AtomOp.stores (op : AtomOp) (old : Nat) : Bool :=
  match op with
  | .cas e => old == e
  | _ => true

/-! ## Shared steps -/

/-- R241: may an atomic reach these bytes: device memory, or the core or the chip scratchpad through the window? -/
def atomicPlace (va : Word) (locs : List Nat) : Bool :=
  if inWindow va then windowRegion (va.toNat - windowBase) != some 1 else locs.all isDevice

/-- R31, R264, R268: every store to these bytes that core `c` does not see rises until it does; a core that holds one has
its line recalled, and loses its reservations on it. -/
def State.raiseSeen (s : State) (c : Nat) (locs : List Nat) : State :=
  let held := s.drained.filter (fun d => d.cells.any (fun x => locs.contains x.1) && !d.visible (.core c) && !d.engine)
  let line := lineNo (locs.headD 0)
  { s with
    drained := raiseFor c (locs.map (·, 0)) s.drained
    reservations := s.reservations.filter (fun r => !(r.line == line && held.any (·.core == r.core))) }

/-- R31, R241: the checks of an atomic of `n` bytes. -/
def State.atomicLocs (s : State) (a : Access) (va : Word) (n : Nat) (f : State → List Nat → Except Stop State) :
    Except Stop State :=
  s.aligned a va n (fun s =>
    match s.reach a va n with
    | .error e => .error e
    | .ok (s1, locs) =>
      if !atomicPlace va locs then .error (noAccess a va s)
      else if s1.poisonedAt locs then .error (.trap causeMemory va s)
      else f s1 locs)

/-- R31, R241, R244, R268: the checks of an atomic of `n` bytes, and its step at its place in the order of the strand: what comes
first has performed, the strand's own stores to the bytes have drained, the stores of others to them become visible, and the
bytes are read. With `rl`, the step is a release at scope 4. A load-reserved accesses memory as a read. -/
def State.atomicStep (s : State) (a : Access) (va : Word) (n : Nat) (rl : Bool) (f : State → List Nat → Nat → Except Stop State) :
    Except Stop State :=
  s.atomicLocs a va n (fun s1 locs =>
    if s1.comesFirst a locs then .error (.wait .results s)
    else
      match (if rl then s1.fence 4 else s1.drainTo locs) with
      | .error e => .error e
      | .ok s2 =>
        match s2.storeHeld s2.here s2.cur locs with
        | some line => .error (.wait (.ownedLine line) s2)
        | none =>
          let s3 := s2.raiseSeen s2.here locs
          f s3 locs (leNat (locs.map (s3.byteFor (.core s3.here)))))

/-- R226, R264, R268: the store of an atomic takes reach C, or H as a release at scope 4. -/
def State.atomicStore (s : State) (rl : Bool) (locs : List Nat) (v : Nat) : State :=
  s.commit s.here (if rl then 4 else 0) (locs.zip (leBytes locs.length v))

/-- R241: what rd receives of an old value of `n` bytes: a word sign-extended. -/
def oldValue (n v : Nat) : Word := extendTo (8 * n) true (leBytes n v)

/-- R106: the old value of an atomic that has performed as it issued goes to its destination. -/
def State.deliverOld (s : State) (dst : Dst) (n old : Nat) : State :=
  if s.deferred then
    s.await { dst := dst, todo := [], got := leBytes n old, bits := 8 * n, signed := true, window := 0, queued := false }
  else s.modMe (fun t => t.result dst (8 * n) true (leBytes n old))

/-- R31, R241, R244: an atomic that performs as it issues: the destination gets the old value, and memory the new one. -/
def State.atomicNow (s : State) (dst : Dst) (va : Word) (n : Nat) (rl : Bool) (op : AtomOp) (operand : Nat) :
    Except Stop State :=
  s.atomicStep .store va n rl (fun s locs old =>
    let s1 := if op.stores old then s.atomicStore rl locs (op.apply n old operand) else s
    .ok (s1.deliverOld dst n old))

/-- R244: a commutative atomic waits while one to other bytes has still to take effect. -/
def State.commutesLater (s : State) (locs : List Nat) : Bool :=
  s.me.pending.any (fun p => (p.atomic.map (·.use)) == some 1#2 && p.todo.any (fun q => q.2 != locs))

/-- R241, R244, R268: an atomic of custom-3: commutative and unpaired ones take effect after they issue, in the deferred mode. -/
def State.atomic (s : State) (dst : Dst) (va : Word) (n : Nat) (use : BitVec 2) (op : AtomOp) (operand : Nat) :
    Except Stop State :=
  if s.deferred && use != 0#2 then
    s.atomicLocs .store va n (fun s1 locs =>
      if use = 1#2 ∧ s1.commutesLater locs then .error (.wait .results s)
      else
        .ok (s1.await
          { dst := dst, todo := [(0, locs)], got := List.replicate n 0, bits := 8 * n, signed := true, window := 0,
            queued := false, atomic := some { op := op, operand := operand, use := use } }))
  else s.atomicNow dst va n false op operand

/-- R268: an outstanding atomic of a strand of core `c` takes effect on these bytes: at the home of the location, or in the
core's L1. The answer holds the old bytes. -/
def State.atomicEffect (s : State) (c : Nat) (w : AtomicWork) (locs : List Nat) : State × List Byte :=
  let home := w.use == 1#2 && locs.all isDevice && Config.performsAtHome s.fresh
  let s0 : State := { s with fresh := s.fresh + 1 }
  let s1 := if home then s0.atHome (locs.headD 0) locs.length else s0.raiseSeen c locs
  let bs := locs.map (s1.byteFor (if home then .device else .core c))
  let cells := locs.zip (leBytes locs.length (w.op.apply locs.length (leNat bs) w.operand))
  (if !w.op.stores (leNat bs) then s1 else if home then s1.commitHome cells else s1.commit c 0 cells, bs)

/-! ## Load-reserved and store-conditional (R31) -/

/-- R31: the reservation of a strand. -/
def State.reservation (s : State) (c i : Nat) : Option Nat :=
  (s.reservations.find? (fun r => r.core == c && r.strand == i)).map (·.line)

/-- R31: a load-reserved of `n` bytes. -/
def State.loadReserved (s : State) (rd : BitVec 5) (va : Word) (n : Nat) (rl : Bool) : Except Stop State :=
  s.atomicStep .load va n rl (fun s locs old =>
    let s1 := s.dropReservation s.here s.cur
    let s2 := { s1 with reservations := { core := s.here, strand := s.cur, line := lineNo (locs.headD 0) } :: s1.reservations }
    .ok (s2.deliverX rd (oldValue n old) 0))

/-- R31: a store-conditional of `n` bytes: it stores, and rd := 0, when the reservation stands on its line. -/
def State.storeConditional (s : State) (rd : BitVec 5) (va : Word) (n : Nat) (rl : Bool) (v : Word) : Except Stop State :=
  s.atomicStep .store va n rl (fun s locs _ =>
    let held := s.reservation s.here s.cur == some (lineNo (locs.headD 0))
    let s1 := s.dropReservation s.here s.cur
    if held then .ok ((s1.atomicStore rl locs (v.toNat % 2 ^ (8 * n))).deliverX rd 0 0) else .ok (s1.deliverX rd 1 0))

/-- R31: lr.w. -/
def execLrW (rd rs1 : BitVec 5) (_aq rl : BitVec 1) (s : State) : Host.Outcome State Fault Refusal :=
  s.checked 4 (fun s => s.loadReserved rd (s.x rs1) 4 (rl == 1))

/-- R31: sc.w. -/
def execScW (rd rs1 rs2 : BitVec 5) (_aq rl : BitVec 1) (s : State) : Host.Outcome State Fault Refusal :=
  s.checked 4 (fun s => s.storeConditional rd (s.x rs1) 4 (rl == 1) (s.x rs2))

/-- R31: lr.d. -/
def execLrD (rd rs1 : BitVec 5) (_aq rl : BitVec 1) (s : State) : Host.Outcome State Fault Refusal :=
  s.checked 4 (fun s => s.loadReserved rd (s.x rs1) 8 (rl == 1))

/-- R31: sc.d. -/
def execScD (rd rs1 rs2 : BitVec 5) (_aq rl : BitVec 1) (s : State) : Host.Outcome State Fault Refusal :=
  s.checked 4 (fun s => s.storeConditional rd (s.x rs1) 8 (rl == 1) (s.x rs2))

/-! ## The standard atomics (R31) -/

/-- R31: amoswap.w. -/
def execAmoswapW (rd rs1 rs2 : BitVec 5) (_aq rl : BitVec 1) (s : State) : Host.Outcome State Fault Refusal :=
  s.checked 4 (fun s => s.atomicNow (.x rd) (s.x rs1) 4 (rl == 1) .swap ((s.x rs2).toNat % 2 ^ 32))

/-- R31: amoswap.d. -/
def execAmoswapD (rd rs1 rs2 : BitVec 5) (_aq rl : BitVec 1) (s : State) : Host.Outcome State Fault Refusal :=
  s.checked 4 (fun s => s.atomicNow (.x rd) (s.x rs1) 8 (rl == 1) .swap (s.x rs2).toNat)

/-- R31: amoadd.w. -/
def execAmoaddW (rd rs1 rs2 : BitVec 5) (_aq rl : BitVec 1) (s : State) : Host.Outcome State Fault Refusal :=
  s.checked 4 (fun s => s.atomicNow (.x rd) (s.x rs1) 4 (rl == 1) .add ((s.x rs2).toNat % 2 ^ 32))

/-- R31: amoadd.d. -/
def execAmoaddD (rd rs1 rs2 : BitVec 5) (_aq rl : BitVec 1) (s : State) : Host.Outcome State Fault Refusal :=
  s.checked 4 (fun s => s.atomicNow (.x rd) (s.x rs1) 8 (rl == 1) .add (s.x rs2).toNat)

/-- R31: amoxor.w. -/
def execAmoxorW (rd rs1 rs2 : BitVec 5) (_aq rl : BitVec 1) (s : State) : Host.Outcome State Fault Refusal :=
  s.checked 4 (fun s => s.atomicNow (.x rd) (s.x rs1) 4 (rl == 1) .xor ((s.x rs2).toNat % 2 ^ 32))

/-- R31: amoxor.d. -/
def execAmoxorD (rd rs1 rs2 : BitVec 5) (_aq rl : BitVec 1) (s : State) : Host.Outcome State Fault Refusal :=
  s.checked 4 (fun s => s.atomicNow (.x rd) (s.x rs1) 8 (rl == 1) .xor (s.x rs2).toNat)

/-- R31: amoand.w. -/
def execAmoandW (rd rs1 rs2 : BitVec 5) (_aq rl : BitVec 1) (s : State) : Host.Outcome State Fault Refusal :=
  s.checked 4 (fun s => s.atomicNow (.x rd) (s.x rs1) 4 (rl == 1) .and ((s.x rs2).toNat % 2 ^ 32))

/-- R31: amoand.d. -/
def execAmoandD (rd rs1 rs2 : BitVec 5) (_aq rl : BitVec 1) (s : State) : Host.Outcome State Fault Refusal :=
  s.checked 4 (fun s => s.atomicNow (.x rd) (s.x rs1) 8 (rl == 1) .and (s.x rs2).toNat)

/-- R31: amoor.w. -/
def execAmoorW (rd rs1 rs2 : BitVec 5) (_aq rl : BitVec 1) (s : State) : Host.Outcome State Fault Refusal :=
  s.checked 4 (fun s => s.atomicNow (.x rd) (s.x rs1) 4 (rl == 1) .or ((s.x rs2).toNat % 2 ^ 32))

/-- R31: amoor.d. -/
def execAmoorD (rd rs1 rs2 : BitVec 5) (_aq rl : BitVec 1) (s : State) : Host.Outcome State Fault Refusal :=
  s.checked 4 (fun s => s.atomicNow (.x rd) (s.x rs1) 8 (rl == 1) .or (s.x rs2).toNat)

/-- R31: amomin.w. -/
def execAmominW (rd rs1 rs2 : BitVec 5) (_aq rl : BitVec 1) (s : State) : Host.Outcome State Fault Refusal :=
  s.checked 4 (fun s => s.atomicNow (.x rd) (s.x rs1) 4 (rl == 1) .min ((s.x rs2).toNat % 2 ^ 32))

/-- R31: amomin.d. -/
def execAmominD (rd rs1 rs2 : BitVec 5) (_aq rl : BitVec 1) (s : State) : Host.Outcome State Fault Refusal :=
  s.checked 4 (fun s => s.atomicNow (.x rd) (s.x rs1) 8 (rl == 1) .min (s.x rs2).toNat)

/-- R31: amomax.w. -/
def execAmomaxW (rd rs1 rs2 : BitVec 5) (_aq rl : BitVec 1) (s : State) : Host.Outcome State Fault Refusal :=
  s.checked 4 (fun s => s.atomicNow (.x rd) (s.x rs1) 4 (rl == 1) .max ((s.x rs2).toNat % 2 ^ 32))

/-- R31: amomax.d. -/
def execAmomaxD (rd rs1 rs2 : BitVec 5) (_aq rl : BitVec 1) (s : State) : Host.Outcome State Fault Refusal :=
  s.checked 4 (fun s => s.atomicNow (.x rd) (s.x rs1) 8 (rl == 1) .max (s.x rs2).toNat)

/-- R31: amominu.w. -/
def execAmominuW (rd rs1 rs2 : BitVec 5) (_aq rl : BitVec 1) (s : State) : Host.Outcome State Fault Refusal :=
  s.checked 4 (fun s => s.atomicNow (.x rd) (s.x rs1) 4 (rl == 1) .minu ((s.x rs2).toNat % 2 ^ 32))

/-- R31: amominu.d. -/
def execAmominuD (rd rs1 rs2 : BitVec 5) (_aq rl : BitVec 1) (s : State) : Host.Outcome State Fault Refusal :=
  s.checked 4 (fun s => s.atomicNow (.x rd) (s.x rs1) 8 (rl == 1) .minu (s.x rs2).toNat)

/-- R31: amomaxu.w. -/
def execAmomaxuW (rd rs1 rs2 : BitVec 5) (_aq rl : BitVec 1) (s : State) : Host.Outcome State Fault Refusal :=
  s.checked 4 (fun s => s.atomicNow (.x rd) (s.x rs1) 4 (rl == 1) .maxu ((s.x rs2).toNat % 2 ^ 32))

/-- R31: amomaxu.d. -/
def execAmomaxuD (rd rs1 rs2 : BitVec 5) (_aq rl : BitVec 1) (s : State) : Host.Outcome State Fault Refusal :=
  s.checked 4 (fun s => s.atomicNow (.x rd) (s.x rs1) 8 (rl == 1) .maxu (s.x rs2).toNat)

/-! ## The atomics of custom-3 (R241-R244) -/

/-- R241: iadd.d. -/
def execIaddD (rd rs1 rs2 : BitVec 5) (use : BitVec 2) (s : State) : Host.Outcome State Fault Refusal :=
  s.checked 4 (fun s => s.atomic (.x rd) (s.x rs1) 8 use .add (s.x rs2).toNat)

/-- R241: iadd.w. -/
def execIaddW (rd rs1 rs2 : BitVec 5) (use : BitVec 2) (s : State) : Host.Outcome State Fault Refusal :=
  s.checked 4 (fun s => s.atomic (.x rd) (s.x rs1) 4 use .add ((s.x rs2).toNat % 2 ^ 32))

/-- R241: ior.d. -/
def execIorD (rd rs1 rs2 : BitVec 5) (use : BitVec 2) (s : State) : Host.Outcome State Fault Refusal :=
  s.checked 4 (fun s => s.atomic (.x rd) (s.x rs1) 8 use .or (s.x rs2).toNat)

/-- R241: iand.d. -/
def execIandD (rd rs1 rs2 : BitVec 5) (use : BitVec 2) (s : State) : Host.Outcome State Fault Refusal :=
  s.checked 4 (fun s => s.atomic (.x rd) (s.x rs1) 8 use .and (s.x rs2).toNat)

/-- R242: famo.add.bf16x2. -/
def execFamoAddBf16x2 (rd rs1 rs2 : BitVec 5) (use : BitVec 2) (s : State) : Host.Outcome State Fault Refusal :=
  s.checked 4 (fun s => s.atomic (.x rd) (s.x rs1) 4 use (.fadd .bf16x2) (s.x rs2).toNat)

/-- R242: famo.add.f16x2. -/
def execFamoAddF16x2 (rd rs1 rs2 : BitVec 5) (use : BitVec 2) (s : State) : Host.Outcome State Fault Refusal :=
  s.checked 4 (fun s => s.atomic (.x rd) (s.x rs1) 4 use (.fadd .f16x2) (s.x rs2).toNat)

/-- R242: famo.add.f32. -/
def execFamoAddF32 (rd rs1 rs2 : BitVec 5) (use : BitVec 2) (s : State) : Host.Outcome State Fault Refusal :=
  s.checked 4 (fun s => s.atomic (.x rd) (s.x rs1) 4 use (.fadd .f32) (s.x rs2).toNat)

/-- R242: famo.add.f64. -/
def execFamoAddF64 (rd rs1 rs2 : BitVec 5) (use : BitVec 2) (s : State) : Host.Outcome State Fault Refusal :=
  s.checked 4 (fun s => s.atomic (.x rd) (s.x rs1) 8 use (.fadd .f64) (s.x rs2).toNat)

/-- R242: famo.min.bf16x2. -/
def execFamoMinBf16x2 (rd rs1 rs2 : BitVec 5) (use : BitVec 2) (s : State) : Host.Outcome State Fault Refusal :=
  s.checked 4 (fun s => s.atomic (.x rd) (s.x rs1) 4 use (.fmin .bf16x2) (s.x rs2).toNat)

/-- R242: famo.min.f16x2. -/
def execFamoMinF16x2 (rd rs1 rs2 : BitVec 5) (use : BitVec 2) (s : State) : Host.Outcome State Fault Refusal :=
  s.checked 4 (fun s => s.atomic (.x rd) (s.x rs1) 4 use (.fmin .f16x2) (s.x rs2).toNat)

/-- R242: famo.min.f32. -/
def execFamoMinF32 (rd rs1 rs2 : BitVec 5) (use : BitVec 2) (s : State) : Host.Outcome State Fault Refusal :=
  s.checked 4 (fun s => s.atomic (.x rd) (s.x rs1) 4 use (.fmin .f32) (s.x rs2).toNat)

/-- R242: famo.min.f64. -/
def execFamoMinF64 (rd rs1 rs2 : BitVec 5) (use : BitVec 2) (s : State) : Host.Outcome State Fault Refusal :=
  s.checked 4 (fun s => s.atomic (.x rd) (s.x rs1) 8 use (.fmin .f64) (s.x rs2).toNat)

/-- R242: famo.max.bf16x2. -/
def execFamoMaxBf16x2 (rd rs1 rs2 : BitVec 5) (use : BitVec 2) (s : State) : Host.Outcome State Fault Refusal :=
  s.checked 4 (fun s => s.atomic (.x rd) (s.x rs1) 4 use (.fmax .bf16x2) (s.x rs2).toNat)

/-- R242: famo.max.f16x2. -/
def execFamoMaxF16x2 (rd rs1 rs2 : BitVec 5) (use : BitVec 2) (s : State) : Host.Outcome State Fault Refusal :=
  s.checked 4 (fun s => s.atomic (.x rd) (s.x rs1) 4 use (.fmax .f16x2) (s.x rs2).toNat)

/-- R242: famo.max.f32. -/
def execFamoMaxF32 (rd rs1 rs2 : BitVec 5) (use : BitVec 2) (s : State) : Host.Outcome State Fault Refusal :=
  s.checked 4 (fun s => s.atomic (.x rd) (s.x rs1) 4 use (.fmax .f32) (s.x rs2).toNat)

/-- R242: famo.max.f64. -/
def execFamoMaxF64 (rd rs1 rs2 : BitVec 5) (use : BitVec 2) (s : State) : Host.Outcome State Fault Refusal :=
  s.checked 4 (fun s => s.atomic (.x rd) (s.x rs1) 8 use (.fmax .f64) (s.x rs2).toNat)

/-- R41: the pair of x registers that an even register number, held without its low bit, names. -/
def pairLo (r : BitVec 4) : BitVec 5 := r ++ 0#1
def pairHi (r : BitVec 4) : BitVec 5 := r ++ 1#1

/-- The 128-bit value of a pair. -/
def State.pair (s : State) (r : BitVec 4) : Nat := (s.x (pairLo r)).toNat + 2 ^ 64 * (s.x (pairHi r)).toNat

/-- R243: cas128; with use 01 it is illegal (R244). -/
def execCas128 (rd : BitVec 4) (rs1 : BitVec 5) (rs2 : BitVec 4) (use : BitVec 2) (s : State) :
    Host.Outcome State Fault Refusal :=
  s.checked 4 (fun s => s.require (use != 1#2) (fun s =>
    s.atomic (.pair rd) (s.x rs1) 16 use (.cas (s.pair rd)) (s.pair rs2)))

end Sys2Proof.Machine
end

