-- ==== Sys2Proof/Machine/Branch.lean ====
section
/-! DEFINITION. Jumps and branches within a form, the end of a form, and words that decode to no instruction, with
their compressed forms (R24, R28, R34). -/

namespace Sys2Proof.Machine

/-- R28: jal. -/
def execJal (rd : BitVec 5) (imm : BitVec 20) (s : State) : Host.Outcome State Fault Refusal :=
  s.plain (fun s => s.jumpTo (some rd) 4 (s.fpcWord + jumpOffset imm))

/-- R28: jalr. -/
def execJalr (rd rs1 : BitVec 5) (imm : BitVec 12) (s : State) : Host.Outcome State Fault Refusal :=
  s.plain (fun s => s.jumpTo (some rd) 4 ((s.x rs1 + imm12 imm) &&& ~~~1#64))

/-- R28: beq. -/
def execBeq (rs1 rs2 : BitVec 5) (imm : BitVec 12) (s : State) : Host.Outcome State Fault Refusal :=
  s.plain (fun s => s.branchIf (s.x rs1 == s.x rs2) (branchOffset imm) 4)

/-- R28: bne. -/
def execBne (rs1 rs2 : BitVec 5) (imm : BitVec 12) (s : State) : Host.Outcome State Fault Refusal :=
  s.plain (fun s => s.branchIf (s.x rs1 != s.x rs2) (branchOffset imm) 4)

/-- R28: blt. -/
def execBlt (rs1 rs2 : BitVec 5) (imm : BitVec 12) (s : State) : Host.Outcome State Fault Refusal :=
  s.plain (fun s => s.branchIf ((s.x rs1).slt (s.x rs2)) (branchOffset imm) 4)

/-- R28: bge. -/
def execBge (rs1 rs2 : BitVec 5) (imm : BitVec 12) (s : State) : Host.Outcome State Fault Refusal :=
  s.plain (fun s => s.branchIf (!(s.x rs1).slt (s.x rs2)) (branchOffset imm) 4)

/-- R28: bltu. -/
def execBltu (rs1 rs2 : BitVec 5) (imm : BitVec 12) (s : State) : Host.Outcome State Fault Refusal :=
  s.plain (fun s => s.branchIf ((s.x rs1).ult (s.x rs2)) (branchOffset imm) 4)

/-- R28: bgeu. -/
def execBgeu (rs1 rs2 : BitVec 5) (imm : BitVec 12) (s : State) : Host.Outcome State Fault Refusal :=
  s.plain (fun s => s.branchIf (!(s.x rs1).ult (s.x rs2)) (branchOffset imm) 4)

/-- R34: c.j. -/
def execCJ (imm : BitVec 11) (s : State) : Host.Outcome State Fault Refusal :=
  s.plain (fun s => s.jumpTo none 2 (s.fpcWord + immCJ imm))

/-- R34: c.beqz. -/
def execCBeqz (rs1 : BitVec 3) (imm : BitVec 8) (s : State) : Host.Outcome State Fault Refusal :=
  s.plain (fun s => s.branchIf (s.x (creg rs1) == 0) (immCB imm) 2)

/-- R34: c.bnez. -/
def execCBnez (rs1 : BitVec 3) (imm : BitVec 8) (s : State) : Host.Outcome State Fault Refusal :=
  s.plain (fun s => s.branchIf (s.x (creg rs1) != 0) (immCB imm) 2)

/-- R34: c.jr. -/
def execCJr (rs1 : BitVec 5) (s : State) : Host.Outcome State Fault Refusal :=
  s.plain (fun s => s.jumpTo none 2 (s.x rs1 &&& ~~~1#64))

/-- R34: c.jalr. -/
def execCJalr (rs1 : BitVec 5) (s : State) : Host.Outcome State Fault Refusal :=
  s.plain (fun s => s.jumpTo (some ra) 2 (s.x rs1 &&& ~~~1#64))

/-- R28: the issuing strand has reached the end of its form, or a 32-bit instruction there is cut off by it; the
code-bound exception reports FPC. -/
def execFormEndReached (s : State) : Host.Outcome State Fault Refusal :=
  .next (s.takeTrap s.here s.cur causeCodeBound s.fpcWord)

/-- R24, R25, R109: the word at FPC is no instruction. -/
def execIllegalWord (word : BitVec 32) (s : State) : Host.Outcome State Fault Refusal :=
  .next ((s.modMe (fun t => { t with pp := false })).takeTrap s.here s.cur causeIllegal (0#32 ++ word))

end Sys2Proof.Machine
end

