-- ==== Sys2Proof/Machine/Fetch.lean ====
section
/-! DEFINITION. The fetch engine of a cluster: the sources of a fetch and their answers, the checks of translations and
of portable bundle images, installing what has been fetched, and the ageing of the directory (R58, R92-R102, R140-R142). -/

namespace Sys2Proof.Machine

/-! ## The module store (R99, R141) -/

/-- The fields of a module-store slot. -/
structure StoreSlot where
  digest : Digest
  kind : Nat
  member : Nat
  model : Nat
  addr : Nat
  len : Nat
  deriving DecidableEq, Repr

/-- R99: slot `i` of this chip's module store. -/
def State.storeSlot (s : State) (i : Nat) : StoreSlot :=
  let b := s.readBytes .device (s.modStore % 2 ^ 42 + 64 * i) 64
  { digest := BitVec.ofNat 256 (recNat b 0 32), kind := recNat b 0x20 1, member := recNat b 0x22 2,
    model := recNat b 0x24 4, addr := recNat b 0x28 8 % 2 ^ 42, len := recNat b 0x30 8 }

/-- R99: the slots of a digest, in probe order. -/
def State.storeLookup (s : State) (digest : Digest) : List StoreSlot :=
  let start := (digest.extractLsb' 0 32).toNat
  let probes := (List.range (min 64 s.nslot)).map (fun i => s.storeSlot ((start + i) % s.nslot))
  (probes.takeWhile (fun x => x.kind != 0xFF)).filter (fun x => x.digest == digest)

/-- R99: the object of a slot as it is offered. -/
def State.slotOffer (s : State) (x : StoreSlot) : Option Offer :=
  let b := s.readBytes .device x.addr x.len
  match x.kind with
  | 0 => some (.portable b x.member)
  | 1 => some (.translation b x.len)
  | _ => none

/-- R141: what a module store offers for a digest: translations for the requester's model, the other translations, then
the portable images. -/
def State.storeOffers (s : State) (digest : Digest) (model : BitVec 32) : List Offer :=
  let xs := s.storeLookup digest
  let first := xs.filter (fun x => x.kind == 1 && x.model == model.toNat)
  let then' := xs.filter (fun x => x.kind == 1 && x.model != model.toNat)
  (first ++ then' ++ xs.filter (fun x => x.kind == 0)).filterMap s.slotOffer

/-- R99: a pod peer's code request is answered from this chip's module store. -/
def execCodeRequest (fromChip : Nat) (digest : BitVec 256) (model : BitVec 32) (s : State) :
    Host.Outcome State Fault Refusal := .next (s.codeArrives.send (.code fromChip digest (s.storeOffers digest model)))

/-! ## Checks (R95-R98) -/

/-- A digest's bytes. -/
def digestBytes (d : Digest) : List Byte := leBytes 32 d.toNat

/-- R95: the translator key entry of a KEYID among those of a trust entry: its two public keys. -/
def State.translatorKey (s : State) (entry : List Byte) (id : Digest) : Option (List Byte × List Byte) :=
  let base := recNat entry 0x10 8 % 2 ^ 42
  (List.range (min 64 (recNat entry 0xC 4))).findSome? (fun i =>
    let k := s.readBytes .device (base + 2048 * i) 2048
    let ed := (k.drop 0x20).take 32
    let ml := (k.drop 0x40).take 1952
    if BitVec.ofNat 256 (recNat k 0 32) = id ∧ sha3 (ed ++ ml) = id then some (ed, ml) else none)

/-- R96: where the code of a translation object begins. -/
def xlatCode (nwp : Nat) : Nat := (0xDA0 + 4 * nwp + 15) / 16 * 16

/-- R96: the waypoint table of a translation object. -/
def xlatTable (b : List Byte) : List Nat := (List.range (recNat b 6 2)).map (fun i => recNat b (0xDA0 + 4 * i) 4)

/-- R97: check 1 of VerifyNative. -/
def xlatForm (b : List Byte) (len : Nat) (digest : Digest) : Bool :=
  let nat' := recNat b 0xC 4
  let tab := xlatTable b
  0xDA0 ≤ len && xlatCode (recNat b 6 2) + nat' ≤ len && b.take 4 == [0x4B, 0x58, 0x4C, 0x54] && recNat b 4 2 == 1 &&
    nat' % 2 == 0 && 4 ≤ nat' && nat' ≤ 262144 && BitVec.ofNat 256 (recNat b 0x10 32) == digest &&
    tab.all (fun o => o % 2 == 0 && o + 3 < nat') && decide tab.Nodup

/-- R96: the message that a translation's signatures cover. -/
def xlatMessage (b : List Byte) : List Byte :=
  let at' := fun (off n : Nat) => (b.drop off).take n
  [0x54, 0x52, 0x4B, 0x58] ++ at' 0x10 32 ++ at' 8 4 ++ at' 0x30 32 ++ at' 0x50 32 ++ at' 6 2 ++
    at' 0xDA0 (4 * recNat b 6 2)

/-- R97: VerifyNative: the form of a translation object, or the reason for its rejection. -/
def State.verifyNative (s : State) (f : Fetch) (src : Nat) (object : List Byte) (len : Nat) : Except Nat Form :=
  let b := object.take len
  let id := BitVec.ofNat 256 (recNat b 0x30 32)
  let code := (b.drop (xlatCode (recNat b 6 2))).take (recNat b 0xC 4)
  if !xlatForm b len f.digest then .error rejForm
  else if BitVec.ofNat 32 (recNat b 8 4) ≠ Config.chipModel then .error rejModel
  else
    match (if f.executive then none else s.translatorKey f.entry id) with
    | none => .error rejKey
    | some (ed, ml) =>
      if !Config.ed25519Verify ed (xlatMessage b) ((b.drop 0x70).take 64) then .error rejSigEd
      else if !Config.mldsaVerify ml (xlatMessage b) ((b.drop 0xB0).take 3309) then .error rejSigPq
      else if sha3 code ≠ BitVec.ofNat 256 (recNat b 0x50 32) then .error rejNativeDigest
      else
        .ok { kind := .native, content := BitVec.ofNat 256 (recNat b 0x50 32), nwp := recNat b 6 2, wptab := xlatTable b,
              code := code, src := src, keyId := id }

/-- R55, R56: is an import entry as it must be, in a bundle of `nmember`? -/
def importOk (nmember : Nat) (e : List Byte) : Bool :=
  let member := recNat e 2 2
  e.length == 36 && recNat e 1 1 == 0 &&
    (match recNat e 0 1 with
    | 0 => member == 0
    | 1 => member < nmember && recNat e 4 32 == 0
    | _ => false)

/-- R58: the member images of a bundle image, each with its code, and what follows them. -/
def memberCodes (nmember : Nat) : Nat → List Byte → Option (List (List Byte) × List Byte)
  | 0, b => some ([], b)
  | n + 1, b =>
    let len := recNat b 0 4
    let code := (b.drop 4).take len
    let nimp := recNat b (4 + len) 2
    let entries := b.drop (6 + len)
    if b.length < 6 + len + 36 * nimp || len % 2 != 0 || len < 4 || 262144 < len || 4095 < nimp ||
        65535 < (callSites code).length ||
        !(List.range nimp).all (fun i => importOk nmember ((entries.drop (36 * i)).take 36)) then none
    else (memberCodes nmember n (entries.drop (36 * nimp))).map (fun r => (code :: r.1, r.2))

/-- R58: the digest of member `m` of a bundle image. -/
def funcDigest (image : List Byte) (m : Nat) : Digest :=
  sha3 ([0x54, 0x52, 0x4B, 0x31] ++ digestBytes (sha3 image) ++ leBytes 2 m)

/-- R98: VerifyPortable: the form of member `m` of a bundle image, or the reason for its rejection. -/
def verifyPortable (digest : Digest) (src : Nat) (image : List Byte) (m : Nat) : Except Nat Form :=
  let n := recNat image 4 2
  if image.take 4 ≠ [0x54, 0x52, 0x4B, 0x42] ∨ n = 0 ∨ n ≤ m then .error rejForm
  else
    match memberCodes n n (image.drop 6) with
    | some (codes, []) =>
      if funcDigest image m ≠ digest then .error rejPortDigest
      else
        let code := codes.getD m []
        .ok { kind := .portable, content := digest, nwp := (callSites code).length, wptab := [], code := code, src := src,
              keyId := 0 }
    | _ => .error rejForm

/-! ## The walk over the sources (R93) -/

/-- What a source holds out to the engine: a form copied from a shelf of this module, or an offer. -/
inductive Candidate where
  | copied (f : Form)
  | offered (o : Offer)
  deriving DecidableEq, Repr

/-- Is a candidate native? -/
def Candidate.native : Candidate → Bool
  | .copied f => f.kind == .native
  | .offered (.translation _ _) => true
  | .offered (.portable _ _) => false

/-- R93, R95: a candidate is verified; a copied form only against the key list. -/
def State.verify (s : State) (f : Fetch) (src : Nat) : Candidate → Except Nat Form
  | .copied g =>
    if g.kind = .native ∧ (f.executive ∨ (s.translatorKey f.entry g.keyId).isNone) then .error rejKey
    else .ok { g with src := src }
  | .offered (.translation object len) => s.verifyNative f src object len
  | .offered (.portable image m) => verifyPortable f.digest src image m

/-- R329, R333: does a fetch take a form of this kind and content? -/
def Fetch.takes (f : Fetch) (g : Form) : Bool :=
  match f.accept with
  | none => true
  | some a => g.kind == a.1 && g.content == a.2

/-- The walk so far: the portable form held and the native form found. -/
structure Walk where
  s : State
  held : Option Form
  found : Option Form
  deriving DecidableEq, Repr

/-- R93, R141: one candidate of the walk. Native forms are skipped only under portonly; a form that a fetch for a certain form
does not take is verified all the same (R329). -/
def Walk.step (f : Fetch) (src : Nat) (w : Walk) (k : Candidate) : Walk :=
  if w.found.isSome || (k.native && f.portOnly) || (!k.native && w.held.isSome) then w
  else
    match w.s.verify f src k with
    | .error r => { w with s := w.s.reject f.core r }
    | .ok g =>
      if !f.takes g then w
      else if k.native then { w with found := some g }
      else { w with held := some g }

/-- R93: the candidates of a source, native forms first. -/
def State.walkSource (s : State) (f : Fetch) (src : Nat) (ks : List Candidate) : Walk :=
  (ks.filter Candidate.native ++ ks.filter (fun k => !k.native)).foldl (Walk.step f src)
    { s := s, held := f.held, found := none }

/-- R93: the forms that other clusters of this module hold for a fetch, in cluster order. -/
def State.shelfForms (s : State) (l : Nat) (f : Fetch) (sameDie : Bool) : List Candidate :=
  (s.clusters.filter (fun k => k.1 != l && (k.1 / 32 == l / 32) == sameDie)).filterMap (fun k =>
    (k.2.lookup f.digest f.vf).map (fun e =>
      .copied { kind := e.2.kind, content := e.2.content, nwp := e.2.nwp, wptab := e.2.wptab, code := e.2.code,
                src := e.2.src, keyId := e.2.keyId }))

/-- R93, R95: the peers that a fetch asks, in order. -/
def Fetch.peers (f : Fetch) : List Nat :=
  if f.executive then []
  else ((List.range 8).map (fun i => recNat f.entry (0x18 + 2 * i) 2)).takeWhile (· != 0xFFFF)

/-! ## The end of a fetch -/

/-- The cluster with a fetch replaced. -/
def Cluster.setFetch (k : Cluster) (f : Fetch) : Cluster :=
  { k with fetches := k.fetches.map (fun g => if g.digest == f.digest && g.vf == f.vf then f else g) }

/-- The cluster without a fetch. -/
def Cluster.dropFetch (k : Cluster) (f : Fetch) : Cluster :=
  { k with fetches := k.fetches.filter (fun g => !(g.digest == f.digest && g.vf == f.vf)) }

/-- The cores of a cluster whose strands wait for forms of a virtual function. -/
def State.fetchCores (s : State) (l : Nat) (vf : BitVec 6) : List Nat :=
  (coresOfCluster l).filter (fun c => (s.core c).vfNow == vf)

/-- R133: a cpin that waited completes, with its status. -/
def State.pinEnds (s : State) (c i : Nat) (rd : BitVec 5) (status : Word) : State :=
  (s.modStrand c i (fun t =>
    { t.writeX rd status with fpc := t.fpc + 4, instret := t.instret + 1, park := none })).countEvent c evRetired 1

/-- R101, R133: what a strand that waits on a fetch does when its form is installed: a look-up is made again, and a cpin
acts on the entry. -/
def State.fetchResumes (s : State) (f : Fetch) (c i : Nat) : State :=
  match (s.strand c i).pos, (s.strand c i).park with
  | .miss m, _ => if m.digest = f.digest then s.resumeMiss c i m f.portOnly else s
  | _, some (.fetch d (some rd)) =>
    if d ≠ f.digest then s
    else
      match (s.cluster (clusterOf c)).lookup d f.vf with
      | some e =>
        let r := (s.cluster (clusterOf c)).pin e.1 e.2
        (s.setCluster (clusterOf c) r.1).pinEnds c i rd r.2
      | none => s.pinEnds c i rd 1
  | _, some (.fetch d _) => if d = f.digest then s.modStrand c i (fun t => { t with park := none }) else s
  | _, _ => s

/-- R94, R133: what a strand that waits on a fetch does when it fails. A look-up that takes any form makes its own
fetch when the one that failed looked for a certain form. -/
def State.fetchFails (s : State) (f : Fetch) (cause : Word) (c i : Nat) : State :=
  match (s.strand c i).pos, (s.strand c i).park with
  | .miss m, _ =>
    if m.digest ≠ f.digest then s
    else if f.accept.isSome ∧ m.resume.accept ≠ f.accept then s.resumeMiss c i m f.portOnly
    else s.missFault c i m cause (digestTval f.digest)
  | _, some (.fetch d (some rd)) =>
    if d ≠ f.digest then s else s.pinEnds c i rd 1
  | _, some (.fetch d none) => if d = f.digest then s.takeTrap c i cause (digestTval f.digest) else s
  | _, _ => s

/-- An action on every strand that may wait on a fetch. -/
def State.forWaiters (s : State) (l : Nat) (f : Fetch) (g : State → Nat → Nat → State) : State :=
  (s.fetchCores l f.vf).foldl (fun s c => allStrands.foldl (fun s i => g s c i) s) s

/-- R101: a fetch has installed its form. -/
def State.fetchDone (s : State) (l : Nat) (f : Fetch) : State :=
  (s.modCluster l (·.dropFetch f)).forWaiters l f (fun s c i => s.fetchResumes f c i)

/-- R94: a fetch has failed. -/
def State.fetchFailed (s : State) (l : Nat) (f : Fetch) : State :=
  (s.modCluster l (·.dropFetch f)).forWaiters l f (fun s c i => s.fetchFails f causeCodeFetch c i)

/-- R101, R102: a form is installed for a fetch, or the fetch waits for room. -/
def State.fetchInstall (s : State) (l : Nat) (f : Fetch) (g : Form) : State :=
  match s.installForm l f.digest f.vf g with
  | .done k => (s.setInstalled l k f.digest f.vf).fetchDone l f
  | .beyond k => ((s.setInstalled l k f.digest f.vf).countAll (coresOfCluster l) evShelfOverflow 1).fetchDone l f
  | .waits =>
    if f.install.isSome then s
    else
      (s.modCluster l (fun k =>
        { k.dropFetch f with fetches := (k.dropFetch f).fetches ++ [{ f with install := some g }] })).countAll
        (coresOfCluster l) evShelfWait 1

/-- R93: a fetch asks its next source. Source 5 is told by no message of the model, and its offers come with the move of the
schedule (DESIGN CHOICE, log entry 133). -/
def State.fetchAsks (s : State) (l : Nat) (f : Fetch) : State :=
  let s1 := s.modCluster l (·.setFetch f)
  match f.next, f.peers[f.peer]? with
  | 4, some chip => s1.send (.codeRequest chip f.digest Config.chipModel)
  | _, _ => s1

/-- R93: what follows an answer: install, ask the next source, or fail. -/
def State.fetchNext (l : Nat) (f : Fetch) (w : Walk) : State :=
  let f1 := { f with held := w.held }
  match w.found, w.held with
  | some g, _ => w.s.fetchInstall l f1 g
  | none, some g =>
    if f.portOnly || f.next = 5 then w.s.fetchInstall l f1 g
    else goOn f1 (some g)
  | none, none => if f.next = 5 then w.s.fetchFailed l f1 else goOn f1 none
where
  /-- R93: the source after the one that has answered. A peer that no message reaches is passed over (DESIGN CHOICE, log
  entry 141). -/
  goOn (f1 : Fetch) (held : Option Form) : State :=
    if f.next < 3 then w.s.fetchAsks l { f1 with next := f.next + 1 }
    else
      let first := if f.next = 3 then 0 else f.peer + 1
      match (List.range f.peers.length).find? (fun j => first ≤ j && !w.s.linkRefused (f.peers.getD j 0)), held with
      | some peer, _ => w.s.fetchAsks l { f1 with next := 4, peer := peer }
      | none, some g => w.s.fetchInstall l f1 g
      | none, none => w.s.fetchAsks l { f1 with next := 5 }

/-- R93: a source answers a fetch of a cluster. What shelves and the module store hold is read from them; peers and the
host bring their offers. -/
def execSourceAnswer (cluster : Nat) (digest : BitVec 256) (vf : BitVec 6) (source : Nat) (offers : List Offer)
    (s : State) : Host.Outcome State Fault Refusal :=
  .next (match (s.cluster cluster).fetch digest vf with
    | none => s
    | some f =>
      if f.next ≠ source ∨ f.install.isSome then s
      else
        let ks := match source with
          | 1 => s.shelfForms cluster f true
          | 2 => s.shelfForms cluster f false
          | 3 => (s.storeOffers digest Config.chipModel).map .offered
          | _ => offers.map .offered
        let s1 := if source = 4 then s.codeArrives else s
        (State.fetchNext cluster f (s1.walkSource f source ks)).settleHolds digest vf)

/-- R102: the fetches of a cluster that wait for room try again, in the order in which they began to wait. -/
def execFetchRetry (cluster : Nat) (s : State) : Host.Outcome State Fault Refusal :=
  .next (((s.cluster cluster).fetches.filter (·.install.isSome)).foldl (fun s f =>
    match f.install with
    | some g => if ((s.cluster cluster).fetch f.digest f.vf).isSome then s.fetchInstall cluster f g else s
    | none => s) s)

/-- R102: an entry's LAST, when its age has passed 2^31. -/
def DirEntry.aged (d : DirEntry) (cycle : Nat) : DirEntry :=
  if 2 ^ 31 < d.age cycle then { d with last := BitVec.ofNat 32 cycle - 0x80000000#32 } else d

/-- R102: the directory raises the LAST values whose ages have passed 2^31, unless it has for `n` periods. -/
def State.ageCluster (s : State) (l n : Nat) : State :=
  if n ≤ (s.cluster l).aged then s
  else s.modCluster l (fun k =>
    { k with aged := n, dir := k.dir.map (fun e => (e.1, e.2.aged (s.clusterCycle l))) })

/-- R102: the directory raises the LAST values whose ages have passed 2^31, once in each period of 2^30 core cycles. -/
def execLastAging (cluster : Nat) (s : State) : Host.Outcome State Fault Refusal :=
  .next (s.ageCluster cluster (s.clusterCycle cluster / 2 ^ 30 + 1))

/-- R102: at the end of a period of 2^30 cycles of a core its cluster's aging has been made. -/
def State.endAging (s : State) (c : Nat) : State :=
  let n := (s.core c).cycle.toNat
  if n % 2 ^ 30 = 0 then s.ageCluster (clusterOf c) (n / 2 ^ 30) else s

end Sys2Proof.Machine
end

