-- ==== Sys2Proof/Machine/Security.lean ====
section
/-! DEFINITION. The security core's SPDM responder: its connections, its transcripts, its measurements and its signatures
(R367, R370-R372). -/

namespace Sys2Proof.Machine

/-! ## Endpoints -/

/-- R370: an endpoint with no connection. -/
def Endpoint.reset : Endpoint := { stage := 0, opening := [], certificates := [], measurements := [] }

/-- The endpoint numbered `n`: 0–15 the DOE mailboxes of the logical devices, 16 the MCTP endpoint (R370). -/
def State.endpoint (s : State) (n : Nat) : Endpoint := mapGet Endpoint.reset s.security.endpoints n

/-- The state with an endpoint replaced. -/
def State.setEndpoint (s : State) (n : Nat) (e : Endpoint) : State :=
  { s with security := { s.security with endpoints := mapPut s.security.endpoints n e } }

/-- R370: does the responder have this endpoint: that of a bound logical device, or MCTP? -/
def State.hasEndpoint (s : State) (n : Nat) : Bool := n == 16 || (n < 16 && (s.ld n).bound)

/-! ## Responses (R370, SPDM 1.3) -/

/-- Bytes that the manual leaves free, taken fresh. -/
def State.freeBytes (s : State) (n : Nat) : State × List Byte :=
  ({ s with fresh := s.fresh + 1 }, (List.range n).map (Config.spdmFree s.fresh))

/-- The header of a response. -/
def spdmHeader (code p1 p2 : Nat) : List Byte := leBytes 1 0x13 ++ leBytes 1 code ++ leBytes 1 p1 ++ leBytes 1 p2

/-- R370, R372: the error codes. -/
def spdmInvalid : Nat := 0x01
def spdmUnexpected : Nat := 0x04
def spdmUnsupported : Nat := 0x07

/-- R372: an ERROR response, which changes neither the connection nor the transcript. -/
def State.spdmError (s : State) (ep code data : Nat) : State := s.send (.spdm ep (spdmHeader 0x7F code data))

/-- R372: a request at an endpoint, served once the connection has reached a stage. -/
def State.spdmServe (s : State) (ep stage : Nat) (f : State → Endpoint → State) : Host.Outcome State Fault Refusal :=
  .next (
    if s.hasEndpoint ep then
      let e := s.endpoint ep
      if stage ≤ e.stage then f s e else s.spdmError ep spdmUnexpected 0
    else s)

/-- A response is sent; the request and the response join the opening exchanges. -/
def State.spdmOpen (s : State) (ep : Nat) (e : Endpoint) (req rsp : List Byte) : State :=
  (s.setEndpoint ep { e with opening := e.opening ++ req ++ rsp }).send (.spdm ep rsp)

/-- A response is sent; the request and the response join the exchanges for the certificate chain, and the measurement part is
reset, as SPDM 1.3 has it (PRESUMED, log entry 149). -/
def State.spdmAnswer (s : State) (ep : Nat) (e : Endpoint) (req rsp : List Byte) : State :=
  (s.setEndpoint ep { e with certificates := e.certificates ++ req ++ rsp, measurements := [] }).send (.spdm ep rsp)

/-- R370: GET_VERSION. -/
def execGetVersion (ep : Nat) (req : List Byte) (s : State) : Host.Outcome State Fault Refusal :=
  s.spdmServe ep 0 (fun s _ =>
    s.spdmOpen ep { Endpoint.reset with stage := 1 } req
      (leBytes 1 0x10 ++ leBytes 1 0x04 ++ leBytes 3 0 ++ leBytes 1 1 ++ leBytes 2 0x1300))

/-- R370: the capability flags: CERT_CAP, CHAL_CAP, MEAS_CAP = 2. -/
def spdmCapabilities : Nat := 2 + 4 + 2 * 8

/-- R370: GET_CAPABILITIES. -/
def execGetCapabilities (ep : Nat) (req : List Byte) (s : State) : Host.Outcome State Fault Refusal :=
  s.spdmServe ep 1 (fun s e =>
    let r := s.freeBytes 9
    r.1.spdmOpen ep { e with stage := max e.stage 2 } req
      (spdmHeader 0x61 0 0 ++ leBytes 1 0 ++ r.2.take 1 ++ leBytes 2 0 ++ leBytes 4 spdmCapabilities ++ r.2.drop 1))

/-- R370: NEGOTIATE_ALGORITHMS: Ed25519 (bit 10 of BaseAsymSel), SHA-384, measurement hash SHA-384. -/
def execNegotiateAlgorithms (ep : Nat) (req : List Byte) (s : State) : Host.Outcome State Fault Refusal :=
  s.spdmServe ep 2 (fun s e =>
    s.spdmOpen ep { e with stage := 3 } req
      (spdmHeader 0x63 0 0 ++ leBytes 2 36 ++ leBytes 1 1 ++ leBytes 1 0 ++ leBytes 4 4 ++ leBytes 4 0x400 ++
        leBytes 4 2 ++ leBytes 16 0))

/-- The bytes of a SHA-384 digest. -/
def digest384 (d : BitVec 384) : List Byte := leBytes 48 d.toNat

/-- The digest of the certificate chain of slot 0. -/
def State.chainDigest (s : State) : List Byte := digest384 (sha384 s.security.chain)

/-- R370: GET_DIGESTS. -/
def execGetDigests (ep : Nat) (req : List Byte) (s : State) : Host.Outcome State Fault Refusal :=
  s.spdmServe ep 3 (fun s e => s.spdmAnswer ep e req (spdmHeader 0x01 1 1 ++ s.chainDigest))

/-- R370: GET_CERTIFICATE: the requested portion of the chain of slot 0. -/
def execGetCertificate (ep : Nat) (req : List Byte) (s : State) : Host.Outcome State Fault Refusal :=
  s.spdmServe ep 3 (fun s e =>
    let rest := s.security.chain.drop (recNat req 4 2)
    let portion := rest.take (recNat req 6 2)
    if recNat req 2 1 % 16 ≠ 0 ∨ rest = [] then s.spdmError ep spdmInvalid 0
    else
      s.spdmAnswer ep e req (spdmHeader 0x02 0 0 ++ leBytes 2 portion.length ++
        leBytes 2 (rest.length - portion.length) ++ portion))

/-! ## Signed responses (R371) -/

/-- A string of `n` bytes. -/
def sized (n : Nat) (b : List Byte) : List Byte := (b ++ List.replicate n 0).take n

/-- SPDM 1.3: the characters of a string. -/
def asciiBytes (t : String) : List Byte := t.toList.map (fun c => BitVec.ofNat 8 c.toNat)

/-- SPDM 1.3: the prefix of 100 bytes of what a signature in a context covers. -/
def signingPrefix (context : String) : List Byte :=
  let c := asciiBytes context
  (List.replicate 4 (asciiBytes "dmtf-spdm-v1.3.*")).flatten ++ List.replicate (36 - c.length) 0 ++ c

/-- The bytes of an ML-DSA-65 signature, and of an Ed25519 one. -/
def mldsaLength : Nat := 3309
def ed25519Length : Nat := 64

/-- R371: a response is signed: both signatures cover the hash of the transcript, which ends with the response but for its
opaque data and its signature (DESIGN CHOICE, log entry 149: the opaque data hold a signature over that hash). The Ed25519
signature ends the response, and the ML-DSA-65 signature is its opaque data. -/
def State.signedResponse (s : State) (context : String) (transcript head requester : List Byte) : List Byte :=
  let size := leBytes 2 mldsaLength
  let h := signingPrefix context ++ digest384 (sha384 (transcript ++ head ++ size ++ requester))
  let keys := (s.security.identity.map (fun i => (i.edKey, i.mlKey))).getD ([], [])
  head ++ size ++ sized mldsaLength (Config.mldsaSign keys.2 h) ++ requester ++
    sized ed25519Length (Config.ed25519Sign keys.1 h)

/-- The measurement registers, as one string. -/
def State.allMeasurements (s : State) : List Byte := s.security.mr.toList.flatMap digest384

/-- The summary hash that a CHALLENGE asks for. -/
def State.summary (s : State) (kind : Nat) : List Byte :=
  if kind = 0 then [] else digest384 (sha384 s.allMeasurements)

/-- R371: CHALLENGE: the transcript is that of the opening, of the certificate chain and of this exchange. -/
def execChallenge (ep : Nat) (req : List Byte) (s : State) : Host.Outcome State Fault Refusal :=
  s.spdmServe ep 3 (fun s e =>
    if recNat req 2 1 % 16 ≠ 0 then s.spdmError ep spdmInvalid 0
    else
      let r := s.freeBytes 32
      let head := spdmHeader 0x03 0 1 ++ s.chainDigest ++ r.2 ++ s.summary (recNat req 3 1)
      let rsp := s.signedResponse "responder-challenge_auth signing" (e.opening ++ e.certificates ++ req) head
        ((req.drop 36).take 8)
      (r.1.setEndpoint ep { e with certificates := [], measurements := [] }).send (.spdm ep rsp))

/-- R370: the measurement block of index `i`, a raw digest of 48 bytes; its type is left free. -/
def State.measurementBlock (s : State) (kind : Byte) (i : Nat) : List Byte :=
  leBytes 1 i ++ leBytes 1 1 ++ leBytes 2 51 ++ [kind &&& 0x7F#8] ++ leBytes 2 48 ++
    digest384 (s.security.mr[i - 1]?.getD 0)

/-- R370: the indexes that a request for measurements asks for. -/
def measurementIndexes (index : Nat) : Option (List Nat) :=
  if index = 0 then some []
  else if index = 0xFF then some ((List.range 16).map (· + 1))
  else if index ≤ 16 then some [index]
  else none

/-- R370, R371: GET_MEASUREMENTS: the transcript is that of the opening and of the exchanges for measurements; a signed response
resets the measurement part, and each the part of the certificate chain. -/
def execGetMeasurements (ep : Nat) (req : List Byte) (s : State) : Host.Outcome State Fault Refusal :=
  s.spdmServe ep 3 (fun s e =>
    match measurementIndexes (recNat req 3 1) with
    | none => s.spdmError ep spdmInvalid 0
    | some is =>
      let r := s.freeBytes 33
      let record := is.flatMap (s.measurementBlock (r.2.headD 0))
      let count := if recNat req 3 1 = 0 then 16 else 0
      let head := spdmHeader 0x60 count 0 ++ leBytes 1 is.length ++ leBytes 3 record.length ++ record ++ r.2.drop 1
      if recNat req 2 1 % 2 = 1 then
        let rsp := s.signedResponse "responder-measurements signing" (e.opening ++ e.measurements ++ req) head
          ((req.drop 37).take 8)
        (r.1.setEndpoint ep { e with certificates := [], measurements := [] }).send (.spdm ep rsp)
      else
        let rsp := head ++ leBytes 2 0 ++ (req.drop 4).take 8
        (r.1.setEndpoint ep { e with certificates := [], measurements := e.measurements ++ req ++ rsp }).send (.spdm ep rsp))

/-- R370: any other request; the error data of SPDM 1.3 are the request's code. -/
def execSpdmUnsupportedRequest (ep : Nat) (req : List Byte) (s : State) : Host.Outcome State Fault Refusal :=
  s.spdmServe ep 0 (fun s _ => s.spdmError ep spdmUnsupported (recNat req 1 1))

/-! ## Measuring (R367) -/

/-- R367: a measurement register is extended with measured bytes, until the registers are frozen. -/
def Security.extend (k : Security) (i : Nat) (bytes : List Byte) : Security :=
  if k.frozen then k
  else
    let old := k.mr[i]?.getD 0
    { k with mr := k.mr.setIfInBounds i (sha384 (digest384 old ++ digest384 (sha384 bytes))) }

end Sys2Proof.Machine
end

