-- ==== Sys2Proof/Machine/BringUp.lean ====
section
/-! DEFINITION. Bring-up: the stages of a cold reset, measured start, the I3C target, the lock of the tick, the start of
the server cores, and throttling (R296, R340, R367-R369, R373, R377-R379). -/

namespace Sys2Proof.Machine

/-! ## The I3C target (R379) -/

/-- R379: STATUS. -/
def Chip.status (h : Chip) : BitVec 32 := 0#19 ++ ((if h.locked then 1#1 else 0#1) ++ (h.stop ++ h.stage))

/-- R379: the writable bits of PODCFG. -/
def podcfgMask : BitVec 32 := 0xFFFFF

/-- R379: does a PODCFG place its chip inside its extents? -/
def podcfgFits (v : BitVec 32) : Bool :=
  (v.extractLsb' 0 3).toNat ≤ (v.extractLsb' 10 3).toNat && (v.extractLsb' 3 3).toNat ≤ (v.extractLsb' 13 3).toNat &&
    (v.extractLsb' 6 4).toNat ≤ (v.extractLsb' 16 4).toNat

/-- R379: a write of PODCFG. -/
def execPodcfgWrite (value : BitVec 32) (s : State) : Host.Outcome State Fault Refusal :=
  .next (
    if s.chip.locked || !podcfgFits value then s
    else { s with chip := { s.chip with podcfg := value &&& podcfgMask } })

/-! ## The boot record (R340) -/

/-- R340: the bytes "KBOT". -/
def kbot : Nat := 0x544F424B

def brEntry (b : List Byte) : Word := recWord b 0x08
def brCtlq (b : List Byte) : Nat := recNat b 0x10 8
def brFdir (b : List Byte) : Word := recWord b 0x18
def brNfdir (b : List Byte) : Nat := recNat b 0x20 8
def brModtab (b : List Byte) : Word := recWord b 0x28
def brNmod (b : List Byte) : Nat := recNat b 0x30 4

/-- R340: the server mask that a boot record gives: bench 0 of cluster 0 of die 0 is always a server bench, and the
default mask replaces the mask of a record with a bad MAGIC or no bit set. -/
def brMask (b : List Byte) : BitVec 1024 :=
  let m := BitVec.ofNat 1024 (recNat b 0x80 128)
  if recNat b 0 4 ≠ kbot ∨ m = 0 then defaultServerMask else m ||| 1

/-! ## Measured start (R367-R369) -/

/-- R368: do the keys of an image stand in the fuses? -/
def keysFused (fuses : List Byte) (i : SignedImage) : Bool :=
  let stands := fun (k : List Byte) =>
    (List.range (fuses.length / 48)).any (fun n => (fuses.drop (48 * n)).take 48 == digest384 (sha384 k))
  stands i.edPub && stands i.mlPub

/-- R368: do both signatures of an image verify over its digest? -/
def imageVerified (fuses : List Byte) (i : SignedImage) : Bool :=
  let d := digest384 (sha384 i.bytes)
  keysFused fuses i && Config.ed25519Verify i.edPub d i.edSig && Config.mldsaVerify i.mlPub d i.mlSig

/-- R369: the bytes of the device identity record; its layout is not given (DESIGN CHOICE, log entry 148). -/
def identityBytes (d : DeviceIdentity) : List Byte := d.edKey ++ d.mlKey ++ d.serial ++ leBytes 4 d.model.toNat

/-- R369: does the identity record verify? -/
def identityVerified (b : BootInput) : Bool :=
  b.identity.bytes == identityBytes b.device && imageVerified b.rootKeyHashes b.identity

/-- R367-R369: the ROM's and the firmware's measurements up to MR4, and the STOP code of the first check that fails. -/
def measureFirmware (b : BootInput) (k : Security) : Security × Nat :=
  let k1 := (k.extend 0 (leBytes 4 Config.chipModel.toNat ++ leBytes 4 b.romVersion.toNat)).extend 1 b.firmware.bytes
  if !imageVerified b.rootKeyHashes b.firmware then (k1, 2)
  else
    let k2 := k1.extend 2 b.rootKeyHashes
    if !identityVerified b then (k2, 3)
    else
      let k3 := ({ k2 with identity := some b.device } : Security).extend 3 b.microcode.bytes
      if !imageVerified b.rootKeyHashes b.microcode then (k3, 2)
      else
        let k4 := k3.extend 4 b.portFirmware.bytes
        if !imageVerified b.rootKeyHashes b.portFirmware then (k4, 2) else (k4, 0)

/-- R64, R367: record `i` of a directory, as it stands in memory. -/
def State.storedRecord (s : State) (fdir i : Nat) : List Byte := s.readBytes .device ((fdir + 64 * i) % 2 ^ 42) 64

/-- R64, R367: the records of a directory that a record's handles name. -/
def State.storedImports (s : State) (fdir nfdir i : Nat) : List Nat :=
  let r := s.storedRecord fdir i
  if !recValid r then []
  else (List.range (min (recNimp r) 4096)).filterMap (fun n =>
    let h := s.readNat .device (((recImph r).toNat + 8 * n) % 2 ^ 42) 8
    if fdir ≤ h ∧ (h - fdir) % 64 = 0 ∧ (h - fdir) / 64 < nfdir then some ((h - fdir) / 64) else none)

/-- R367: the records reachable from those found last, in as many rounds as there are records. -/
def State.reachableFrom (s : State) (fdir nfdir : Nat) : Nat → List Nat → List Nat → List Nat
  | 0, found, _ => found
  | n + 1, found, last =>
    let new := ((last.flatMap (s.storedImports fdir nfdir)).eraseDups).filter (fun i => !found.contains i)
    if new.isEmpty then found else s.reachableFrom fdir nfdir n (found ++ new) new

/-- R58, R367: the bundle images reachable from ENTRY, in directory order, among those that the module's boot flash holds. -/
def State.executiveImages (s : State) (b : BootInput) (record : List Byte) : List (List Byte) :=
  let fdir := (brFdir record).toNat
  let entry := ((brEntry record).toNat - fdir) / 64
  let found := s.reachableFrom fdir (brNfdir record) (brNfdir record) [entry] [entry]
  ((found.foldr insertNat []).filterMap (fun i =>
    let r := s.storedRecord fdir i
    b.bundles.find? (fun image => funcDigest image (recNat r 32 2) == recDigest r))).eraseDups

/-- R367: the boot record, the executive's images and the server mask are measured, and the registers are frozen. -/
def measureExecutive (images : List (List Byte)) (record : List Byte) (k : Security) : Security :=
  let k1 := images.foldl (fun (k : Security) i => k.extend 6 i) (k.extend 5 record)
  { k1.extend 7 (leBytes 128 (brMask record).toNat) with frozen := true }

/-! ## Cold reset (R378) -/

/-- R378: start stops in a stage with a code. -/
def State.startStops (s : State) (stage stop : Nat) : State :=
  { s with chip := { s.chip with stage := BitVec.ofNat 4 stage, stop := BitVec.ofNat 8 stop } }

/-- R378: stage 4: the boot record is copied and measured. The firmware has placed the executive's memory (`loaded`) by then: how
is not given (DESIGN CHOICE, log entry 148). -/
def State.bootCopied (s : State) (b : BootInput) (record : List Byte) : State :=
  let r := (record ++ List.replicate 256 0).take 256
  let cells := (b.loaded.flatMap (fun p => cellsAt (p.1 % Config.deviceBytes) p.2)).filter (fun x => isDevice x.1)
  let s1 := { s with mem := Memory.storeAll (Memory.storeAll s.mem cells) (cellsAt Config.bootRecordLoc r) }
  { s1 with
    security := measureExecutive (s1.executiveImages b r) r s.security
    ctlq := brCtlq r
    chip := { s1.chip with
      stage := 5, cables := b.cables, serverMask := brMask r, bootEntry := brEntry r, bootFdir := brFdir r
      bootNfdir := brNfdir r, bootModtab := brModtab r, bootNmod := brNmod r } }

/-- R367, R373, R378: the stages 1 to 4 of a cold reset; the ports come up at the start of stage 5, in which the chip waits
for its tick to lock. -/
def State.coldReset (s : State) (b : BootInput) : State :=
  let s0 := { State.reset with moves := s.moves, fresh := s.fresh, deferred := s.deferred }
  if !b.railsOk then s0.startStops 1 1
  else
    let m := measureFirmware b { s0.security with chain := b.chain }
    let s1 := { s0 with security := m.1 }
    if m.2 ≠ 0 then s1.startStops 2 m.2
    else
      let keyed := { s1.security with keys := mapPut [] 0 { key := b.executiveKey, serial := 0, owner := none, vf := 0 } }
      let s2 := { s1 with security := keyed }
      if !b.memoryOk then s2.startStops 3 4
      else
        match b.bootRecord with
        | none => s2.startStops 4 5
        | some r => s2.bootCopied b r

/-- R378: a cold reset. -/
def execColdReset (b : BootInput) (s : State) : Host.Outcome State Fault Refusal := .next (s.coldReset b)

/-! ## The tick and the server cores (R296, R340) -/

/-- The server cores. -/
def State.serverCores (s : State) : List Nat := (List.range 4096).filter s.isServer

/-- R111, R340: a server core's launch values are those of the boot record. -/
def Core.bootValues (k : Core) (h : Chip) : Core :=
  { k with fdir := h.bootFdir, nfdir := h.bootNfdir, modtab := h.bootModtab, nmod := h.bootNmod, helpers := 10 }

/-- R63, R340: the control strand of a server core at ENTRY; ra holds the exit handle. -/
def serverStrand (rec : List Byte) (gp : Word) : Strand :=
  let t := ((Strand.reset.writeX 10#5 (BitVec.ofNat 64 Config.bootRecordLoc)).writeX 3#5 gp).writeX ra exitHandle
  { t with
    status := .live, priv := .machine, curdir := BitVec.ofNat 24 (recDirIdx rec), pos := .first rec }

/-- R340: the record and the data base of ENTRY, when it passes CheckHandle on a core. -/
def State.bootEntryRecord (s : State) (c : Nat) : Option (List Byte × Word) :=
  let x := { s.deviceCtx c with priv := .machine }
  match s.checkHandle x 0 s.chip.bootEntry with
  | .error _ => none
  | .ok (s1, r) =>
    match s1.dataBase x 0 r with
    | .error _ => none
    | .ok (_, gp) => some (r, gp)

/-- R340, R378: stage 6: the server cores start, or start stops. -/
def State.startServers (s : State) : State :=
  let cs := s.serverCores
  let s1 := cs.foldl (fun s c => s.modCore c (fun k => k.bootValues s.chip)) s
  match s1.bootEntryRecord (cs.headD 0) with
  | none => s1.startStops 6 6
  | some (r, gp) =>
    { (cs.foldl (fun s c => s.setStrand c 0 (serverStrand r gp)) s1) with chip := { s1.chip with stage := 6 } }

/-- R296: the chip locks: chip 0 counts on from 0, another chip takes the pod's value once. -/
def Chip.lock (h : Chip) (root : Bool) (podTick : Word) : Chip :=
  { h with locked := true, tick := if root then h.tick else podTick }

/-- R296, R378: the tick locks, and the server cores start. -/
def execTickLock (podTick : BitVec 64) (s : State) : Host.Outcome State Fault Refusal :=
  .next (
    if s.chip.locked || s.chip.stage != 5 || s.chip.stop != 0 then s
    else ({ s with chip := s.chip.lock (s.chipNumber == 0) podTick } : State).startServers)

/-! ## Throttling (R377) -/

/-- R377: a limit is reached: both clocks are lowered together. -/
def execThrottle (s : State) : Host.Outcome State Fault Refusal :=
  .next { s with chip := { s.chip with throttled := true } }

/-- R377: the limit clears: both clocks are restored. -/
def execThrottleRestore (s : State) : Host.Outcome State Fault Refusal :=
  .next { s with chip := { s.chip with throttled := false } }

end Sys2Proof.Machine
end

