-- ==== Sys2Proof/Machine/Csr.lean ====
section
/-! DEFINITION. The control and status registers: which exist, who may reach them, what a read gives and what a write
stores, and the counter accesses that the executive settles (R44-R49, R183, R328, R352-R361). -/

namespace Sys2Proof.Machine

/-! ## Which registers exist (R45, R328) -/

/-- R45: the registers that every core has. -/
def csrCommon : List Nat :=
  [0xC00, 0xC01, 0xC02, 0x800, 0x801, 0x802, 0x803, 0x804, 0x805, 0x806, 0x807, 0x808, 0xCC0, 0xCC1, 0xCC2, 0xCC3,
   0xCC4, 0xCC5, 0xCC6, 0xCC7, 0xCC8, 0xCC9, 0xCCA, 0x5C0, 0x5C1, 0x5C2, 0x5C3, 0x5C4, 0x5C5, 0x5C6, 0x5C7, 0x5C8,
   0x5C9, 0x5CA, 0x5CB, 0x5CC, 0x7C0, 0x7C1, 0x7C2, 0x7C3, 0x7C4,
   0x100, 0x104, 0x105, 0x106, 0x140, 0x141, 0x142, 0x143, 0x144, 0x180, 0xF14]

/-- R328: the registers that only server cores have. -/
def csrServer : List Nat :=
  [0x300, 0x301, 0x302, 0x303, 0x304, 0x305, 0x306, 0x340, 0x341, 0x342, 0x343, 0x344]

/-- Does a core have the register? -/
def State.csrExists (s : State) (c : Nat) (a : BitVec 12) : Bool :=
  csrCommon.contains a.toNat || (s.isServer c && csrServer.contains a.toNat)

/-- R46: the privilege that the address encodes. -/
def csrLevel (a : BitVec 12) : Nat := (a.extractLsb' 8 2).toNat

/-- R46: is the address read-only? -/
def csrReadOnly (a : BitVec 12) : Bool := a.extractLsb' 10 2 == 3#2

/-- R46: may the strand read the user counters cycle, time and instret? -/
def State.counterEnabled (s : State) (c i : Nat) (a : BitVec 12) : Bool :=
  let t := s.strand c i
  let bit := a.toNat - 0xC00
  if a.toNat < 0xC00 ∨ 0xC02 < a.toNat then true
  else
    (t.priv != .user || (s.core c).scounteren.getLsbD bit) &&
      (t.priv == .machine || !s.isServer c || t.mcounteren.getLsbD bit)

/-- The status bits TVM and TW of the privileged specification, on server cores. -/
def bitTVM : Nat := 20
def bitTW : Nat := 21
def bitTSR : Nat := 22

/-- R46: may the strand make this access? -/
def State.csrAllowed (s : State) (c i : Nat) (a : BitVec 12) (writes : Bool) : Bool :=
  let t := s.strand c i
  s.csrExists c a && csrLevel a ≤ t.priv.rank && !(writes && csrReadOnly a) && s.counterEnabled c i a &&
    !(a == 0x180#12 && t.priv == .supervisor && t.mstatus.getLsbD bitTVM)

/-! ## Masks -/

/-- R328: the bits of sstatus. -/
def sstatusMask : Word := 0x000C0122#64

/-- R328: the bits of mstatus. -/
def mstatusMask : Word := 0x007E19AA#64

/-- R328: the interrupt bits of mie and mip. -/
def mieMask : Word := 0x702A0#64

/-- R328: the mip bits that machine mode writes. -/
def mipWritable : Word := 0x220#64

/-- R328: medeleg has one bit for each exception cause. -/
def medelegMask : Word := 0x000F0000FF00A0F4#64

/-- R183: the fields of mcfgw. -/
def mcfgwMask : Word := 0x000000FFFF3FF30F#64

/-- R361: the fields of evmode. -/
def evmodeMask : Word := 0xFFFFFFFFFFFFFF03#64

/-- R352: the fields of evsel. -/
def evselMask : Word := 0x1FF#64

/-- R328: what misa reads. -/
def misaValue : Word := 0x8000000000141105#64

/-! ## Reading -/

/-- The counter of an evsel or evcnt address. -/
def counterIndex (a : BitVec 12) : Nat := if a.toNat < 0x5C9 then a.toNat - 0x5C5 else a.toNat - 0x5C9

/-- Is the address an evsel? -/
def isEvsel (a : BitVec 12) : Bool := 0x5C5 ≤ a.toNat && a.toNat ≤ 0x5C8

/-- Is the address an evcnt? -/
def isEvcnt (a : BitVec 12) : Bool := 0x5C9 ≤ a.toNat && a.toNat ≤ 0x5CC

/-- R352: the event that a counter of a core selects. -/
def Core.selected (k : Core) (i : Nat) : Nat := field (k.evsel[i]?.getD 0) 0 8

/-- R357, R358: does a counter read 0 at a privilege? -/
def State.counterReadsZero (s : State) (c i : Nat) (priv : Priv) : Bool :=
  let k := s.core c
  !s.isServer c &&
    (isFabricEvent (k.selected i) || (priv != .machine && !k.eventAllowed (k.selected i)))

/-- What a read of the registers of traps gives (R328). -/
def State.readTrapCsr (s : State) (c i : Nat) (a : Nat) : Word :=
  let k := s.core c
  let t := k.strand i
  match a with
  | 0x100 => t.mstatus &&& sstatusMask
  | 0x104 => t.sieView (s.isServer c)
  | 0x105 => t.stvec
  | 0x106 => k.scounteren
  | 0x140 => t.sscratch
  | 0x141 => t.sepc
  | 0x142 => t.scause
  | 0x143 => t.stval
  | 0x144 => s.pendingBits c i &&& (if s.isServer c then sieMask &&& t.mideleg else sieMask)
  | 0x180 => k.satp
  | 0xF14 => BitVec.ofNat 64 (c * 16 + i)
  | 0x300 => t.mstatus
  | 0x301 => misaValue
  | 0x302 => t.medeleg
  | 0x303 => t.mideleg
  | 0x304 => t.mie
  | 0x305 => t.mtvec
  | 0x306 => t.mcounteren
  | 0x340 => t.mscratch
  | 0x341 => t.mepc
  | 0x342 => t.mcause
  | 0x343 => t.mtval
  | 0x344 => s.pendingBits c i &&& mieMask
  | _ => 0

/-- What a read of a register gives, at strand `i` of core `c` (R45). -/
def State.readCsr (s : State) (c i : Nat) (a : BitVec 12) : Word :=
  let k := s.core c
  let t := k.strand i
  match a.toNat with
  | 0xC00 => k.cycle
  | 0xC01 => s.tick
  | 0xC02 => t.instret
  | 0x800 => t.vround.setWidth 64
  | 0x801 => t.vfflags.setWidth 64
  | 0x802 => t.mcfgw
  | 0x803 => t.mstra
  | 0x804 => t.mstrb
  | 0x805 => t.mkLen
  | 0x806 => t.mrp
  | 0x807 => t.gsel
  | 0x808 => t.rqprog
  | 0xCC0 => 256
  | 0xCC1 => 4096
  | 0xCC2 => BitVec.ofNat 64 c
  | 0xCC3 => BitVec.ofNat 64 i
  | 0xCC4 => t.vpeid.setWidth 64
  | 0xCC5 => t.vpecnt.setWidth 64
  | 0xCC6 => t.sstepcnt
  | 0xCC7 => s.tick
  | 0xCC8 => Config.chipModel.setWidth 64
  | 0xCC9 => Config.capabilities.extractLsb' 0 64
  | 0xCCA => Config.capabilities.extractLsb' 64 64
  | 0x5C0 => boolWord t.pp
  | 0x5C1 => t.kpfx.setWidth 64
  | 0x5C2 => k.vshare.setWidth 64
  | 0x5C3 => (s.cluster (clusterOf c)).cdlim.setWidth 64
  | 0x5C4 => t.ctxbase
  | 0x7C0 => k.evallow[0]
  | 0x7C1 => k.evallow[1]
  | 0x7C2 => k.evallow[2]
  | 0x7C3 => k.evallow[3]
  | 0x7C4 => k.evmode
  | n =>
    if isEvsel a then k.evsel[counterIndex a]?.getD 0
    else if isEvcnt a then
      if s.counterReadsZero c (counterIndex a) t.priv then 0
      else (k.evcnt[counterIndex a]?.getD 0).setWidth 64
    else s.readTrapCsr c i n

/-! ## Writing -/

/-- R49: the rounding mode that a write leaves. -/
def roundAfter (old : BitVec 3) (v : Word) : BitVec 3 := if field v 0 3 ≤ 4 then v.extractLsb' 0 3 else old

/-- R45: the directory limit that a write leaves. -/
def cdlimAfter (v : Word) : BitVec 7 := if v = 0 then 1 else if 64 < v.toNat then 64 else v.setWidth 7

/-- R232: satp after a write; an unsupported mode changes nothing. -/
def satpAfter (old v : Word) : Word := if field v 60 4 = 0 ∨ field v 60 4 = 9 then v else old

/-- R328: mstatus after a write; MPP holds only modes that exist. -/
def mstatusAfter (old v : Word) : Word :=
  let v' := if field v bitMPP 2 = 2 then putField v bitMPP 2 (field old bitMPP 2) else v
  v' &&& mstatusMask

/-- A write of the registers of traps (R328). -/
def State.writeTrapCsr (s : State) (c i : Nat) (a : Nat) (v : Word) : State :=
  let m := s.modStrand c i
  match a with
  | 0x100 => m (fun t => { t with mstatus := maskInto t.mstatus v sstatusMask })
  | 0x104 => m (·.writeSie (s.isServer c) v)
  | 0x105 => m (fun t => { t with stvec := v })
  | 0x106 => s.modCore c (fun k => { k with scounteren := v &&& 7#64 })
  | 0x140 => m (fun t => { t with sscratch := v })
  | 0x141 => m (fun t => { t with sepc := v &&& epcMask })
  | 0x142 => m (fun t => { t with scause := v })
  | 0x143 => m (fun t => { t with stval := v })
  | 0x180 => s.modCore c (fun k => { k with satp := satpAfter k.satp v })
  | 0x300 => m (fun t => { t with mstatus := mstatusAfter t.mstatus v })
  | 0x302 => m (fun t => { t with medeleg := v &&& medelegMask })
  | 0x303 => m (fun t => { t with mideleg := v &&& sieMask })
  | 0x304 => m (fun t => { t with mie := v &&& mieMask })
  | 0x305 => m (fun t => { t with mtvec := v })
  | 0x306 => m (fun t => { t with mcounteren := v &&& 7#64 })
  | 0x340 => m (fun t => { t with mscratch := v })
  | 0x341 => m (fun t => { t with mepc := v &&& epcMask })
  | 0x342 => m (fun t => { t with mcause := v })
  | 0x343 => m (fun t => { t with mtval := v })
  | 0x344 => m (fun t => { t with ip := maskInto t.ip v mipWritable })
  | _ => s

/-- A write of a register by strand `i` of core `c` (R44, R45): its RW fields take the value. -/
def State.writeCsr (s : State) (c i : Nat) (a : BitVec 12) (v : Word) : State :=
  let m := s.modStrand c i
  let mc := s.modCore c
  match a.toNat with
  | 0x800 => m (fun t => { t with vround := roundAfter t.vround v })
  | 0x801 => m (fun t => { t with vfflags := v.extractLsb' 0 5 })
  | 0x802 => m (fun t => { t with mcfgw := v &&& mcfgwMask })
  | 0x803 => m (fun t => { t with mstra := v })
  | 0x804 => m (fun t => { t with mstrb := v })
  | 0x805 => m (fun t => { t with mkLen := v })
  | 0x806 => m (fun t => { t with mrp := v })
  | 0x807 => m (fun t => { t with gsel := v })
  | 0x808 => m (fun t => { t with rqprog := v })
  | 0x5C0 => m (fun t => { t with pp := v.getLsbD 0 })
  | 0x5C1 => m (fun t => { t with kpfx := readKpfx v.toNat })
  | 0x5C2 => mc (fun k => { k with vshare := v.extractLsb' 0 4 })
  | 0x5C3 => s.modCluster (clusterOf c) (fun k => { k with cdlim := cdlimAfter v })
  | 0x5C4 => m (fun t => { t with ctxbase := v })
  | 0x7C0 => mc (fun k => { k with evallow := k.evallow.set 0 v })
  | 0x7C1 => mc (fun k => { k with evallow := k.evallow.set 1 v })
  | 0x7C2 => mc (fun k => { k with evallow := k.evallow.set 2 v })
  | 0x7C3 => mc (fun k => { k with evallow := k.evallow.set 3 v })
  | 0x7C4 => mc (fun k => { k with evmode := v &&& evmodeMask })
  | n =>
    if isEvsel a then mc (fun k => { k with evsel := k.evsel.setIfInBounds (counterIndex a) (v &&& evselMask) })
    else if isEvcnt a then
      mc (fun k => { k with evcnt := k.evcnt.setIfInBounds (counterIndex a) (v.extractLsb' 0 48) })
    else s.writeTrapCsr c i n v

/-! ## Counter accesses (R358, R359) -/

/-- R358: what becomes of a counter access. -/
inductive CounterFate where
  | performed
  | ignored
  | exits (op : Nat) (value : Word)
  deriving DecidableEq, Repr

/-- R358: the fate of an access to an evsel or evcnt, with the value that it would write, if it writes. -/
def State.counterFate (s : State) (c i : Nat) (a : BitVec 12) (value : Option Word) : CounterFate :=
  let k := s.core c
  let t := k.strand i
  if s.isServer c || t.priv == .machine then .performed
  else if isEvsel a then
    match value with
    | some v => if !k.eventAllowed (field v 0 8) && k.evmode.getLsbD 0 then .exits 2 v else .performed
    | none => .performed
  else if isEvcnt a then
    if k.eventAllowed (k.selected (counterIndex a)) || isFabricEvent (k.selected (counterIndex a)) && value.isNone then
      .performed
    else if k.evmode.getLsbD 0 then
      match value with
      | some v => .exits 1 v
      | none => .exits 0 0
    else if value.isSome then .ignored
    else .performed
  else .performed

/-- R359: the counter-access record of an access made at a tick. -/
def State.counterRecord (s : State) (c i : Nat) (a : BitVec 12) (op : Nat) (value tick : Word) : List Byte :=
  leBytes 2 0x0016 ++ leBytes 2 c ++ leBytes 1 i ++ leBytes 1 op ++ leBytes 2 a.toNat ++ leBytes 8 value.toNat ++
    leBytes 1 (s.core c).vfNow.toNat ++ leBytes 7 0 ++ leBytes 8 tick.toNat

/-! ## The CSR instructions (R46) -/

/-- R46: what a CSR instruction makes of the old value. -/
inductive CsrOp where
  | write
  | set
  | clear
  deriving DecidableEq, Repr

/-- The value that a CSR instruction writes. -/
def CsrOp.apply (op : CsrOp) (old src : Word) : Word :=
  match op with
  | .write => src
  | .set => old ||| src
  | .clear => old &&& ~~~src

/-- R46: the access is made: rd takes the old value, and the register the new one. -/
def State.csrPerform (s : State) (rd : BitVec 5) (a : BitVec 12) (op : CsrOp) (src : Word) (writes : Bool) (old : Word) :
    State :=
  let s1 := if writes then s.writeCsr s.here s.cur a (op.apply old src) else s
  s1.writeX rd old

/-- R46, R358: a CSR instruction of the issuing strand. -/
def State.csrAccess (s : State) (rd : BitVec 5) (a : BitVec 12) (op : CsrOp) (src : Word) (writes : Bool) :
    Except Stop State :=
  s.require (s.csrAllowed s.here s.cur a writes) (fun s =>
    let old := s.readCsr s.here s.cur a
    match s.counterFate s.here s.cur a (if writes then some (op.apply old src) else none) with
    | .performed => .ok (s.csrPerform rd a op src writes old)
    | .ignored => .ok (s.writeX rd old)
    | .exits n v =>
      let r := s.postFault (s.core s.here).ld.toNat (s.counterRecord s.here s.cur a n v s.tick)
      .error (.wait (.counterReply a n v s.tick (if r.2 then none else some s.tick)) r.1))

/-- R357, R359: what a counter access reads as though its event were allowed. -/
def State.readAllowed (s : State) (c i : Nat) (a : BitVec 12) : Word :=
  if isEvcnt a && !isFabricEvent ((s.core c).selected (counterIndex a)) then
    ((s.core c).evcnt[counterIndex a]?.getD 0).setWidth 64
  else s.readCsr c i a

/-- R359: a parked counter access is settled by the executive's reply; `none` if the outcome is not one of R359. -/
def State.settleCounter (s : State) (c i : Nat) (outcome : Nat) (value : Word) : Option State :=
  let s0 := { s with here := c, cur := i }
  let w := s0.currentWord
  let rd : BitVec 5 := w.extractLsb' 7 5
  let a : BitVec 12 := w.extractLsb' 20 12
  let op : CsrOp := match field w 12 2 with
    | 1 => .write
    | 2 => .set
    | _ => .clear
  let writes := op == .write || field w 15 5 != 0
  let s1 := s0.countEventBut (if outcome = 1 && writes && isEvcnt a then some (counterIndex a) else none) c evRetired 1
  let done := fun (t : State) => some { (t.retire 4) with here := s.here, cur := s.cur }
  match outcome with
  | 0 => done (s1.writeX rd value)
  | 1 =>
    let src := if w.getLsbD 14 then (w.extractLsb' 15 5).setWidth 64 else s1.x (w.extractLsb' 15 5)
    done (s1.csrPerform rd a op src writes (s1.readAllowed c i a))
  | 2 => some { (s0.takeTrap c i causeIllegal w) with here := s.here, cur := s.cur }
  | _ => none

/-- R46: csrrw. -/
def execCsrrw (rd rs1 : BitVec 5) (csr : BitVec 12) (s : State) : Host.Outcome State Fault Refusal :=
  s.checked 4 (fun s => s.csrAccess rd csr .write (s.x rs1) true)

/-- R46: csrrs. -/
def execCsrrs (rd rs1 : BitVec 5) (csr : BitVec 12) (s : State) : Host.Outcome State Fault Refusal :=
  s.checked 4 (fun s => s.csrAccess rd csr .set (s.x rs1) (rs1 != 0))

/-- R46: csrrc. -/
def execCsrrc (rd rs1 : BitVec 5) (csr : BitVec 12) (s : State) : Host.Outcome State Fault Refusal :=
  s.checked 4 (fun s => s.csrAccess rd csr .clear (s.x rs1) (rs1 != 0))

/-- R46: csrrwi. -/
def execCsrrwi (rd : BitVec 5) (csr : BitVec 12) (uimm : BitVec 5) (s : State) : Host.Outcome State Fault Refusal :=
  s.checked 4 (fun s => s.csrAccess rd csr .write (uimm.setWidth 64) true)

/-- R46: csrrsi. -/
def execCsrrsi (rd : BitVec 5) (csr : BitVec 12) (uimm : BitVec 5) (s : State) : Host.Outcome State Fault Refusal :=
  s.checked 4 (fun s => s.csrAccess rd csr .set (uimm.setWidth 64) (uimm != 0))

/-- R46: csrrci. -/
def execCsrrci (rd : BitVec 5) (csr : BitVec 12) (uimm : BitVec 5) (s : State) : Host.Outcome State Fault Refusal :=
  s.checked 4 (fun s => s.csrAccess rd csr .clear (uimm.setWidth 64) (uimm != 0))

/-- R44: a register with no behaviour of its own is written. -/
def execRegisterWrite (core strand : Nat) (csr : BitVec 12) (value : BitVec 64) (s : State) :
    Host.Outcome State Fault Refusal :=
  .next (if s.csrExists core csr && !csrReadOnly csr then s.writeCsr core strand csr value else s)

/-! ## The privileged instructions (R33, R329) -/

/-- R329: sret. -/
def execSret (s : State) : Host.Outcome State Fault Refusal :=
  s.plain (fun s => s.require
    (s.me.priv != .user && !(s.me.priv == .supervisor && s.me.mstatus.getLsbD bitTSR)) (fun s => s.returnTrap false))

/-- R329: mret. -/
def execMret (s : State) : Host.Outcome State Fault Refusal :=
  s.plain (fun s => s.require (s.me.priv == .machine) (fun s => s.returnTrap true))

/-- R33, R336: wfi waits for an interrupt; in user mode, or where TW forbids it, one that would wait is illegal. -/
def execWfi (s : State) : Host.Outcome State Fault Refusal :=
  s.checked 4 (fun s =>
    if s.wfiWakes s.here s.cur then .ok s
    else s.require (s.me.priv != .user && !(s.me.priv == .supervisor && s.me.mstatus.getLsbD bitTW))
      (fun s => .error (.wait .wfi s)))

/-- R33: does sfence.vma drop a TLB entry? -/
def TlbEntry.fenced (e : TlbEntry) (vf : BitVec 6) (va : Option Word) (asid : Option (BitVec 16)) : Bool :=
  e.vf == vf &&
    (match va with
    | some a => e.vpn == field a 0 48 / 2 ^ e.sizeBits
    | none => true) &&
    (match asid with
    | some n => !e.global && e.asid == n
    | none => true)

/-- R33: sfence.vma. -/
def execSfenceVma (rs1 rs2 : BitVec 5) (s : State) : Host.Outcome State Fault Refusal :=
  s.checked 4 (fun s => s.require
    (s.me.priv != .user && !(s.me.priv == .supervisor && s.me.mstatus.getLsbD bitTVM)) (fun s =>
      let vf := s.myCore.vfNow
      let va := if rs1 = 0 then none else some (s.x rs1)
      let asid := if rs2 = 0 then none else some ((s.x rs2).extractLsb' 0 16)
      let keep := fun (e : TlbEntry) => !e.fenced vf va asid
      .ok ((s.modMyCore (fun k => { k with tlb := k.tlb.filter keep })).modBench (benchOf s.here)
        (fun b => { b with tlb := b.tlb.filter keep, pipeTlb := b.pipeTlb.filter keep }))))

end Sys2Proof.Machine
end

