-- ==== Sys2Proof/Machine/Queues.lean ====
section
/-! DEFINITION. Queue registers and their sinks: core FIFOs, receive queues, engine completions (R252-R254). -/

namespace Sys2Proof.Machine

/-- R252: what a queue register is bound to. -/
inductive Sink where
  | unbound
  | fifo (i : Nat)
  | receive (q : Nat)
  | engine
  deriving DecidableEq, Repr

/-- R252: the sink of a binding word; `none` breaks the map. -/
def sinkOf (w : Word) : Option Sink :=
  let index := field w 8 8
  if field w 16 48 ≠ 0 ∨ field w 4 4 ≠ 0 then none
  else
    match field w 0 4 with
    | 0 => if index = 0 then some .unbound else none
    | 1 => if index < 8 then some (.fifo index) else none
    | 2 => if index < 16 then some (.receive index) else none
    | 3 => if index = 0 then some .engine else none
    | _ => none

/-- R252: a word that breaks the map acts as unbound. -/
def Strand.sink (t : Strand) (q : BitVec 3) : Sink := (sinkOf t.q[q.toNat]).getD .unbound

/-- R252, R254: the queue fault of a queue register. -/
def queueFault (q : BitVec 3) (s : State) : Stop := .trap causeQueue (q.setWidth 64) s

/-- FIFO `i` of a core. -/
def Core.fifo (k : Core) (i : Nat) : List QEntry := k.fifos[i]?.getD []

/-- Receive queue `q` of a core. -/
def Core.receive (k : Core) (q : Nat) : RxQueue := k.rx[q]?.getD { entries := [], reserved := [] }

/-- R253: entries of a FIFO or receive queue. -/
def sinkSize : Nat := 8

/-- R254: a push: the entry joins the FIFO, or the strand waits for room. The strand's stores drain first, so that the strand
that pops the entry sees them. -/
def State.push (s : State) (q : BitVec 3) (e : QEntry) : Except Stop State :=
  match s.me.sink q with
  | .fifo i =>
    if sinkSize ≤ (s.myCore.fifo i).length then .error (.wait (.fifoFull i) s)
    else s.drainMine.map (fun s =>
      s.modMyCore (fun k => { k with fifos := k.fifos.setIfInBounds i (k.fifo i ++ [e]) }))
  | _ => .error (queueFault q s)

/-- R254: the oldest entry of a sink is removed; `none` when it is empty. -/
def State.takeEntry (s : State) (c : Nat) : Sink → Option (State × QEntry)
  | .unbound => none
  | .fifo i =>
    match (s.core c).fifo i with
    | [] => none
    | e :: es => some (s.modCore c (fun k => { k with fifos := k.fifos.setIfInBounds i es }), e)
  | .receive q =>
    match ((s.core c).receive q).entries with
    | [] => none
    | e :: es =>
      some (s.modCore c (fun k => { k with rx := k.rx.setIfInBounds q { k.receive q with entries := es } }), .vector e)
  | .engine =>
    match (s.core c).engineStream with
    | [] => none
    | e :: es => some (s.modCore c (fun k => { k with engineStream := es }), .scalar e)

/-- The wait for an entry of a sink. -/
def Sink.emptyPark : Sink → Park
  | .fifo i => .fifoEmpty i
  | .receive q => .rxEmpty q
  | _ => .engineEmpty

/-- R254: a pop of the issuing strand. -/
def State.pop (s : State) (q : BitVec 3) (f : State → QEntry → State) : Except Stop State :=
  let k := s.me.sink q
  if k = .unbound then .error (queueFault q s)
  else
    match s.takeEntry s.here k with
    | none => .error (.wait k.emptyPark s)
    | some (s1, e) => .ok (f s1 e)

/-- R254: an entry as a scalar: a vector gives its bytes 0–7. -/
def QEntry.asScalar : QEntry → Word
  | .scalar w => w
  | .vector l => l.extractLsb' 0 64

/-- R254: an entry as a vector: a scalar stands in its low doubleword. -/
def QEntry.asVector : QEntry → Line
  | .scalar w => w.setWidth 2048
  | .vector l => l

/-- R254: qpush. -/
def execQpush (qd : BitVec 3) (rs1 : BitVec 5) (s : State) : Host.Outcome State Fault Refusal :=
  s.checked 4 (fun s => s.push qd (.scalar (s.x rs1)))

/-- R254: qpushv. -/
def execQpushv (qd : BitVec 3) (rs1 : BitVec 5) (s : State) : Host.Outcome State Fault Refusal :=
  s.checked 4 (fun s => s.useV [rs1] |>.bind (fun s => s.push qd (.vector (s.v rs1))))

/-- R254: qpop. -/
def execQpop (rd : BitVec 5) (qs1 : BitVec 3) (s : State) : Host.Outcome State Fault Refusal :=
  s.checked 4 (fun s => s.pop qs1 (fun s e => s.deliverX rd e.asScalar 0))

/-- R254: qpopv. -/
def execQpopv (rd : BitVec 5) (qs1 : BitVec 3) (s : State) : Host.Outcome State Fault Refusal :=
  s.checked 4 (fun s => s.useV [rd] |>.bind (fun s => s.pop qs1 (fun s e => s.deliverV rd e.asVector 0)))

/-- R254: the word that qstat reads. -/
def Core.sinkStatus (k : Core) : Sink → Word
  | .unbound => 0
  | .fifo i => BitVec.ofNat 64 ((k.fifo i).length + 2 ^ 16 * (sinkSize - (k.fifo i).length) + 2 ^ 32)
  | .receive q => BitVec.ofNat 64 ((k.receive q).entries.length + 2 ^ 33)
  | .engine => BitVec.ofNat 64 (k.engineStream.length + 3 * 2 ^ 32 + 2 ^ 36 * k.engineOvf.toNat)

/-- R254: qstat; the read clears OVF. -/
def execQstat (rd : BitVec 5) (qs1 : BitVec 3) (s : State) : Host.Outcome State Fault Refusal :=
  s.straight 4 (fun s =>
    let k := s.me.sink qs1
    let w := s.myCore.sinkStatus k
    let s1 := if k = .engine then s.modMyCore (fun k => { k with engineOvf := false }) else s
    s1.writeX rd w)

/-- R252: qbind. -/
def execQbind (qd : BitVec 3) (rs1 : BitVec 5) (s : State) : Host.Outcome State Fault Refusal :=
  s.checked 4 (fun s =>
    if (sinkOf (s.x rs1)).isSome then .ok (s.modMe (fun t => { t with q := t.q.set qd.toNat (s.x rs1) }))
    else .error (queueFault qd s))

end Sys2Proof.Machine
end

