-- ==== Sys2Proof/Machine/Engine.lean ====
section
/-! DEFINITION. The copy engine: chains, their form check, and the steps of their entries (R223, R245-R251, R269). -/

namespace Sys2Proof.Machine

/-! ## Chain entries (R245, R246) -/

def opNop : Nat := 0
def opCopy : Nat := 1
def opFill : Nat := 2
def opCopy2d : Nat := 3
def opMatrix : Nat := 4

/-- R251: the codes of a status word. -/
def eRunning : Nat := 0x0001
def eForm : Nat := 0x0100
def eAlign : Nat := 0x0101
def eLayout : Nat := 0x0102
def eAccess : Nat := 0x0103
def ePage : Nat := 0x0104
def eMatrix : Nat := 0x0105
def eMemory : Nat := 0x0106

/-- R245: the entry in 64 bytes. -/
def ChainEntry.ofBytes (b : List Byte) : ChainEntry where
  op := recNat b 0 1
  flags := BitVec.ofNat 8 (recNat b 1 1)
  smode := BitVec.ofNat 8 (recNat b 2 1)
  dmode := BitVec.ofNat 8 (recNat b 3 1)
  seq := BitVec.ofNat 16 (recNat b 4 2)
  pad := BitVec.ofNat 16 (recNat b 6 2)
  src := recWord b 8
  dst := recWord b 0x10
  len := BitVec.ofNat 32 (recNat b 0x18 4)
  rows := BitVec.ofNat 32 (recNat b 0x1C 4)
  sstride := recWord b 0x20
  dstride := recWord b 0x28
  value := recWord b 0x30
  count := recWord b 0x38

/-- R245: FLAGS. -/
def ChainEntry.last (e : ChainEntry) : Bool := e.flags.getLsbD 0
def ChainEntry.check (e : ChainEntry) : Bool := e.flags.getLsbD 1

/-- Does the entry read a source? -/
def ChainEntry.copies (e : ChainEntry) : Bool := e.op == opCopy || e.op == opCopy2d

/-- Does the entry move bytes? -/
def ChainEntry.moves (e : ChainEntry) : Bool := e.copies || e.op == opFill

/-- R249: the command of a MATRIX entry: an mld or an mma whose rs1, rs2 and la are 0. -/
def matrixCommand (w : BitVec 32) : Option Instr :=
  if w.extractLsb' 0 7 ≠ 0x5B ∨ w.extractLsb' 12 3 ≠ 1 ∨ w.extractLsb' 15 10 ≠ 0 ∨ w.extractLsb' 28 4 ≠ 0 then none
  else
    match decodeCustom21 w with
    | .ok (.mld kd rs1 rs2 la) => some (.mld kd rs1 rs2 la)
    | .ok (.mma kd rs1 rs2 la) => some (.mma kd rs1 rs2 la)
    | _ => none

/-- R245, R246: a length in bytes that a row may have. -/
def lenOk (n : Nat) : Bool := n % 32 == 0 && 32 ≤ n && n ≤ 2 ^ 24

/-- R245, R246, R249: does the entry keep its form? -/
def ChainEntry.formOk (e : ChainEntry) : Bool :=
  let used := fun (b : Bool) (z : Bool) => b || z
  e.op ≤ 4 && e.flags.toNat < 8 && e.smode.toNat < 8 && e.dmode.toNat < 8 && e.pad == 0 &&
    used e.copies (e.smode == 0) && used e.moves (e.dmode == 0 && e.seq == 0) &&
    used (e.copies || e.op == opMatrix) (e.src == 0) && used (e.op != opNop) (e.dst == 0 && e.len == 0 && e.rows == 0) &&
    used (e.op == opCopy2d || e.op == opMatrix) (e.sstride == 0 && e.dstride == 0) &&
    used (e.op == opFill || e.op == opMatrix) (e.value == 0) &&
    used (!e.moves) (lenOk e.len.toNat) && used (e.op != opCopy && e.op != opFill) (e.rows == 1) &&
    used (e.op != opCopy2d) (1 ≤ e.rows.toNat && e.rows.toNat ≤ 65536 && e.sstride.toNat % 32 == 0 &&
      e.dstride.toNat % 32 == 0) &&
    used (e.op != opMatrix) (matrixCommand (e.value.extractLsb' 0 32)).isSome

/-- R246: are the entry's addresses aligned? -/
def ChainEntry.alignOk (e : ChainEntry) : Bool :=
  (!e.copies || e.src.toNat % 32 == 0) && (!e.moves || e.dst.toNat % 32 == 0) && e.count.toNat % 64 == 0

/-- R247: where the form check of a chain ends it, with the code. -/
def formCheck : List ChainEntry → Nat → Option (Nat × Nat)
  | [], _ => none
  | e :: es, i => if !e.formOk then some (i, eForm) else if !e.alignOk then some (i, eAlign) else formCheck es (i + 1)

/-! ## Ranges and layouts (R223, R246) -/

/-- R223: the physical byte of a logical offset of a tile. -/
def layout (mode o : Nat) : Nat :=
  match mode with
  | 0 => o
  | 5 => 128 * (o / 4 % 32) + 4 * (o / 128) + o % 4
  | 6 => 256 * (o / 16 % 16) + 16 * (o / 256) + o % 16
  | 7 => 64 * (o % 64) + o / 64
  | m => 256 * (o / 256) + 16 * ((o / 16 % 16) ^^^ (o / 256 % 2 ^ m)) + o % 16

/-- R246: the location that a mode gives a byte of a tile. -/
def layoutLoc (mode loc : Nat) : Nat := loc / 4096 * 4096 + layout mode (loc % 4096)

/-- The rows of an entry. -/
def ChainEntry.rowCount (e : ChainEntry) : Nat := if e.op = opCopy2d then e.rows.toNat else 1

/-- The locations of the rows of a range, every one translated. -/
def State.rowLocs (x : XCtx) (a : Access) (base stride : Word) (len : Nat) : Nat → State → Except XFault (State × List Nat)
  | 0, s => .ok (s, [])
  | n + 1, s =>
    match s.translate x a base len with
    | .error f => .error f
    | .ok (s1, ls) => (State.rowLocs x a (base + stride) stride len n s1).map (fun r => (r.1, ls ++ r.2))

/-- The tiles that hold these locations. -/
def tilesOf (locs : List Nat) : List Nat :=
  locs.foldl (fun ts l => if !isScratch l || ts.contains (tileNo l) then ts else tileNo l :: ts) []

/-! ## erun (R247) -/

/-- R247: the entries of a chain at an address, up to the first LAST. -/
def loadChain : Nat → State → Word → Except Stop (State × List ChainEntry)
  | 0, s, _ => .ok (s, [])
  | n + 1, s, va =>
    match s.loadNow va 64 with
    | .error e => .error e
    | .ok (s1, b) =>
      let e := ChainEntry.ofBytes b
      if e.last then .ok (s1, [e]) else (loadChain n s1 (va + 64)).map (fun r => (r.1, e :: r.2))

/-- The pages of the rows of a range. -/
def rowChunks (base stride : Word) (len rows : Nat) : List (Word × Nat) :=
  (List.range rows).flatMap (fun r => pageChunks (len / 4096 + 2) (base + BitVec.ofNat 64 r * stride) len)

/-- R247: the tiles that the destination of an entry reaches through the local window. -/
def State.windowTiles (s : State) (c : Nat) (e : ChainEntry) : List Nat :=
  if e.moves then
    ((rowChunks e.dst e.dstride e.len.toNat e.rowCount).filterMap (fun p =>
      if inWindow p.1 then (s.windowLoc c (p.1.toNat - windowBase)).map tileNo else none)).eraseDups
  else []

/-- R248: the source ranges of an entry of a chain. -/
def sourceRanges (i : Nat) (e : ChainEntry) : List (Nat × Word × Nat) :=
  if e.copies then (rowChunks e.src e.sstride e.len.toNat e.rowCount).map (fun p => (i, p.1, p.2)) else []

/-- R284: the generation of an entry's count object now, when its address translates. -/
def State.countGen (s : State) (x : XCtx) (e : ChainEntry) : Option (BitVec 32) :=
  if e.count = 0 then none
  else
    match s.translate x .store e.count 32 with
    | .ok (_, l :: _) => some (s.coGen l)
    | _ => none

/-- R247: the chain that erun appends. -/
def State.chainOf (s : State) (entries : List ChainEntry) : Chain :=
  let x := s.xctx s.here s.cur
  let bad := formCheck entries 0
  let good := match bad with
    | some b => entries.take b.1
    | none => entries
  s.refreshChain
    { entries := entries, ticket := (s.bench (benchOf s.here)).chainTicket, core := s.here, strand := s.cur, bad := bad
      unread := [], unmapped := ((List.range good.length).zip good).flatMap (fun p => sourceRanges p.1 p.2)
      gens := entries.map (s.countGen x), next := 0, phase := .waiting, moving := []
      marked := good.flatMap (s.windowTiles s.here)
      priv := x.priv, sum := x.sum, mxr := x.mxr, satp := x.satp, vf := x.vf }

/-- R247: the chains that an engine queue holds. -/
def chainQueueSize : Nat := 16

/-- R247: erun. -/
def execErun (rd rs1 rs2 : BitVec 5) (s : State) : Host.Outcome State Fault Refusal :=
  s.checked 4 (fun s => s.aligned .load (s.x rs1) 64 (fun s =>
    let b := benchOf s.here
    if s.x rs2 = 0 then .ok (s.writeX rd 0)
    else if chainQueueSize ≤ (s.bench b).chains.length then .error (.wait .engineQueue s)
    else
      match loadChain (min (s.x rs2).toNat 256) s (s.x rs1) with
      | .error e => .error e
      | .ok (s1, entries) =>
        match s1.drainMine with
        | .error e => .error e
        | .ok s2 =>
          let k := s2.chainOf entries
          let s3 := s2.modBench b (fun h => { h with chains := h.chains ++ [k], chainTicket := nextTicket h.chainTicket })
          .ok (({ s3 with tilesInFlight := k.marked ++ s3.tilesInFlight } : State).writeX rd (k.ticket.setWidth 64))))

/-! ## The end of a chain (R250, R251) -/

/-- R251: a status word. -/
def chainStatus (code entry reason aux : Nat) : Word :=
  BitVec.ofNat 64 (aux % 2 ^ 16 * 2 ^ 32 + entry % 256 * 2 ^ 24 + reason % 256 * 2 ^ 16 + code)

/-- R253: a completion joins the core's engine stream; a full one loses its oldest entry. -/
def Core.completion (k : Core) (w : Word) : Core :=
  if k.engineStream.length < 16 then { k with engineStream := k.engineStream ++ [w] }
  else { k with engineStream := k.engineStream.drop 1 ++ [w], engineOvf := true }

/-- The chain of a bench with a ticket. -/
def Bench.chain (h : Bench) (t : BitVec 32) : Option Chain := h.chains.find? (·.ticket == t)

/-- The state with a chain of a bench replaced. -/
def State.setChain (s : State) (b : Nat) (k : Chain) : State :=
  s.modBench b (fun h => { h with chains := h.chains.map (fun c => if c.ticket = k.ticket then k else c) })

/-- R250, R251, R253: a chain ends with a status: its tiles leave the in-flight state, and its core is told. -/
def State.endChain (s : State) (b : Nat) (k : Chain) (status : Word) : State :=
  let s1 := s.modBench b (fun h =>
    { h with
      chains := h.chains.filter (fun c => c.ticket ≠ k.ticket)
      chainsEnded := ((k.ticket, status) :: h.chainsEnded.filter (fun e => e.1 ≠ k.ticket)).take 64 })
  ({ s1 with tilesInFlight := k.marked.foldl (fun ts t => ts.erase t) s1.tilesInFlight } : State).modCore k.core
    (fun c => c.completion ((k.ticket ++ status.extractLsb' 0 32 : BitVec 64)))

/-- The entry that a chain stands at. -/
def Chain.entry (k : Chain) : Option ChainEntry := k.entries[k.next]?

/-- R248: an entry has completed, and `k` is what is left of its chain: it goes on, or has ended as DONE. -/
def State.entryDone (s : State) (b : Nat) (k : Chain) (index : Nat) : State :=
  if k.next < k.entries.length || !k.moving.isEmpty then s.setChain b k else s.endChain b k (chainStatus 0 index 0 0)

/-- R248, R284: the COUNT of a completed entry is decremented. -/
def State.countEntry (s : State) (k : Chain) (index : Nat) (count : Option (Nat × BitVec 32)) : State :=
  match count, k.entries[index]? with
  | some (loc, gen), some e =>
    s.arrive { source := 2, core := k.core, strand := k.strand, addr := e.count, ld := (s.core k.core).ld.toNat } loc gen none
  | _, _ => s

/-! ## The start of an entry (R246, R248, R249, R269) -/

/-- R250: how the start of an entry fails: the chain ends with a code, or waits for the executive. -/
inductive EntryFail where
  | ends (code : Nat)
  | faults (va : Word) (write : Bool)
  deriving DecidableEq, Repr

/-- The failure of a translation. -/
def EntryFail.of (f : XFault) (write : Bool) : EntryFail :=
  match f with
  | .access _ => .ends eAccess
  | .page va => .faults va write

/-- R248: the strand's core shares the lines that an engine of its die reads. -/
def State.shareDie (s : State) (c : Nat) (locs : List Nat) : State :=
  { s with drained := s.drained.map (fun (d : Drained) =>
      if d.reach == Reach.c && d.core == c && d.cells.any (fun x => locs.contains x.1) then { d with reach := Reach.d } else d) }

/-- R246: the location and generation of an entry's count object. -/
def State.entryCount (s : State) (k : Chain) (e : ChainEntry) :
    Except EntryFail (State × Option (Nat × BitVec 32)) :=
  if e.count = 0 then .ok (s, none)
  else
    match s.translate k.ctx .store e.count 32 with
    | .error f => .error (.of f true)
    | .ok (s1, locs) =>
      if locs.all isDevice then
        let loc := locs.headD 0
        .ok (s1, some (loc, (k.gens.getD k.next none).getD (s1.coGen loc)))
      else .error (.ends eAccess)

/-- R246, R248: the physical source and destination of an entry that moves bytes, every byte translated and the layouts
checked. -/
def State.entryRanges (s : State) (k : Chain) (e : ChainEntry) : Except EntryFail (State × List Nat × List Nat) :=
  let n := e.len.toNat
  let src := if e.copies then State.rowLocs k.ctx .load e.src e.sstride n e.rowCount s else .ok (s, [])
  match src with
  | .error f => .error (.of f false)
  | .ok (s1, sl) =>
    match State.rowLocs k.ctx .store e.dst e.dstride n e.rowCount s1 with
    | .error f => .error (.of f true)
    | .ok (s2, dl) =>
      let sm := e.smode.toNat
      let dm := e.dmode.toNat
      let off := (sm != 0 && !sl.all isScratch) || (dm != 0 && !dl.all isScratch)
      let stale := e.check &&
        ((tilesOf sl).any (fun t => (s2.tile t).mode.toNat != sm) ||
          (tilesOf dl).any (fun t => (s2.tile t).mode.toNat != dm &&
            (List.range 4096).any (fun o => !dl.contains (4096 * t + o))))
      if off || stale then .error (.ends eLayout)
      else .ok (s2, sl.map (fun l => if isScratch l then layoutLoc sm l else l),
        dl.map (fun l => if isScratch l then layoutLoc dm l else l))

/-- R246: the bytes that an entry writes, in order: its source, or the pattern. -/
def State.entryBytes (s : State) (k : Chain) (e : ChainEntry) (sl : List Nat) : List Byte :=
  if e.copies then sl.map (s.byteFor (.die (dieOf k.core)))
  else (List.replicate (e.len.toNat / 8) (leBytes 8 e.value.toNat)).flatten

/-- R247, R269: the next entry of a chain has started. -/
def Chain.started (k : Chain) (m : Moving) (marks : List Nat) : Chain :=
  { k with
    next := k.next + 1
    moving := k.moving ++ [m]
    unread := k.unread.filter (fun u => u.1 ≠ m.index)
    unmapped := k.unmapped.filter (fun u => u.1 ≠ m.index)
    marked := marks ++ k.marked }

/-- R248-R250, R269, R335: an entry that moves bytes starts: its source is read up to the first sector that is poisoned or
that fails its check, its destination lines are owned, so that they leave every L1, and the tiles that it reaches by
translated addresses are marked. It waits while another unit owns one of the lines. -/
def State.startMove (s : State) (b : Nat) (k : Chain) (e : ChainEntry) : Except EntryFail State :=
  match s.entryRanges k e with
  | .error f => .error f
  | .ok (s1, sl, dl) =>
    match s1.entryCount k e, s1.ownedLine ((sl ++ dl).filter (fun l => !isScratch l)) with
    | .error f, _ => .error f
    | .ok _, some _ => .ok s
    | .ok (s2, count), none =>
      let bad := s2.failingLines sl
      let clean := sl.takeWhile (fun l => !s2.poisoned.contains (sectorNo l) && !bad.contains (lineNo l))
      let failing := clean.length < sl.length || !(s2.failingLines dl).isEmpty
      let moved := if !(s2.failingLines dl).isEmpty then 0 else if failing then clean.length / 32 * 32 else dl.length
      let s3 := match s2.onDie (clean ++ dl.take moved) with
        | .ok s3 => s3.shareDie k.core sl
        | .error _ => s2.shareDie k.core sl
      let todo := (dl.zip (s3.entryBytes k e sl)).take moved
      let late := (tilesOf dl).filter (fun t => !(s.windowTiles k.core e).contains t)
      let lines := (todo.map (·.1)).filter (fun l => !isScratch l) |>.map lineNo
      let s4 := s3.setChain b
        (k.started { index := k.next, todo := todo, plan := dl, fails := failing, count := count } late)
      let s5 := s4.modBench b (fun h => { h with owned := lines.foldl (fun o l => if o.contains l then o else l :: o) h.owned })
      .ok (({ s5 with tilesInFlight := late ++ s5.tilesInFlight } : State).recallLines lines)

/-- R189: the entries of a core's matrix queue. -/
def matrixQueueSize : Nat := 8

/-- R249: a MATRIX entry places its command in the core's matrix queue, when there is room. -/
def State.startMatrix (s : State) (b : Nat) (k : Chain) (e : ChainEntry) : Except EntryFail State :=
  match matrixCommand (e.value.extractLsb' 0 32) with
  | none => .error (.ends eForm)
  | some i =>
    match s.entryCount k e with
    | .error f => .error f
    | .ok (s1, count) =>
      if matrixQueueSize ≤ (s1.core k.core).mqueue.length then .ok s
      else
        let m : MEntry :=
          { strand := k.strand, instr := i, xa := e.src, xb := e.dst, mcfgw := e.rows ++ e.len, mstra := e.sstride,
            mstrb := e.dstride, mkLen := (e.value.extractLsb' 32 32).setWidth 64, mrp := 0, prefixWord := none,
            sregVal := 0, chain := some k.ticket, retired := false, rowsA := [], rowsB := [], scales := [], locs := []
            stamp := s1.fresh }
        let s2 := s1.modCore k.core (fun c => { c with mqueue := c.mqueue ++ [m] })
        .ok (({ s2 with fresh := s1.fresh + 1 } : State).setChain b { k with phase := .matrix count })

/-- R339: the engine-fault record. -/
def engineFault (b : Nat) (k : Chain) (va : Word) (write : Bool) (tick : Word) : List Byte :=
  leBytes 2 0x0012 ++ leBytes 2 b ++ leBytes 1 k.next ++ leBytes 1 write.toNat ++ leBytes 2 0 ++
    leBytes 4 k.ticket.toNat ++ leBytes 4 0 ++ leBytes 8 va.toNat ++ leBytes 8 tick.toNat

/-- R70, R250: an entry that cannot start. The executive maps the pages of a stack within its limit before it replies. -/
def State.failEntry (s : State) (b : Nat) (k : Chain) : EntryFail → State
  | .ends code => s.endChain b k (chainStatus code k.next 0 0)
  | .faults va write =>
    let s1 := (s.postFault (s.core k.core).ld.toNat (engineFault b k va write s.tick)).1
    match s1.stackBelow k.core va with
    | none => s1.setChain b { k with phase := .faulted none }
    | some r =>
      if r.passed va then s1.setChain b { k with phase := .faulted (some r.vpeid) }
      else (s1.growStack r va).setChain b { k with phase := .faulted none }

/-- R245: must the entry wait for the one before it? -/
def ChainEntry.serial (e : ChainEntry) : Bool := e.flags.getLsbD 2

/-- R247, R249, R250: may the next entry of a chain start: no other entry of it is under way, or those that are let it, and
none of them ends the chain? -/
def Chain.mayStart (k : Chain) : Bool :=
  k.phase == .waiting &&
    (k.moving.isEmpty ||
      (match k.entry with
      | some e =>
        !e.serial && e.op != opMatrix && !k.moving.any (·.fails) && (k.bad.map (·.1)) != some k.next
      | none => false))

/-- R247: the chain whose entry the engine takes next: the cores in turn. -/
def Bench.pick (h : Bench) (b : Nat) : Option (Nat × Chain) :=
  [1, 2, 3, 4].findSome? (fun j =>
    let i := (h.turn + j) % 4
    (h.chains.find? (fun k => k.core == 4 * b + i && k.mayStart)).map (fun k => (i, k)))

/-- R250: the start of an entry fails; its chain ends, or waits, once the entries before it have completed. -/
def State.failStart (s : State) (b : Nat) (k : Chain) (f : EntryFail) : State :=
  if k.moving.isEmpty then s.failEntry b k f else s

/-- R269: the engine takes an entry: its form check, its start. -/
def execTakeOwnership (bench : Nat) (s : State) : Host.Outcome State Fault Refusal :=
  .next (
    match (s.bench bench).pick bench with
    | none => s
    | some (i, k) =>
      let s1 := s.modBench bench (fun h => { h with turn := i })
      match k.bad.filter (fun b => b.1 == k.next), k.entry with
      | some (_, code), _ => s1.endChain bench k (chainStatus code k.next 0 0)
      | none, none => s1.endChain bench k (chainStatus 0 0 0 0)
      | none, some e =>
        let r := if e.moves then s1.startMove bench k e
          else if e.op = opMatrix then s1.startMatrix bench k e
          else (s1.entryCount k e).map (fun r =>
            r.1.setChain bench (k.started { index := k.next, todo := [], plan := [], fails := false, count := r.2 } []))
        match r with
        | .ok s2 => s2
        | .error f => s1.failStart bench k f)

/-! ## Writing (R269) -/

/-- The entries of a bench that have started, with their chains. -/
def Bench.movers (h : Bench) : List (Chain × Moving) := h.chains.flatMap (fun k => k.moving.map (fun m => (k, m)))

/-- The cells of a list, each location with its last byte. -/
def lastCells : List (Nat × Byte) → List (Nat × Byte)
  | [] => []
  | c :: cs => if cs.any (·.1 == c.1) then lastCells cs else c :: lastCells cs

/-- The chain with one of its entries changed. -/
def Chain.setMoving (k : Chain) (m : Moving) : Chain :=
  { k with moving := k.moving.map (fun x => if x.index = m.index then m else x) }

/-- R247: has an earlier entry of the chain still to write a sector of these cells? -/
def Chain.behind (k : Chain) (m : Moving) (cells : List (Nat × Byte)) : Bool :=
  k.moving.any (fun x => x.index < m.index &&
    x.todo.any (fun y => cells.any (fun z => sectorNo y.1 == sectorNo z.1)))

/-- R269: one step of writing of the `n`th entry under way at a bench: the cells that share a unit with the first cell of its
kind. -/
def State.writeUnit (s : State) (b n : Nat) (scratch : Bool) (unit : Nat → Nat) : State :=
  match (s.bench b).movers[n]? with
  | none => s
  | some (k, m) =>
    match m.todo.find? (fun c => isScratch c.1 == scratch) with
    | none => s
    | some c =>
      let mine := m.todo.filter (fun x => isScratch x.1 == scratch && unit x.1 == unit c.1)
      let rest := m.todo.filter (fun x => !(isScratch x.1 == scratch && unit x.1 == unit c.1))
      if k.behind m mine then s
      else
        let s1 := (s.setChain b (k.setMoving { m with todo := rest })).modBench b (fun h =>
          { h with owned := if scratch then h.owned else h.owned.filter (· ≠ lineNo c.1) })
        (s1.commitBy k.core true (some (b, k.ticket, m.index)) .d (lastCells mine)).useCache (.die (dieOf k.core)) k.vf (some 3)
          (deviceLines (mine.map (·.1)))

/-- R269: one destination line is written at reach D, and is owned no longer. -/
def execWriteLine (m : MovingEntry) (s : State) : Host.Outcome State Fault Refusal :=
  .next (s.writeUnit m.bench m.index false lineNo)

/-- R269: one scratchpad sector is written at reach S. -/
def execWriteScratchpadSector (m : MovingEntry) (s : State) : Host.Outcome State Fault Refusal :=
  .next (s.writeUnit m.bench m.index true sectorNo)

/-- R269: the writes of an entry still at reach D rise to H. -/
def State.raiseEntry (s : State) (entry : Nat × BitVec 32 × Nat) : State :=
  { s with drained := s.drained.map (fun (d : Drained) =>
      if d.entry = some entry && d.reach == Reach.d then { d with reach := Reach.h } else d) }.settle

/-- R248: the destination tiles of an entry take its SEQ and DMODE, and leave the in-flight state for it. -/
def State.tagTiles (s : State) (e : ChainEntry) (tiles : List Nat) : State :=
  let s1 := tiles.foldl (fun s t => s.setTile t { mode := e.dmode.extractLsb' 0 3, seq := e.seq }) s
  { s1 with tilesInFlight := tiles.foldl (fun ts t => ts.erase t) s1.tilesInFlight }

/-- R248, R250, R269: the entry whose writes have all been taken completes, or ends its chain. The entries of a chain complete
in order. -/
def execEntryComplete (a : MovingEntry) (s : State) : Host.Outcome State Fault Refusal :=
  .next (match (s.bench a.bench).movers[a.index]? with
    | none => s
    | some (k, m) =>
      if !m.todo.isEmpty || (k.moving.head?.map (·.index)) != some m.index then s
      else if m.fails then s.endChain a.bench k (chainStatus eMemory m.index 0 0)
      else
        match k.entries[m.index]? with
        | none => s
        | some e =>
          let tiles := tilesOf m.plan
          let k1 := { k with moving := k.moving.drop 1, marked := tiles.foldl (fun ts t => ts.erase t) k.marked }
          (((s.raiseEntry (a.bench, k.ticket, m.index)).tagTiles e tiles).countEntry k m.index m.count).entryDone a.bench k1
            m.index)

/-- R249, R251: the matrix command of a chain has ended: completed, or with a reason and the row reached. -/
def State.chainCommandDone (s : State) (c : Nat) (t : BitVec 32) (fault : Option (Nat × Nat)) : State :=
  let b := benchOf c
  match (s.bench b).chain t with
  | none => s
  | some k =>
    match k.phase, fault with
    | .matrix _, some (reason, row) => s.endChain b k (chainStatus eMatrix k.next reason row)
    | .matrix count, none =>
      (s.countEntry k k.next count).entryDone b { k with next := k.next + 1, phase := .waiting } k.next
    | _, _ => s

/-! ## ewait and estat (R251) -/

/-- R251: the first entry of a chain that has not completed. -/
def Chain.current (k : Chain) : Nat := (k.moving.head?.map (·.index)).getD k.next

/-- R251: the status of a ticket; a chain still under way is RUNNING. -/
def Bench.status (h : Bench) (t : BitVec 32) : Option Word :=
  match h.chain t with
  | some k => some (chainStatus eRunning (k.current - 1) 0 0)
  | none => (h.chainsEnded.find? (fun e => e.1 == t)).map (·.2)

/-- R251: ewait. -/
def execEwait (rd rs1 : BitVec 5) (s : State) : Host.Outcome State Fault Refusal :=
  s.checked 4 (fun s =>
    let t := (s.x rs1).extractLsb' 0 32
    let h := s.bench (benchOf s.here)
    if (h.chain t).isSome then .error (.wait (.chain t) s)
    else .ok (s.writeX rd ((h.status t).getD ones)))

/-- R251: estat. -/
def execEstat (rd rs1 : BitVec 5) (s : State) : Host.Outcome State Fault Refusal :=
  s.checked 4 (fun s =>
    .ok (s.writeX rd (((s.bench (benchOf s.here)).status ((s.x rs1).extractLsb' 0 32)).getD ones)))

end Sys2Proof.Machine
end

