-- ==== Sys2Proof/Machine/Sync.lean ====
section
/-! DEFINITION. Fences, acquires and releases, barriers and supersteps, count objects, and the tick as instructions use
them (R29, R264-R266, R276-R291). -/

namespace Sys2Proof.Machine

/-! ## Fences, acquires and releases -/

/-- R287: fence.s. -/
def execFenceS (scope : BitVec 5) (s : State) : Host.Outcome State Fault Refusal :=
  s.checked 4 (fun s => s.require (scope.toNat < 7) (fun s => s.fence scope.toNat))

/-- R29: every fence encoding is a fence at chip scope. -/
def execFence (_rd _rs1 : BitVec 5) (_fm _pred _succ : BitVec 4) (s : State) : Host.Outcome State Fault Refusal :=
  s.checked 4 (fun s => s.fence 4)

/-- R241, R287: an atomic, an acquire or a release is for the window or for device memory. -/
def syncPlace (va : Word) (locs : List Nat) : Bool := inWindow va || locs.all isDevice

/-- R287: sld.acq. -/
def execSldAcq (rd rs1 scope : BitVec 5) (s : State) : Host.Outcome State Fault Refusal :=
  s.checked 4 (fun s => s.require (scope.toNat < 7) (fun s => s.aligned .load (s.x rs1) 8 (fun s =>
    match s.access .load (s.x rs1) 8 with
    | .error e => .error e
    | .ok (_, locs) =>
      if syncPlace (s.x rs1) locs then s.loadScalar rd (s.x rs1) 8 false 0
      else .error (.trap causeLoadAccess (s.x rs1) s))))

/-- R264: the release step: the fence's effect, then the store at the level of the scope. -/
def State.release (s : State) (scope : Nat) (cells : List (Nat × Byte)) : Except Stop State :=
  match s.fence scope with
  | .error e => .error e
  | .ok s1 =>
    match s1.storeHeld s1.here s1.cur (cells.map (·.1)) with
    | some line => .error (.wait (.ownedLine line) s1)
    | none => .ok (s1.commit s1.here scope cells)

/-- R287: sst.rel. -/
def execSstRel (rs1 rs2 scope : BitVec 5) (s : State) : Host.Outcome State Fault Refusal :=
  s.checked 4 (fun s => s.require (scope.toNat < 7) (fun s => s.aligned .store (s.x rs1) 8 (fun s =>
    match s.access .store (s.x rs1) 8 with
    | .error e => .error e
    | .ok (s1, locs) =>
      if syncPlace (s.x rs1) locs then s1.release scope.toNat (locs.zip (leBytes 8 (s.x rs2).toNat))
      else .error (.trap causeStoreAccess (s.x rs1) s))))

/-! ## The tick (R288) -/

/-- R288: tickrd. -/
def execTickrd (rd : BitVec 5) (s : State) : Host.Outcome State Fault Refusal :=
  s.checked 4 (fun s => if s.loadsPerformed then .ok (s.writeX rd s.tick) else .error (.wait .results s))

/-- R288: tickw. -/
def execTickw (rd rs1 : BitVec 5) (s : State) : Host.Outcome State Fault Refusal :=
  s.checked 4 (fun s =>
    if (s.x rs1).toNat ≤ s.tick.toNat then .ok (s.writeX rd s.tick) else .error (.wait (.untilTick (s.x rs1)) s))

/-- R288: the tick has reached a tickw target. -/
def execTickwExpiry (core strand : Nat) (s : State) : Host.Outcome State Fault Refusal :=
  .next (match (s.strand core strand).park with
    | some (.untilTick t) =>
      if t.toNat ≤ s.tick.toNat then s.modStrand core strand (fun t => { t with park := none }) else s
    | _ => s)

/-! ## Barriers (R279-R281) -/

/-- R290: the control strand only, with a level code up to 4. -/
def State.barrierOp (s : State) (sel : BitVec 5) (f : State → Except Stop State) : Except Stop State :=
  s.require (s.cur == 0 && sel.toNat ≤ 4) f

/-- R279: barr on a channel. -/
def State.arriveOn (s : State) (ch : Nat) : Except Stop State :=
  let k := s.myCore
  if (k.channel ch).hasArrived k.slot then .error (.wait (.arrival ch) s)
  else (s.fence (k.channel ch).scope).map (fun s => s.slotArrives s.here s.myCore.slot ch)

/-- R279: the state of a strand that stays in its wait on a channel. -/
def State.standing (s : State) (ch : Nat) : State := s.modMe (fun t => { t with park := some (.barrier ch) })

/-- R279: the live slots other than the running one that have not arrived on a channel. -/
def Core.notArrived (k : Core) (ch : Nat) : List Nat :=
  k.liveSlots.filter (fun j => j != k.slot && !(k.channel ch).hasArrived j)

/-- R279: is a helper of the issuing core LIVE or ENDING? -/
def State.helpersAlive (s : State) : Bool := (s.myCore.strands.toList.drop 1).any (fun t => t.status != .free)

/-- R279: has the issuing strand something left to wait for on a channel: an arrival that is not released, or, once its
wait has begun, the end of its helpers? -/
def State.waitsOn (s : State) (ch : Nat) : Bool :=
  (s.myCore.channel ch).hasArrived s.myCore.slot || (s.me.park == some .helpersForBarrier && s.helpersAlive)

/-- R279: the wait of bwait for an arrival that is not released: its helpers end, then another slot runs. -/
def State.waitOn (s : State) (ch : Nat) : Except Stop State :=
  let k := s.myCore
  if s.helpersAlive then .error (.wait .helpersForBarrier s)
  else
    match k.notArrived ch with
    | j :: _ => .ok ((s.standing ch).switchSlot s.here j)
    | [] => .ok (s.standing ch)

/-- R279: barr. -/
def execBarr (sel : BitVec 5) (s : State) : Host.Outcome State Fault Refusal :=
  s.checked 4 (fun s => s.barrierOp sel (fun s => s.arriveOn (s.channelOf s.here sel.toNat)))

/-- R279: bwait. -/
def execBwait (sel : BitVec 5) (s : State) : Host.Outcome State Fault Refusal :=
  s.plain (fun s => s.barrierOp sel (fun s =>
    let ch := s.channelOf s.here sel.toNat
    if s.waitsOn ch then s.waitOn ch else .ok (s.retire 4)))

/-- The slot that the issuing core runs waits, or no longer waits, in sstep. -/
def State.setWaiting (s : State) (w : Option Nat) : State :=
  s.modMyCore (fun k => k.modSlot k.slot (fun x => { x with waiting := w }))

/-- R86: is a helper of the issuing core LIVE? -/
def State.helpersLive (s : State) : Bool := (s.myCore.strands.toList.drop 1).any (fun t => t.status == .live)

/-- R86, R281: sstep. It arrives once no helper is LIVE. -/
def execSstep (sel : BitVec 5) (s : State) : Host.Outcome State Fault Refusal :=
  s.plain (fun s => s.barrierOp sel (fun s => s.afterResults (fun s => s.afterMatrix (fun s =>
    let ch := s.channelOf s.here sel.toNat
    let k := s.myCore
    match k.slotAt k.slot with
    | none =>
      if s.helpersLive then .error (.wait .helpersForBarrier s)
      else (s.fence (k.channel ch).scope).map (fun s =>
        (s.modMe (fun t => { t with sstepcnt := t.sstepcnt + 1 })).retire 4)
    | some x =>
      if x.waiting = some ch then
        if s.waitsOn ch then s.waitOn ch else .ok ((s.setWaiting none).retire 4)
      else if (k.channel ch).hasArrived k.slot then .error (.wait (.arrival ch) s)
      else if s.helpersLive then .error (.wait .helpersForBarrier s)
      else
        match s.fence (k.channel ch).scope with
        | .error e => .error e
        | .ok s1 =>
          let j := k.slot
          let s2 := ((s1.setWaiting (some ch)).standing ch).slotArrives s1.here j ch
          if s2.myCore.slot = j ∧ (s2.myCore.channel ch).hasArrived j then s2.waitOn ch else .ok s2))))

/-! ## The release of a group (R280, R282) -/

/-- R282: does the last member of `a` come before that of `b`: by tick, then chip rank, then coreid? -/
def ArrivalRecord.before (rank : Nat → Nat) (a b : ArrivalRecord) : Bool :=
  if a.late.toNat ≠ b.late.toNat then a.late.toNat < b.late.toNat
  else if rank a.lastChip ≠ rank b.lastChip then rank a.lastChip < rank b.lastChip
  else a.lastCore < b.lastCore

/-- R282: what the lags of a record's members grow by when EARLY falls. -/
def ArrivalRecord.lagFrom (a : ArrivalRecord) (early : Word) : Word :=
  a.sumlag + BitVec.ofNat 64 a.members * (a.early - early)

/-- R282, R303: the record of the union of the members of two records. -/
def ArrivalRecord.fold (rank : Nat → Nat) (a b : ArrivalRecord) : ArrivalRecord :=
  let last := if a.before rank b then b else a
  let early := if a.early.toNat ≤ b.early.toNat then a.early else b.early
  { early := early, late := last.late, sumlag := a.lagFrom early + b.lagFrom early, lastCore := last.lastCore,
    lastChip := last.lastChip, members := a.members + b.members }

/-- The arrival record of a payload. -/
def ArrivalRecord.ofBytes (b : List Byte) : ArrivalRecord :=
  { early := recWord b 0, late := recWord b 8, sumlag := recWord b 0x10, lastCore := recNat b 0x18 2,
    lastChip := recNat b 0x1A 2, members := recNat b 0x1C 4 }

/-- The barrier routes of a core's channel. -/
def State.barRoutes (s : State) (c ch : Nat) : List Route :=
  s.routes.filter (fun r =>
    some r.launch == (s.core c).launch && r.records.any (fun x => rrOp x == 5 && rrObj x == ch))

/-- R282: the record of a group at its release: this chip's members, and for a pod group what the root's route brought. -/
def State.groupRecord (s : State) (c ch : Nat) : ArrivalRecord :=
  let own := s.localRecord c ch
  if ((s.core c).channel ch).span = 2 then
    (s.barRoutes c ch).foldl (fun a r =>
      match r.source with
      | some b => if r.isRoot then ArrivalRecord.ofBytes b else a
      | none => a) own
  else own

/-- R277: the lowest chip rank of a pod group by the words that its cores got at RUNNING: the group whose number is
floor(first / D) begins with a core c such that c·F/D is that number. -/
def rootRank (l : Launch) (ch group : Nat) : Nat :=
  let per := l.cores.length
  let f := (lpbVpes l.lpb + (per * l.chips.length - 1)) / (per * l.chips.length)
  let d := lpbDomain l.lpb ch
  if ch = 4 ∨ d = 0 then 0 else group / (f / Nat.gcd d f) * (d / Nat.gcd d f) / per

/-- R277, R282: the root of a group, when it is on this chip: the member with the lowest chip rank, and there with the lowest
coreid. The words on other chips are taken to be those of RUNNING (DESIGN CHOICE, log entry 137). -/
def State.groupRoot (s : State) (c ch : Nat) : Option Nat :=
  let h := (s.core c).channel ch
  let here := h.span != 2 ||
    (match ((s.core c).launch).bind s.launch with
    | some l => decide (l.rank ≤ rootRank l ch h.group)
    | none => true)
  if here then (s.groupMembers c ch).head? else none

/-- R282: the releases of a core's group here since RUNNING. -/
def State.groupSeq (s : State) (c ch : Nat) : BitVec 32 :=
  let h := (s.core c).channel ch
  match ((s.core c).launch).bind s.launch with
  | some l => ((l.releases.find? (fun r => r.1 == ch && r.2.1 == h.group && r.2.2.1 == h.span)).map (·.2.2.2)).getD 0
  | none => 0

/-- R282: a core's group has been released once more. -/
def State.countRelease (s : State) (c ch : Nat) : State :=
  let h := (s.core c).channel ch
  match ((s.core c).launch).bind s.launch with
  | some l =>
    let rest := l.releases.filter (fun r => !(r.1 == ch && r.2.1 == h.group && r.2.2.1 == h.span))
    s.setLaunch { l with releases := (ch, h.group, h.span, s.groupSeq c ch + 1) :: rest }
  | none => s

/-- R282: the root's log word has the record stored, under the root's context; if its translation fails, the record is
dropped and ENABLE cleared. -/
def State.writeLog (s : State) (c ch : Nat) (r : ArrivalRecord) : State :=
  let h := (s.core c).channel ch
  if h.log.getLsbD 0 then
    let seq := (s.groupSeq c ch).toNat
    let va := (h.log &&& ~~~0xFFF#64) + BitVec.ofNat 64 (32 * (seq % 2 ^ field h.log 8 4))
    match s.translate (s.deviceCtx c) .store va 32 with
    | .ok (s1, locs) => s1.commitHome (locs.zip (r.bytes seq))
    | .error _ => s.modChannel c ch (fun h => { h with log := h.log &&& ~~~1#64 })
  else s

/-- R280: may a pod group be released: its tick T has come. A launch on one chip has no route to wait for. -/
def State.podReleases (s : State) (c ch : Nat) : Bool :=
  match ((s.core c).launch).bind s.launch with
  | some l =>
    if (s.barRoutes c ch).isEmpty then decide (l.chips.length ≤ 1)
    else (s.barRoutes c ch).all (fun r => match r.release with
      | some t => decide (t.toNat ≤ s.tick.toNat)
      | none => false)
  | none => true

/-- R278, R280, R337: may the group of a core be released: every member here has arrived, none is held by a debug stop,
and for a pod group its tick has come. -/
def State.groupReleases (s : State) (c ch : Nat) : Bool :=
  let ms := s.groupMembers c ch
  ms.contains c && s.groupArrived c ch && ms.all (fun d => !(s.core d).debugStopped) &&
    (((s.core c).channel ch).span != 2 || s.podReleases c ch)

/-- R280: a barrier's route waits for its next arrival. -/
def State.rearmBarrier (s : State) (c ch : Nat) : State :=
  if ((s.core c).channel ch).span = 2 then
    { s with routes := s.routes.map (fun r =>
        if some r.launch == (s.core c).launch && r.records.any (fun x => rrOp x == 5 && rrObj x == ch) then
          { r with waiting := false, release := none, source := if r.isRoot then none else r.source }
        else r) }
  else s

/-- R280: a barrier group is released; a pod group whose members here have arrived is taken to its route. -/
def execBarrierRelease (core : Nat) (ch : BitVec 3) (s : State) : Host.Outcome State Fault Refusal :=
  let c := core
  let n := ch.toNat
  .next (if s.groupReleases c n then
    let ms := s.groupMembers c n
    let logged := match s.groupRoot c n with
      | some root => s.writeLog root n (s.groupRecord c n)
      | none => s
    ms.foldl (fun s d => s.releaseCore d n) ((logged.countRelease c n).rearmBarrier c n)
  else s.armBarrier c n)

/-! ## Channel words (R289) -/

/-- R289: does a written word have a ZERO field set, or SPAN 3? -/
def channelWordBad (membership : Bool) (w : Word) : Bool :=
  if membership then field w 40 24 != 0 || field w 10 6 != 0 || field w 1 7 != 0 || field w 8 2 == 3
  else field w 1 7 != 0

/-- R289: bmask. -/
def execBmask (rd rs1 rs2 : BitVec 5) (s : State) : Host.Outcome State Fault Refusal :=
  s.checked 4 (fun s => s.require (s.cur == 0) (fun s =>
    let sel := s.x rs2
    let ch := field sel 0 3
    let op := field sel 8 2
    let h := s.myCore.channel ch
    let old := if op < 2 then h.member else h.log
    if 4 < ch || (sel &&& ~~~0x307#64) != 0 || (op % 2 == 1 && channelWordBad (op == 1) (s.x rs1)) then
      .ok (s.writeX rd ones)
    else
      let write : ChannelWrite := { membership := op == 1, user := s.me.priv == .user, value := s.x rs1 }
      let s1 :=
        if op % 2 = 0 then s
        else if h.arrived.isEmpty && h.sent.isNone then s.modChannel s.here ch (fun h => h.applyWrite write)
        else s.modChannel s.here ch (fun h => { h with later := h.later ++ [write] })
      .ok (s1.writeX rd old)))

/-! ## Count objects (R283-R286) -/

/-- R283: the object of an address: 64-byte aligned, in device memory. -/
def State.objectAt (s : State) (va : Word) (f : State → Nat → Except Stop State) : Except Stop State :=
  s.aligned .store va 64 (fun s =>
    match s.access .store va 32 with
    | .error e => .error e
    | .ok (s1, locs) => if locs.all isDevice then f s1 (locs.headD 0) else .error (.trap causeStoreAccess va s))

/-- R284: abarr. -/
def execAbarr (rd rs1 rs2 : BitVec 5) (s : State) : Host.Outcome State Fault Refusal :=
  s.checked 4 (fun s => s.objectAt (s.x rs1) (fun s loc =>
    (s.fence 4).map (fun s1 =>
      let gen := (s.x rs2).extractLsb' 0 32
      let s2 := s1.atHome loc 32
      let code := (s2.arrivalCase loc gen).code
      (s2.arrive { source := 0, core := s.here, strand := s.cur, addr := s.x rs1, ld := s.myCore.ld.toNat } loc gen
        none).writeX rd code)))

/-- R285: the generation after a re-initialisation. -/
def State.nextGen (s : State) (loc : Nat) : BitVec 32 :=
  if s.coMagic loc ≠ kcnt then 1 else if s.coGen loc = BitVec.allOnes 32 then 1 else s.coGen loc + 1

/-- R285: the re-initialisation of an object, in one step. -/
def State.initObject (s : State) (loc : Nat) (count : Word) : State :=
  let gen := s.nextGen loc
  let s1 := s.commitHome (cellsAt loc (leBytes 4 kcnt ++ leBytes 4 gen.toNat ++ leBytes 8 count.toNat ++ leBytes 8 0))
  if count = 0 then s1.triggered loc else s1

/-- R285: abinit. -/
def execAbinit (rd rs1 rs2 : BitVec 5) (s : State) : Host.Outcome State Fault Refusal :=
  s.checked 4 (fun s => s.objectAt (s.x rs1) (fun s loc =>
    (s.fence 4).map (fun s1 =>
      let s2 := s1.atHome loc 32
      let gen := s2.nextGen loc
      (s2.initObject loc (s.x rs2)).writeX rd (gen.setWidth 64))))

/-- R286: WAITER of an object changes by one. -/
def State.addWaiter (s : State) (loc : Nat) (up : Bool) : State :=
  let n := s.coWaiter loc
  s.commitHome (cellsAt (loc + 0x18) (leBytes 4 (if up then (n + 1) % 2 ^ 32 else n - 1)))

/-- R286: what abwait reports. -/
def State.waitResult (s : State) (loc : Nat) : Word := (s.coGen loc) ++ (s.coStatus loc)

/-- R286: abwait. -/
def execAbwait (rd rs1 : BitVec 5) (s : State) : Host.Outcome State Fault Refusal :=
  s.checked 4 (fun s =>
    match s.me.park with
    | some (.countObject loc gen) =>
      let s1 := s.atHome loc 32
      if s1.coRemain loc = 0 ∨ s1.coGen loc ≠ gen then
        .ok ((s1.addWaiter loc false).deliverX rd (s1.waitResult loc) 0)
      else .error (.wait (.countObject loc gen) s)
    | _ =>
      s.objectAt (s.x rs1) (fun s loc =>
        let s1 := s.atHome loc 32
        if s1.coMagic loc ≠ kcnt then .ok (s1.deliverX rd ones 0)
        else if s1.coRemain loc = 0 then .ok (s1.deliverX rd (s1.waitResult loc) 0)
        else .error (.wait (.countObject loc (s1.coGen loc)) (s1.addWaiter loc true))))

end Sys2Proof.Machine
end

