-- ==== Sys2Proof/Machine/LaunchUnit.lean ====
section
/-! DEFINITION. The launch unit: the checks of a launch parameter block, the queue of launches, placement, the claim of
clusters, the route tables, and the wake of a launch's cores (R69, R72-R88, R126, R127, R221, R277, R299-R301, R337,
R338, R345). -/

namespace Sys2Proof.Machine

/-! ## Reading under the issuing strand's address space (R72, R73) -/

/-- The locations of bytes that the launch unit reaches in an address space of a logical device; a failure is no fault,
and no TLB changes. -/
def State.unitLocs (s : State) (x : XCtx) (ld : Nat) (a : Access) (va : Word) (n : Nat) : Option (List Nat) :=
  match (s.modCore x.core (fun k => { k with ld := BitVec.ofNat 4 ld })).translate x a va n with
  | .ok (_, locs) => some locs
  | .error _ => none

/-- The bytes that the launch unit reads in an address space. -/
def State.unitBytes (s : State) (x : XCtx) (ld : Nat) (va : Word) (n : Nat) : Option (List Byte) :=
  (s.unitLocs x ld .load va n).map (fun ls => ls.map (s.readByte .device))

/-! ## Check 1 (R66, R72, R73) -/

/-- R66, R72: the record that ENTRY names and its module's data base, when they can be read and the handle is valid. -/
def State.entryRecord (s : State) (x : XCtx) (ld : Nat) (b : List Byte) : Option (List Byte × Word) :=
  let d := (lpbEntry b).toNat - (lpbFdir b).toNat
  if (lpbEntry b).toNat < (lpbFdir b).toNat ∨ d % 64 ≠ 0 ∨ lpbNfdir b ≤ d / 64 then none
  else
    match s.unitBytes x ld (lpbEntry b) 64 with
    | none => none
    | some r =>
      if !recValid r || recDirIdx r ≠ d / 64 || lpbNmod b ≤ recModule r then none
      else
        (s.unitBytes x ld (lpbModtab b + BitVec.ofNat 64 (8 * recModule r)) 8).map (fun m => (r, wordOf m))

/-- R72: the location of a count object that the block names: aligned, and in this chip's device memory. Its 32 bytes are
translated as a store, for PREREQ too (DESIGN CHOICE, log entry 123). -/
def State.blockObject (s : State) (x : XCtx) (ld : Nat) (va : Word) : Option Nat :=
  if va.toNat % 64 ≠ 0 then none
  else
    match s.unitLocs x ld .store va 32 with
    | some (l :: ls) => if (l :: ls).all isDevice then some l else none
    | _ => none

/-- R72: is level `i` of the domain shape bad: nonzero, and no divisor of the next nonzero level, or as the last one of
VPES? -/
def domainBad (b : List Byte) (i : Nat) : Bool :=
  let d := lpbDomain b i
  let next := (((List.range 4).drop (i + 1)).map (lpbDomain b)).find? (· != 0)
  d != 0 && (next.getD (lpbVpes b)) % d != 0

/-- Is a number a power of two? -/
def isPow2 (n : Nat) : Bool := (List.range 10).any (fun i => n == 2 ^ i)

/-- Is some byte of a range of the block not 0? -/
def nonzero (b : List Byte) (off n : Nat) : Bool := ((b.drop off).take n).any (· != 0)

/-- R72, R73: the fields of the block, each with its offset and whether it is bad, in ascending order. -/
def State.blockFields (s : State) (x : XCtx) (ld : Nat) (b : List Byte) : List (Nat × Bool) :=
  let object := fun (va : Word) => va != 0 && (s.blockObject x ld va).isNone
  let multi := lpbMulti b
  [(0x00, b.take 4 != [0x4B, 0x4C, 0x50, 0x42]), (0x04, recNat b 4 2 != 1), (0x06, lpbPrio b / 4 != 0),
    (0x07, lpbFlags b / 4 != 0), (0x08, (s.entryRecord x ld b).isNone), (0x30, object (lpbDone b))] ++
  (List.range 4).map (fun i => (0x38 + 8 * i, object (lpbPrereq b i))) ++
  [(0x58, (lpbFdir b).toNat % 64 != 0), (0x60, decide (0xFFFFFF < lpbNfdir b)), (0x68, (lpbModtab b).toNat % 8 != 0)] ++
  (List.range 4).map (fun i => (0x70 + 4 * i, domainBad b i)) ++
  [(0x80, decide (10 < lpbHelpers b)), (0x81, nonzero b 0x81 1), (0x82, decide (256 < lpbSpad b)),
    (0x84, lpbStack b != 0 && (lpbStack b < 4 || 2 ^ 20 < lpbStack b)), (0x88, lpbTls b % 16 != 0),
    (0x8C, 256 < lpbPclus b || (lpbRect b && lpbPclus b != 0 && !isPow2 (lpbPclus b))),
    (0x8E, 1024 ≤ lpbPchip b || (!multi && lpbPchip b != 0))] ++
  (List.range 3).map (fun i => (0x90 + i, if multi then lpbExtent b i == 0 else lpbExtent b i != 0)) ++
  [(0x93, nonzero b 0x93 13), (0xA0, lpbTmodes b / 2 ^ (3 * min (lpbNtile b) 64) != 0),
    (0xB8, 64 < lpbNtile b || lpbSpad b < 4 * lpbNtile b), (0xB9, nonzero b 0xB9 71)]

/-- R75: the offset of the first bad field of a malformed block. -/
def State.blockBad (s : State) (x : XCtx) (ld : Nat) (b : List Byte) : Option Nat :=
  ((s.blockFields x ld b).find? (·.2)).map (·.1)

/-! ## Placement (R79-R81) -/

/-- R13, R79: does a chip cluster hold a server core? -/
def State.clusterServes (s : State) (i : Nat) : Bool := (List.range 4).any (fun j => s.chip.serverMask.getLsbD (4 * i + j))

/-- R79: the clusters of a chip that a logical device may claim. -/
def State.claimable (s : State) (ld chip : Nat) : List Nat :=
  (List.range 256).filter (fun i => (mapGet 0 (s.ld ld).partition chip).getLsbD i && !s.clusterServes i)

/-- R79: the clusters that launches hold on this chip. -/
def State.heldClusters (s : State) : List Nat := (s.launches.filter (·.active)).flatMap (·.clusters)

/-- R80: the shapes of rectangles. -/
def rectShapes : List (Nat × Nat × Nat) :=
  [(1, 1, 1), (2, 2, 1), (4, 2, 2), (8, 4, 2), (16, 4, 4), (32, 8, 4), (64, 8, 8), (128, 16, 8), (256, 32, 8)]

/-- R79, R80: the clusters that a block claims on a chip with `size` claimable ones. -/
def clustersNeeded (b : List Byte) (size : Nat) : Nat :=
  let want := (lpbVpes b + 15) / 16
  if lpbPclus b ≠ 0 then lpbPclus b
  else if lpbRect b then ((rectShapes.find? (fun r => min want 256 ≤ r.1)).map (·.1)).getD 256
  else min want size

/-- R80: the chip cluster at a point of the grid. -/
def clusterAt (x y : Nat) : Nat := (y / 4 * 4 + x / 8) * 32 + (y % 4 * 8 + x % 8)

/-- R80: the clusters of a rectangle. -/
def rectClusters (x y w h : Nat) : List Nat :=
  (List.range h).flatMap (fun j => (List.range w).map (fun i => clusterAt (x + i) (y + j)))

/-- R80: the rectangles of a shape, in the order in which their origins are tried. -/
def rectangles (w h : Nat) : List (List Nat) :=
  (List.range (8 / h)).flatMap (fun j => (List.range (32 / w)).map (fun i => rectClusters (w * i) (h * j) w h))

/-- R79, R80: the clusters that a block takes among `claimable` ones of which `held` are taken. -/
def placeOn (b : List Byte) (claimable held : List Nat) : Option (List Nat) :=
  let n := clustersNeeded b claimable.length
  let free := claimable.filter (fun i => !held.contains i)
  if claimable.isEmpty then none
  else if lpbRect b then
    match rectShapes.find? (fun r => r.1 == n) with
    | some (_, w, h) =>
      ((rectangles w h).find? (fun r => r.all free.contains)).map (fun r => (List.range 256).filter r.contains)
    | none => none
  else if n ≤ free.length then some (free.take n) else none

/-- R81: the chips that a block claims, in rank order. A PCHIP whose coordinate is not below the pod's extent is taken modulo
the extent (DESIGN CHOICE, log entry 129). -/
def State.blockChips (s : State) (b : List Byte) : List Nat :=
  if lpbMulti b then
    let at' := fun (d k : Nat) => (coordOf (lpbPchip b) d + k) % s.extent d
    (List.range (lpbExtent b 2)).flatMap (fun z => (List.range (lpbExtent b 1)).flatMap (fun y =>
      (List.range (lpbExtent b 0)).map (fun x => chipAt (at' 0 x) (at' 1 y) (at' 2 z))))
  else [s.chipNumber]

/-- R73: check 4: could the launch be placed if the partition were empty? -/
def State.blockFits (s : State) (ld : Nat) (b : List Byte) : Bool :=
  (!lpbMulti b || [0, 1, 2].all (fun d => lpbExtent b d ≤ s.extent d)) &&
    (s.blockChips b).all (fun c => (placeOn b (s.claimable ld c) []).isSome)

/-- R78: the clusters that a launch claims, summed over its chips. -/
def State.cost (s : State) (ld : Nat) (b : List Byte) : Nat :=
  (s.blockChips b).foldl (fun n c => n + clustersNeeded b (s.claimable ld c).length) 0

/-! ## The launch instruction (R73-R75, R87, R126) -/

/-- R73: what the checks of a block come to. -/
inductive Checked where
  | malformed (off : Nat)
  | refused (code detail : BitVec 16)
  | accepted
  deriving DecidableEq, Repr

/-- R76: the launches of a logical device that are not yet retired or discarded. -/
def State.pendingLaunches (s : State) (ld : Nat) : Nat :=
  (s.launches.filter (fun l => lidLd l.lid == ld && l.issuer == s.chipNumber && l.active)).length

/-- R73: checks 1–6, in order. -/
def State.checkBlock (s : State) (x : XCtx) (ld : Nat) (b : List Byte) : Checked :=
  let missing := (List.range 128).find? (fun i => (lpbFeature b).testBit i && !Config.capabilities.getLsbD i)
  match s.blockBad x ld b with
  | some off => .malformed off
  | none =>
    if 2 ^ 24 ≤ lpbVpes b then .refused codeRange 0
    else
      match missing with
      | some i => .refused codeFeature (BitVec.ofNat 16 i)
      | none =>
        if !s.blockFits ld b then .refused codeFit 0
        else if lpbVpes b = 0 then .refused codeDoneEmpty 0
        else if 4096 ≤ s.pendingLaunches ld then .refused codeBusy 0
        else .accepted

/-- R74: the sequence number after `n`. -/
def nextSeq (n : BitVec 28) : BitVec 28 := if n = BitVec.allOnes 28 then 1 else n + 1

/-- A launch of a block, in the state QUEUED. -/
def State.newLaunch (s : State) (x : XCtx) (ld : Nat) (b : List Byte) (lid : BitVec 32) : Launch :=
  let object := fun (va : Word) => (s.blockObject x ld va).getD 0
  let done := object (lpbDone b)
  { lid := lid, lpb := b, satp := x.satp, vf := x.vf, issuer := s.chipNumber, priv := x.priv, sum := x.sum, mxr := x.mxr,
    issuerCore := x.core, state := .queued, code := 0, detail := 0, readyTick := 0, notBefore := 0, doneLoc := done,
    doneGen := s.coGen done, preLocs := (List.range 4).map (fun i => object (lpbPrereq b i)), chips := [], rank := 0,
    clusters := [], reports := [], endedChips := [], woken := false, localDone := false, debugStop := false, stoppedChips := [],
    releases := [], pendingCode := none }

/-- R76: how many LIDs of the logical device were accepted after a launch's. -/
def State.laterLids (s : State) (l : Launch) : Nat :=
  let mine := s.launches.filter (fun m => lidLd m.lid == lidLd l.lid && m.issuer == l.issuer)
  mine.length - 1 - (mine.findIdx? (·.lid == l.lid)).getD 0

/-- R76: launches that have ended and are not among the latest 4,096 LIDs of their logical device are forgotten. -/
def State.forget (s : State) : State :=
  { s with launches := s.launches.filter (fun l => l.active || s.laterLids l < 4096) }

/-- R73, R75, R87: a block is submitted for a logical device: the state, and the result word of R74. -/
def State.submit (s : State) (x : XCtx) (ld : Nat) (b : List Byte) : State × Word :=
  match s.checkBlock x ld b with
  | .malformed off =>
    (s.post ld 0 (endedRecord codeForm (BitVec.ofNat 16 off) 0 0 s.tick), (0#32 ++ BitVec.ofNat 16 off) ++ codeForm)
  | .refused code detail =>
    let l := s.newLaunch x ld b (BitVec.ofNat 32 (ld * 2 ^ 28))
    ((s.signalDone l code detail).examineNoted.post ld 0 (endedRecord code detail 0 (lpbDone b) s.tick), (0#32 ++ detail) ++ code)
  | .accepted =>
    let seq := (s.ld ld).seq
    let lid := BitVec.ofNat 32 (ld * 2 ^ 28 + seq.toNat)
    let l := s.newLaunch x ld b lid
    let s1 := s.modLd ld (fun d => { d with seq := nextSeq seq })
    ((({ s1 with launches := s1.launches ++ [l] } : State).forget).examine l, lid ++ 0#32)

/-- R126: launch. -/
def execLaunch (rd rs1 : BitVec 5) (s : State) : Host.Outcome State Fault Refusal :=
  s.checked 4 (fun s => s.aligned .load (s.x rs1) 256 (fun s =>
    match s.access .load (s.x rs1) 256 with
    | .error e => .error e
    | .ok (s1, locs) =>
      match s1.fence 6 with
      | .error e => .error e
      | .ok s2 =>
        let r := s2.submit s2.ctx s2.myCore.ld.toNat (locs.map (s2.readByte .device))
        .ok (r.1.writeX rd r.2)))

/-- R127: the word of lpoll. -/
def State.pollLaunch (s : State) (ld : Nat) (lid : BitVec 32) : Word :=
  match s.launch (s.ownKey lid) with
  | some l =>
    if lidLd lid ≠ ld ∨ 4096 ≤ s.laterLids l then 0
    else if l.active then BitVec.ofNat 64 l.state.code
    else (0#16 ++ l.detail ++ l.code ++ BitVec.ofNat 16 l.state.code)
  | none => 0

/-- R127: lpoll. -/
def execLpoll (rd rs1 : BitVec 5) (s : State) : Host.Outcome State Fault Refusal :=
  s.straight 4 (fun s => s.writeX rd (s.pollLaunch s.myCore.ld.toNat ((s.x rs1).extractLsb' 0 32)))

/-- R345, R351: does a logical device process host-to-device records, and a feature of them? -/
def Ld.accepts (d : Ld) (feature : Nat) : Bool := d.accept.getLsbD 63 && d.accept.getLsbD feature

/-- R343, R344: the executive consumes the record at CI of a queue block, if there is one. -/
def State.consume (s : State) (b : Nat) : Option (State × List Byte) :=
  let ci := s.readNat .host (b + 0x14) 4
  if s.readNat .host (b + 0x10) 4 = ci then none
  else
    let slot := s.readNat .device b 8 % 2 ^ 42 + 32 * (ci % 2 ^ s.readNat .device (b + 8) 1)
    some (s.commitSystem (cellsAt (b + 0x14) (leBytes 4 ((ci + 1) % 2 ^ 32))), s.readBytes .host slot 32)

/-- R351: a host-to-device record is dropped, and counted as a framing error. -/
def State.dropRecord (s : State) (n : Nat) : State :=
  s.modLd n (fun d => { d with framingErrors := d.framingErrors + 1 })

/-- R345: is a record a launch request whose reserved bytes are 0? -/
def isLaunchRequest (r : List Byte) : Bool := recNat r 0 2 == 0x20 && recNat r 2 6 == 0 && recNat r 0x10 16 == 0

/-- R345, R351: the executive executes launch for a launch request. The record belongs to the features LAUNCH and NOTIFY1, and
that of a multi-chip block to MULTI. -/
def State.requestLaunch (s : State) (x : XCtx) (n : Nat) (lpb : Word) : State :=
  let d := s.ld n
  if !d.accepts 1 || !d.accepts 0 then s.dropRecord n
  else
    match (if lpb.toNat % 256 = 0 then s.unitBytes x n lpb 256 else none) with
    | some b => if lpbMulti b && !d.accepts 5 then s.dropRecord n else (s.submit x n b).1
    | none => s

/-- R345: the executive, a strand of a server core, consumes the next record of a host-to-device queue. Records of other kinds
below 0x0100 and launch requests with a nonzero reserved byte are dropped and counted; the others are the executive's own
(DESIGN CHOICE, log entry 147). -/
def execLaunchRequest (core strand : Nat) (ld : BitVec 4) (queue : Nat) (s : State) : Host.Outcome State Fault Refusal :=
  let n := ld.toNat
  let executive := s.isServer core && (s.strand core strand).status == .live && (s.strand core strand).priv != .user
  .next (
    if executive && (s.ld n).bound && (s.ld n).accept.getLsbD 63 then
      match ((s.queueBlocks n 1)[queue]?).bind s.consume with
      | some (s1, r) =>
        if isLaunchRequest r then s1.requestLaunch (s1.xctx core strand) n (recWord r 8)
        else if recNat r 0 2 < 0x100 then s1.dropRecord n
        else s1
      | none => s
    else s)

/-! ## Route tables (R299-R301) -/

/-- R301: do the bytes at a local address lie in the ranges that a logical device may use on this chip? -/
def State.rangeAllowed (s : State) (ld a n : Nat) : Bool :=
  let d := s.ld ld
  (List.range n).all (fun i =>
    let loc := a + i
    (isDevice loc || isChipScratch loc) &&
      (s.granuleOpen ld loc ||
        (isChipScratch loc && d.spadOff ≤ loc - chipScratchBase && loc - chipScratchBase < d.spadOff + d.spadLen)))

/-- The junction operators (R303). -/
def opFwd : Nat := 0
def opAddF32 : Nat := 1
def opMaxF32 : Nat := 2
def opAddI32 : Nat := 3
def opRsc : Nat := 4
def opBar : Nat := 5

/-- The number of set bits of a mask. -/
def bitCount (n : Nat) : Nat := ((List.range 32).filter (fun i => n.testBit i)).length

/-- R300, R301: does a route record fail the check of this chip? -/
def State.recordBad (s : State) (ld nroute : Nat) (r : List Byte) : Bool :=
  let out := rrOutport r
  let deliver := out == 0xFF
  let mask := rrInmask r
  let bar := rrOp r == opBar
  let limit := if deliver then 2528 else 64 * rrFlits r - 32
  nroute ≤ rrRoute r || (!deliver && 24 ≤ out) ||
    (if deliver then rrFlits r != 0 else rrFlits r == 0 || 40 < rrFlits r) || opBar < rrOp r || 2 ^ 25 ≤ mask ||
    rrLen r < 4 || limit < rrLen r || rrLen r % 4 != 0 || (rrOp r == opRsc && rrLen r < 20) ||
    (rrOp r == opFwd && 1 < bitCount mask) || (!bar && rrBound r != 0) || (mask.testBit 24 && deliver) ||
    (!deliver && s.linkDown out) ||
    (if bar then 4 < rrObj r
      else ((mask.testBit 24 || deliver) && !s.rangeAllowed ld (rrBuf r) (rrLen r)) ||
        (rrObj r != 0 && (rrObj r % 64 != 0 || !s.rangeAllowed ld (rrObj r) 32)))

/-- R300, R301: does this chip's part of a launch's route image fail its check? -/
def State.tableBad (s : State) (ld nroute : Nat) (rs : List (List Byte)) : Bool :=
  !s.chip.locked || rs.any (s.recordBad ld nroute) ||
    rs.any (fun r => rs.any (fun q => rrRoute q == rrRoute r && (rrOp q != rrOp r || rrInmask q != rrInmask r))) ||
    rs.any (fun r => rrOutport r != 0xFF &&
      40 < s.claimedFlits (rrOutport r) (rrSlot r) +
        rs.foldl (fun n q => if rrOutport q = rrOutport r ∧ rrSlot q = rrSlot r then n + rrFlits q else n) 0)

/-- R83: the routes of a launch's records on this chip are loaded. -/
def State.loadRoutes (s : State) (key : LaunchKey) (rs : List (List Byte)) : State :=
  let ids := (rs.map rrRoute).eraseDups
  { s with routes := s.routes ++ ids.map (fun i =>
      { launch := key, route := i, records := rs.filter (fun r => rrRoute r == i), state := .idle, readyTick := 0,
        firing := 0, triggers := 0, inputs := [], source := none, acted := [], waiting := false, release := none }) }

/-! ## The route header (R82) -/

/-- The address space of the strand that executed launch. -/
def Launch.ctx (l : Launch) : XCtx :=
  { core := l.issuerCore, priv := l.priv, sum := l.sum, mxr := l.mxr, satp := l.satp, vf := l.vf }

/-- A list cut into records of 32 bytes. -/
def records32 : Nat → List Byte → List (List Byte)
  | 0, _ => []
  | n + 1, b => if b.isEmpty then [] else b.take 32 :: records32 n (b.drop 32)

/-- R82, R300: the number of routes and the records of a launch's route image, or the header offset of the first bad
field. An image that fails translation is found only after the header's fields (DESIGN CHOICE, log entry 130). -/
def State.routeImage (s : State) (l : Launch) : Except Nat (Nat × List (List Byte)) :=
  let ld := lidLd l.lid
  match s.unitBytes l.ctx ld (lpbArgs l.lpb) 64 with
  | none => .error 0
  | some h =>
    if h.take 4 ≠ [0x4B, 0x52, 0x54, 0x45] then .error 0
    else if 65535 < recNat h 4 4 then .error 4
    else if recNat h 0x10 8 % 32 ≠ 0 then .error 0x10
    else if nonzero h 0x18 40 then .error 0x18
    else
      match (if recNat h 0x10 8 = 0 then some [] else s.unitBytes l.ctx ld (recWord h 8) (recNat h 0x10 8)) with
      | none => .error 8
      | some b => .ok (recNat h 4 4, records32 (b.length / 32) b)

/-! ## The wake (R69, R84, R85, R221, R277) -/

/-- R84: vpes per core, with `p` cores claimed. -/
def vpesPerCore (vpes p : Nat) : Nat := (vpes + (p - 1)) / p

/-- R277: the membership word of a core that ranks `c`-th among all claimed cores, for domains of `d` vpes. `n` cores
hold vpes, `f` each; cores `lo` up to `lo + mine.length` are this chip's, in `mine`. -/
def memberWord (d f n c lo : Nat) (mine : List Nat) : Word :=
  let q := d / Nat.gcd d f
  let first := c / q * q
  let past := min (first + q) n
  let span :=
    if lo ≤ first ∧ past ≤ lo + mine.length then
      if ((mine.drop (first - lo)).take (past - first)).all (fun k => dieOf k == dieOf (mine.getD (first - lo) 0)) then 0
      else 1
    else 2
  BitVec.ofNat 64 (1 + 256 * span + 2 ^ 16 * (first * f / d))

/-- R277: the channels of a core at RUNNING. -/
def wakeChannels (b : List Byte) (f n c lo : Nat) (mine : List Nat) : Vector Channel 5 :=
  Vector.ofFn (fun (ch : Fin 5) =>
    let d := if ch.val = 4 then lpbVpes b else lpbDomain b ch.val
    if c < n ∧ d ≠ 0 then
      { Channel.reset with member := memberWord (if ch.val = 4 then n * f else d) f n c lo mine }
    else Channel.reset)

/-- R86: a vpe slot of a launch. -/
def wakeSlot (k : LaunchKey) (v : Nat) : Slot :=
  let id := BitVec.ofNat 24 v
  { vpeid := id, live := true, images := allStrands.map (Config.contextImage k.issuer k.lid id), sstepcnt := 0, waiting := none }

/-- R45, R69, R85: a strand of a vpe before it starts. -/
def wakeStrand (x : Slot) (vpes i : Nat) : Strand :=
  { Strand.reset with
    vAbsent := BitVec.allOnes 32, ctxbase := x.images.getD i 0, vpeid := x.vpeid, vpecnt := BitVec.ofNat 24 vpes }

/-- R69, R72, R85: the control strand of a vpe at its entry. -/
def wakeControl (k : LaunchKey) (x : Slot) (b : List Byte) (rec : List Byte) (gp : Word) : Strand :=
  let t := wakeStrand x (lpbVpes b) 0
  let t1 := (((((t.writeX 10#5 (lpbArgs b)).writeX 11#5 (x.vpeid.setWidth 64)).writeX 1#5 exitHandle).writeX 2#5
    (BitVec.ofNat 64 (stackTop k b x.vpeid 0))).writeX 4#5 (localBase k x.vpeid 0)).writeX 3#5 gp
  { t1 with
    status := .live
    curdir := BitVec.ofNat 24 (((lpbEntry b).toNat - (lpbFdir b).toNat) / 64)
    pos := .first rec }

/-- The eleven strands of a vpe at its start. -/
def wakeStrands (k : LaunchKey) (x : Slot) (b rec : List Byte) (gp : Word) : Vector Strand 11 :=
  Vector.ofFn (fun (i : Fin 11) => if i.val = 0 then wakeControl k x b rec gp else wakeStrand x (lpbVpes b) i.val)

/-- R221: the tiles of a claimed core's scratchpad region. -/
def State.wakeTiles (s : State) (c : Nat) (b : List Byte) : State :=
  (List.range (lpbSpad b / 4)).foldl (fun s k =>
    let mode := if k < lpbNtile b then lpbTmodes b / 8 ^ k % 8 else 0
    s.setTile (tileNo (scratchLoc c (4096 * k))) { mode := BitVec.ofNat 3 mode, seq := 0 }) s

/-- R85, R111, R253, R255, R306: what a claimed core holds when its launch starts. -/
def Core.wake (k : Core) (l : Launch) (own : Bool) (first : Nat) (slots : List Slot) (channels : Vector Channel 5) :
    Core :=
  let b := l.lpb
  { k.emptySinks with
    launch := some l.key, ovf := 0, ld := BitVec.ofNat 4 (lidLd l.lid), satp := if own then l.satp else k.satp
    fdir := lpbFdir b, nfdir := lpbNfdir b, modtab := lpbModtab b, nmod := lpbNmod b, helpers := lpbHelpers b
    spad := lpbSpad b, first := first, slots := slots, slot := 0, route := 0, channels := channels
    debugStopped := false }

/-- R255: a bench's bin word is zero at launch start; the core's lines leave the register cache. -/
def Bench.wake (k : Bench) (c : Nat) : Bench :=
  { k with bin := 0, fills := [], regCache := k.regCache.filter (fun r => r.core != c) }

/-- R84: a claimed core starts its share: slot 0 runs, and the images of the other slots hold their vpes' first
state. Where the record of ENTRY can no longer be read, or is no longer valid, the strands start with gp 0 and look up the
digest 0 (DESIGN CHOICE, log entry 124). -/
def State.wakeCore (s : State) (l : Launch) (f n c lo : Nat) (mine : List Nat) (core : Nat) : State :=
  let b := l.lpb
  let first := c * f
  let count := if c < n then min f (lpbVpes b - first) else 0
  let slots := (List.range count).map (fun j => wakeSlot l.key (first + j))
  let s1 := (s.modCore core (fun k =>
    k.wake l (l.issuer == s.chipNumber) first slots (wakeChannels b f n c lo mine))).modBench (benchOf core)
      (·.wake core)
  let s1' := s1.wakeTiles core b
  let x := s1'.deviceCtx core
  let s2 := slots.foldl (fun s v => s.prepareVpe l.key b x v.vpeid) s1'
  let entry := s2.entryRecord x (lidLd l.lid) b
  let rec' := (entry.map (·.1)).getD []
  let gp := (entry.map (·.2)).getD 0
  let load := fun (s : State) (x : Slot) =>
    s.modCore core (fun k => { k with strands := wakeStrands l.key x b rec' gp })
  match slots with
  | [] => s2.modCore core (fun k =>
      { k with strands := Vector.ofFn (fun (_ : Fin 11) => { Strand.reset with vpecnt := BitVec.ofNat 24 (lpbVpes b) }) })
  | x0 :: rest =>
    let saved := rest.foldl (fun (r : Except Stop State) x => match r with
      | .ok s => (load s x).saveSlot core x.images false
      | .error e => .error e) (.ok s2)
    match saved with
    | .ok s3 => load s3 x0
    | .error _ => (load s2 x0).orDiscard core saved

/-- R84, R224: the wake of a launch on this chip. -/
def State.wake (s : State) (l : Launch) : State :=
  let mine := l.cores
  let p := mine.length * l.chips.length
  let f := vpesPerCore (lpbVpes l.lpb) p
  let n := if f = 0 then 0 else (lpbVpes l.lpb + (f - 1)) / f
  let lo := l.rank * mine.length
  let s1 := l.clusters.foldl (fun s i => s.modCluster i (fun k => { k with constCache := [] }))
    (s.setLaunch { l with state := .running, woken := true })
  let s2 := ((List.range mine.length).zip mine).foldl (fun s a => s.wakeCore l f n (lo + a.1) lo mine a.2) s1
  s2.launchDone l.key

/-- R84: the wake reaches the claimed clusters. -/
def execWakeMessage (key : LaunchKey) (s : State) : Host.Outcome State Fault Refusal :=
  .next (match s.launch key with
    | some l =>
      let own := l.issuer == s.chipNumber
      if l.state = (if own then .running else .claiming) ∧ !l.woken ∧ l.pendingCode.isNone then
        (if own then s else s.controlLane).wake l
      else s
    | none => s)

/-! ## Claims (R76, R82, R83) -/

/-- R76: the clusters were taken on some chip: every claim is released, and the launch is READY again. -/
def State.claimTaken (s : State) (l : Launch) : State :=
  (((s.tellChips l lmDiscard 0).setLaunch
    { l with state := .ready, notBefore := s.tick + 4096, clusters := [], chips := [], reports := [] }).releaseLaunch
    { l with clusters := [] })

/-- R76, R83: once every claimed chip has reported, the launch runs, is chosen again, or is discarded. Where one chip reports a
failed check and another its clusters taken, the failed check wins (DESIGN CHOICE, log entry 127). -/
def State.claimDecides (s : State) (l : Launch) : State :=
  let report := fun (c : Nat) => (l.reports.find? (·.1 == c)).map (·.2)
  if l.chips.all (fun c => (report c).isSome) then
    match l.chips.find? (fun c => report c == some .tableFailed) with
    | some c => s.discard l.key codeRoute (BitVec.ofNat 16 c)
    | none =>
      if l.chips.any (fun c => report c == some .taken) then s.claimTaken l
      else (s.setLaunch { l with state := .running, localDone := !l.chips.contains s.chipNumber }).tellChips l lmWake 0
  else s

/-- R83: a claimed chip's report reaches the issuing chip. -/
def State.claimReported (s : State) (lid : BitVec 32) (chip : Nat) (r : ClaimReport) : State :=
  match s.launch (s.ownKey lid) with
  | some l =>
    if l.state = .claiming ∧ l.issuer = s.chipNumber ∧ l.chips.contains chip ∧ !l.reports.any (·.1 == chip) then
      let l1 := { l with reports := l.reports ++ [(chip, r)] }
      (s.setLaunch l1).claimDecides l1
    else s
  | none => s

/-- R83: a claimed chip's report. -/
def execClaimReport (lid : BitVec 32) (chip : Nat) (report : ClaimReport) (s : State) :
    Host.Outcome State Fault Refusal := .next (s.controlLane.claimReported lid chip report)

/-- The records of a rank. -/
def recordsOf (rs : List (List Byte)) (rank : Nat) : List (List Byte) := rs.filter (fun r => rrRank r == rank)

/-- R82, R83: a multi-chip launch enters CLAIMING: its header is read, its claims go out, and this chip's tables are
loaded and checked. -/
def State.claimPod (s : State) (l : Launch) : State :=
  match s.routeImage l with
  | .error off => s.finish l .discarded codeForm (BitVec.ofNat 16 off)
  | .ok (nroute, rs) =>
    let s1 := ((List.range l.chips.length).zip l.chips).foldl (fun s a =>
      if a.2 = s.chipNumber then s
      else s.send (.claim a.2
        { lid := l.lid, issuer := s.chipNumber, rank := a.1, chips := l.chips, lpb := l.lpb, nroute := nroute,
          records := recordsOf rs a.1 })) s
    let own := recordsOf rs l.rank
    if !l.chips.contains s.chipNumber then s1
    else if s1.tableBad (lidLd l.lid) nroute own then s1.claimReported l.lid s.chipNumber .tableFailed
    else (s1.loadRoutes l.key own).claimReported l.lid s.chipNumber .loaded

/-- R76, R79-R81: a READY launch takes its clusters, when they are free. -/
def State.placeLaunch (s : State) (l : Launch) : Option State :=
  let chips := s.blockChips l.lpb
  let here := chips.contains s.chipNumber
  match (if here then placeOn l.lpb (s.claimable (lidLd l.lid) s.chipNumber) s.heldClusters else some []) with
  | none => none
  | some cs =>
    let l1 := { l with state := .claiming, clusters := cs, chips := chips, reports := [], endedChips := [],
                       rank := (chips.findIdx? (· == s.chipNumber)).getD 0, woken := false, localDone := false }
    let s1 := s.setLaunch l1
    some (if lpbMulti l.lpb then s1.claimPod l1 else s1.claimReported l.lid s.chipNumber .loaded)

/-- R83: another chip's claim: the clusters are taken, the tables loaded and checked, and the outcome reported. -/
def execClaimMessage (m : ClaimMsg) (s : State) : Host.Outcome State Fault Refusal :=
  let ld := lidLd m.lid
  let report := fun (s : State) (v : Word) => s.send (.launchMessage m.issuer lmReport m.lid v)
  let s := s.controlLane
  .next (match placeOn m.lpb (s.claimable ld s.chipNumber) s.heldClusters with
    | none => report s 1
    | some cs =>
      if s.tableBad ld m.nroute m.records then report s 2
      else
        let x := s.deviceCtx (16 * cs.headD 0)
        let l := { s.newLaunch x ld m.lpb m.lid with
                   issuer := m.issuer, state := .claiming, chips := m.chips, rank := m.rank, clusters := cs
                   preLocs := [], doneLoc := 0, doneGen := 0 }
        report (({ s with launches := s.launches.filter (fun k => k.key != l.key) ++ [l] } : State).loadRoutes l.key
          m.records) 0)

/-! ## Choosing (R77, R78) -/

/-- R77: the effective priority of a READY launch. -/
def State.effectivePrio (s : State) (l : Launch) : Nat :=
  min 3 (lpbPrio l.lpb + (s.tick - l.readyTick).toNat / 2 ^ 20)

/-- R77: is a sequence number lower than another, modulo 2^28? -/
def seqBelow (a b : BitVec 32) : Bool := 0 < ((b - a).extractLsb' 0 28).toNat && ((b - a).extractLsb' 0 28).toNat < 2 ^ 27

/-- R77: does launch `a` go before launch `b`? -/
def State.goesBefore (s : State) (a b : Launch) : Bool :=
  if s.effectivePrio a ≠ s.effectivePrio b then s.effectivePrio b < s.effectivePrio a else seqBelow a.lid b.lid

/-- R77: a logical device's READY launches. -/
def State.readyOf (s : State) (d : Nat) : List Launch :=
  s.launches.filter (fun l => l.state == .ready && lidLd l.lid == d && l.issuer == s.chipNumber)

/-- R76, R77: a logical device's candidate. A launch that waits 4,096 ticks after its clusters were taken is none, and blocks no
other launch meanwhile (DESIGN CHOICE, log entry 126). -/
def State.candidate (s : State) (d : Nat) : Option Launch :=
  ((s.readyOf d).filter (fun l => l.notBefore.toNat ≤ s.tick.toNat)).foldl (fun best l => match best with
    | none => some l
    | some m => if s.goesBefore l m then some l else some m) none

/-- R78: the logical device's turn: its candidates are placed while its deficit covers them. -/
def serveLd : Nat → State → Nat → State
  | 0, s, _ => s
  | fuel + 1, s, d =>
    match s.candidate d with
    | none => s
    | some l =>
      let cost := s.cost d l.lpb
      let have' := (s.ld d).deficit
      if cost ≤ have' ∨ have' = 512 then
        match s.placeLaunch l with
        | none => s
        | some s1 => serveLd fuel (s1.modLd d (fun k => { k with deficit := have' - cost })) d
      else s

/-- R78: a bound logical device is visited in a round. -/
def State.visitLd (s : State) (d : Nat) : State :=
  if (s.ld d).bound then
    let s1 := s.modLd d (fun k => { k with deficit := min (k.deficit + k.weight) 512 })
    let s2 := serveLd s1.launches.length s1 d
    if (s2.readyOf d).isEmpty then s2.modLd d (fun k => { k with deficit := 0 }) else s2
  else s

/-- R78: the round of this tick, unless it has run, when a bound logical device has a READY launch. -/
def State.runRound (s : State) : State :=
  if s.roundTick = some s.tick ∨ !(List.range 16).any (fun d => (s.ld d).bound && !(s.readyOf d).isEmpty) then s
  else (List.range 16).foldl State.visitLd { s with roundTick := some s.tick }

/-- R78: the round of this tick. -/
def execLaunchRound (s : State) : Host.Outcome State Fault Refusal := .next s.runRound

/-- R76: the number of the period of 1,024 ticks. -/
def State.period (s : State) : Nat := s.tick.toNat / 1024

/-- R76: the prerequisites of the QUEUED launches are examined again, once in each period of 1,024 ticks (DESIGN CHOICE, log
entry 134). -/
def State.recheck (s : State) : State :=
  if s.rechecked = s.period + 1 then s
  else s.launches.foldl State.examineNow { s with rechecked := s.period + 1 }

/-- R76: the prerequisites of the QUEUED launches are examined again. -/
def execPrereqRecheck (s : State) : Host.Outcome State Fault Refusal := .next s.recheck

/-! ## Ends that come from outside (R70, R88, R338) -/

/-- R88: an ended message reaches the issuing chip. -/
def execEndedMessage (lid : BitVec 32) (chip : Nat) (s : State) : Host.Outcome State Fault Refusal :=
  let s := s.controlLane
  .next (match s.launch (s.ownKey lid) with
    | some l =>
      if l.active ∧ l.chips.contains chip ∧ !l.endedChips.contains chip then
        ((s.setLaunch { l with endedChips := l.endedChips ++ [chip] }).tryRetire l.key).tryFinish l.key
      else s
    | none => s)

/-- R83, R338: a discard order reaches a claimed chip, or a claimed chip's fault reaches the issuing chip. -/
def execLaunchDiscardMessage (key : LaunchKey) (code detail : BitVec 16) (s : State) :
    Host.Outcome State Fault Refusal :=
  let s := s.controlLane
  .next (match s.launch key with
    | some l =>
      if !l.active || l.pendingCode.isSome then s
      else if l.issuer = s.chipNumber then s.discard key code detail
      else s.discardHere l code detail
    | none => s)

/-- R70: has an access of the launch here passed the limit of a stack, of the vpe that the detail names? -/
def State.limitPassed (s : State) (l : Launch) (detail : BitVec 16) : Bool :=
  (s.heldCores l).any (fun c =>
    (s.core c).strands.any (fun t => match t.park with
      | some (.stackLimit v) => v.extractLsb' 0 16 == detail
      | _ => false) ||
    (s.bench (benchOf c)).chains.any (fun k => k.core == c && (match k.phase with
      | .faulted (some v) => v.extractLsb' 0 16 == detail
      | _ => false)))

/-- R70, R338: the resident executive ends a launch: with STACK_LIMIT, when an access has passed the limit of a stack. -/
def execLaunchEndByExecutive (key : LaunchKey) (code detail : BitVec 16) (s : State) :
    Host.Outcome State Fault Refusal :=
  .next (match s.launch key with
    | some l =>
      if l.state = .running ∧ (code = codeFault ∨ (code = codeStackLimit ∧ s.limitPassed l detail)) then
        s.discard key code detail
      else s
    | none => s)

/-! ## Debug stops (R337) -/

/-- R337: does a live vpe slot of the core stand in its bwait or sstep? -/
def Core.slotStands (k : Core) (j : Nat) : Bool :=
  (List.range 5).any (fun ch => (k.channel ch).hasArrived j) &&
    (j != k.slot || (match (k.strand 0).park with
      | some (.barrier _) => true
      | _ => false))

/-- R337: may a core stop? -/
def State.debugMayStop (s : State) (c : Nat) : Bool :=
  let k := s.core c
  k.liveSlots.all k.slotStands && k.vqueue.isEmpty && k.mqueue.isEmpty && allStrands.all (s.vectorIdle c) &&
    (s.bench (benchOf c)).chains.all (fun ch => ch.core != c) && s.sends.all (fun x => x.core != c) &&
    k.strands.toList.all (fun t => t.storeBuf.isEmpty) && k.combining.isEmpty &&
    k.journal.all (fun e => e.2.state != .posted)

/-- R337: the lowest of some milestones. -/
def lowestOf : List Word → Option Word
  | [] => none
  | m :: ms => some (ms.foldl (fun m a => if a.toNat < m.toNat then a else m) m)

/-- R337: the lowest milestone among the live vpes of a launch here. -/
def State.lowestMilestone (s : State) (l : Launch) : Option Word :=
  lowestOf ((s.heldCores l).flatMap (fun c => ((s.core c).slots.filter (·.live)).map (·.sstepcnt)))

/-- R337: have the cores of a launch here stopped? -/
def State.stoppedHere (s : State) (l : Launch) : Bool := (s.heldCores l).all (fun c => (s.core c).debugStopped)

/-- R337: on the issuing chip, the record is posted once every claimed core has stopped; the cores of another chip are
reported to it. -/
def State.settleDebug (s : State) (l : Launch) : State :=
  if !s.stoppedHere l then s
  else if l.issuer ≠ s.chipNumber then
    s.send (.launchMessage l.issuer lmStopped l.lid ((s.lowestMilestone l).getD ones))
  else if (l.chips.filter (· ≠ s.chipNumber)).all (fun c => l.stoppedChips.any (·.1 == c)) then
    let low := lowestOf ((s.lowestMilestone l).toList ++ l.stoppedChips.filterMap (·.2))
    s.post (lidLd l.lid) 0 (leBytes 2 0x0013 ++ leBytes 6 0 ++ leBytes 4 l.lid.toNat ++ leBytes 4 0 ++
      leBytes 8 (low.getD 0).toNat ++ leBytes 8 s.tick.toNat)
  else s

/-- R337: a core of a launch with a debug stop requested stops; or (`a.report`: the chip, the LID, the lowest milestone) the cores
of another chip have stopped, as its launch unit says (DESIGN CHOICE, log entry 89). The last one posts the record. -/
def execCoreDebugStopped (a : DebugStopped) (s : State) : Host.Outcome State Fault Refusal :=
  .next (match a.report with
    | some (chip, lid, low) =>
      match s.launch (s.ownKey lid) with
      | some l =>
        if l.debugStop ∧ l.state = .running ∧ chip ≠ s.chipNumber ∧ l.chips.contains chip then
          let l1 := { l with stoppedChips := (chip, low) :: l.stoppedChips.filter (·.1 ≠ chip) }
          (s.controlLane.setLaunch l1).settleDebug l1
        else s
      | none => s
    | none =>
      match ((s.core a.core).launch).bind s.launch with
      | some l =>
        if l.debugStop ∧ l.state = .running ∧ !(s.core a.core).debugStopped ∧ s.debugMayStop a.core then
          let images := allStrands.map (fun i => (s.strand a.core i).ctxbase)
          let s1 := s.orDiscard a.core (s.saveSlot a.core images true)
          (s1.modCore a.core (fun k => { k with debugStopped := true })).settleDebug l
        else s
      | none => s)

end Sys2Proof.Machine
end

