-- ==== Sys2Proof/Machine/Control.lean ====
section
/-! DEFINITION. The executive's control queue and the commands it gives the launch unit (R341), with the shootdowns,
pre-emption requests, debug stops, counter replies, engine replies and tenant keys that they start (R234, R250, R336,
R337, R359, R374). -/

namespace Sys2Proof.Machine

/-! ## The queue -/

/-- The location of the control queue's block. -/
def State.ctlLoc (s : State) : Nat := s.ctlq % 2 ^ 42

/-- The control queue's producer and consumer index. -/
def State.ctlPi (s : State) : Nat := s.readNat .device (s.ctlLoc + 0x10) 4
def State.ctlCi (s : State) : Nat := s.readNat .device (s.ctlLoc + 0x14) 4

/-- R341: does the launch unit have an entry to execute? -/
def State.ctlPending (s : State) : Bool := s.ctlPi != s.ctlCi

/-- R341: the location of the entry at CI. -/
def State.ctlEntry (s : State) : Nat :=
  s.readNat .device s.ctlLoc 8 % 2 ^ 42 + 64 * (s.ctlCi % 2 ^ s.readNat .device (s.ctlLoc + 8) 1)

/-- R341: the current entry completes: STATUS is written, then CI advances with a release at system scope. -/
def State.complete (s : State) (status : Nat) : State :=
  if s.ctlPending then
    let ci := s.ctlCi
    let s1 := s.commitSystem (cellsAt (s.ctlEntry + 4) (leBytes 4 status))
    s1.commitSystem (cellsAt (s.ctlLoc + 0x14) (leBytes 4 ((ci + 1) % 2 ^ 32)))
  else s

/-- R341: the statuses of a control-queue entry. -/
def statusDone : Nat := 0
def statusUnknown : Nat := 1
def statusBad : Nat := 2
def statusRefused : Nat := 3

/-- R341: does an entry name a logical device and a virtual function that there are? -/
def entryNamed (e : CtlArgs) : Bool := e.ld.toNat < 16 && e.vf.toNat < 64

/-- R341: an entry is executed: a bad operand changes nothing. -/
def State.command (s : State) (e : CtlArgs) (ok : Bool) (f : State → State) : State :=
  if entryNamed e && ok then (f s).complete statusDone else s.complete statusBad

/-! ## What the executive sets -/

/-- R78, R341: SET_WEIGHT. -/
def execSetWeight (e : CtlArgs) (s : State) : Host.Outcome State Fault Refusal :=
  .next (s.command e (e.a0.toNat < 256) (fun s => s.modLd e.ld.toNat (fun d => { d with weight := max 1 e.a0.toNat })))

/-- The cluster mask of SET_PARTITION. -/
def clusterMaskOf (e : CtlArgs) : BitVec 256 := e.a4 ++ (e.a3 ++ (e.a2 ++ e.a1))

/-- R341: SET_PARTITION. -/
def execSetPartition (e : CtlArgs) (s : State) : Host.Outcome State Fault Refusal :=
  .next (s.command e (s.chipExists e.a0.toNat) (fun s =>
    s.modLd e.ld.toNat (fun d => { d with partition := mapSet 0 d.partition e.a0.toNat (clusterMaskOf e) })))

/-- R95, R341: SET_TRUST. -/
def execSetTrust (e : CtlArgs) (s : State) : Host.Outcome State Fault Refusal :=
  .next (s.command e (e.a0.toNat % 64 == 0) (fun s => { s with trust := some (e.a0.toNat % 2 ^ 42) }))

/-- R99: is a number a power of two? -/
def powerOfTwo (n : Nat) : Bool := (List.range 64).any (fun i => n == 2 ^ i)

/-- R99, R341: SET_MODSTORE. -/
def execSetModstore (e : CtlArgs) (s : State) : Host.Outcome State Fault Refusal :=
  .next (s.command e (powerOfTwo e.a1.toNat) (fun s => { s with modStore := e.a0.toNat, nslot := e.a1.toNat }))

/-- R216, R341: SET_SPAD. -/
def execSetSpad (e : CtlArgs) (s : State) : Host.Outcome State Fault Refusal :=
  .next (s.command e (e.a0.toNat % 4096 == 0 && e.a1.toNat % 4096 == 0 && e.a0.toNat + e.a1.toNat ≤ 2 ^ 28)
    (fun s => s.modLd e.ld.toNat (fun d => { d with spadOff := e.a0.toNat, spadLen := e.a1.toNat })))

/-- R305, R341: SET_RAMAP. -/
def execSetRamap (e : CtlArgs) (s : State) : Host.Outcome State Fault Refusal :=
  .next (s.command e true (fun s => s.modLd e.ld.toNat (fun d => { d with ramap := e.a0.toNat % 2 ^ 42 })))

/-- R341, R347: SET_WINDOW. -/
def execSetWindow (e : CtlArgs) (s : State) : Host.Outcome State Fault Refusal :=
  .next (s.command e true (fun s =>
    s.modLd e.ld.toNat (fun d => { d with window := e.a0.toNat % 2 ^ 42, windowInvalid := false })))

/-- R341, R343: SET_QUEUES. -/
def execSetQueues (e : CtlArgs) (s : State) : Host.Outcome State Fault Refusal :=
  .next (s.command e (1 ≤ e.a1.toNat && e.a1.toNat ≤ 16) (fun s =>
    s.modLd e.ld.toNat (fun d => { d with queues := e.a0.toNat % 2 ^ 42, nqueues := e.a1.toNat })))

/-- R45, R341: SET_CDLIM. -/
def execSetCdlim (e : CtlArgs) (s : State) : Host.Outcome State Fault Refusal :=
  .next (s.command e (e.a0.toNat < 256) (fun s =>
    s.modCluster e.a0.toNat (fun k => { k with cdlim := cdlimAfter e.a1 })))

/-- R336, R341: PREEMPT. -/
def execPreempt (e : CtlArgs) (s : State) : Host.Outcome State Fault Refusal :=
  .next (s.command e (e.a0.toNat < 4096) (fun s =>
    (allStrands.filter (fun i => e.a1.getLsbD i)).foldl (fun s i => s.raise e.a0.toNat i 18) s))

/-! ## Debug stops (R337) -/

/-- The active launch that an entry names. -/
def State.namedLaunch (s : State) (e : CtlArgs) : Option Launch :=
  if e.a0.toNat < 2 ^ 32 then (s.launch (s.ownKey (e.a0.setWidth 32))).filter (·.active) else none

/-- R337: a debug stop of a launch is requested or withdrawn; withdrawing it lets its cores issue again. -/
def State.setDebug (s : State) (l : Launch) (stop : Bool) : State :=
  let s1 := s.setLaunch { l with debugStop := stop, stoppedChips := [] }
  if stop then s1
  else (s1.heldCores l).foldl (fun s c => s.modCore c (fun k => { k with debugStopped := false })) s1

/-- R337, R341: an entry that requests or withdraws a debug stop: this chip's, which its launch unit passes on to the other
claimed chips; or that of another chip, whose launch unit has passed it on here (DESIGN CHOICE, log entry 89). -/
def State.debugCommand (s : State) (issuer : Option Nat) (e : CtlArgs) (stop : Bool) : State :=
  match issuer with
  | some chip =>
    match s.launch { issuer := chip, lid := e.a0.setWidth 32 } with
    | some l => if l.active && chip != s.chipNumber then s.controlLane.setDebug l stop else s
    | none => s
  | none =>
    match s.namedLaunch e with
    | some l => s.command e true (fun s => (s.tellChips l lmDebug (if stop then 1 else 0)).setDebug l stop)
    | none => s.complete statusBad

/-- R337, R341: DEBUG_STOP. -/
def execDebugStop (e : DebugEntry) (s : State) : Host.Outcome State Fault Refusal :=
  .next (s.debugCommand e.issuer e.entry true)

/-- R337, R341: DEBUG_RESUME. -/
def execDebugResume (e : DebugEntry) (s : State) : Host.Outcome State Fault Refusal :=
  .next (s.debugCommand e.issuer e.entry false)

/-! ## Shootdowns (R234) -/

/-- R234: is a TLB entry among those that a shootdown names? -/
def Shootdown.covers (d : Shootdown) (e : TlbEntry) : Bool :=
  let first := e.vpn * 2 ^ e.sizeBits
  let base := field d.base 0 48
  let meets := fun (a : Nat) => a < base + d.length.toNat && base < a + 2 ^ e.sizeBits
  e.vf == d.vf &&
    (match d.asid with
    | none => true
    | some n => e.global || e.asid == n) &&
    (d.length == 0 || meets first || meets (first + 2 ^ 48))

/-- R234: a target core invalidates its matching entries and those of its bench. -/
def State.invalidate (s : State) (d : Shootdown) (c : Nat) : State :=
  let keep := fun (e : TlbEntry) => !d.covers e
  (s.modCore c (fun k => { k with tlb := k.tlb.filter keep })).modBench (benchOf c)
    (fun b => { b with tlb := b.tlb.filter keep, pipeTlb := b.pipeTlb.filter keep })

/-- R234: every store of a core's store buffers drains. -/
def State.drainCore (s : State) (c : Nat) : State := allStrands.foldl (fun s i => s.drainAll c i) s

/-- R233, R234: the requests in the egress queues of a core are marked as translated before an invalidation. -/
def State.markEarly (s : State) (c : Nat) : State :=
  let s1 := s.modCore c (fun k =>
    { k with
      strands := k.strands.map (fun t =>
        { t with
          storeBuf := t.storeBuf.map (fun w => { w with early := true })
          pending := t.pending.map (fun p => { p with early := true }) })
      combining := k.combining.map (fun e => { e with early := true })
      journal := k.journal.map (fun e => (e.1, { e.2 with early := true }))
      mqueue := k.mqueue.map (fun e => { e with early := !e.locs.isEmpty }) })
  s1.modBench (benchOf c) (fun b =>
    { b with chains := b.chains.map (fun k =>
        if k.core = c then { k with moving := k.moving.map (fun m => { m with early := true }) } else k) })

/-- R233, R234: has every request of a core that was marked as translated before an invalidation reached its destination? -/
def State.egressEmpty (s : State) (c : Nat) : Bool :=
  let k := s.core c
  k.strands.toList.all (fun t =>
      t.storeBuf.all (fun w => !w.early) && t.pending.all (fun p => p.todo.isEmpty || !p.early)) &&
    k.combining.all (fun e => !e.early) && k.journal.all (fun e => e.2.state != .posted || !e.2.early) &&
    k.mqueue.all (fun e => e.locs.isEmpty || !e.early) &&
    (s.bench (benchOf c)).chains.all (fun h => h.core != c || h.moving.all (fun m => m.todo.isEmpty || !m.early))

/-- R341: the 4,096-bit core mask at a location. -/
def State.coreMask (s : State) (loc : Nat) : BitVec 4096 := BitVec.ofNat 4096 (s.readNat .device loc 512)

/-- The cores that a mask names. -/
def coresOfMask (m : BitVec 4096) : List Nat := (List.range 4096).filter (fun c => m.getLsbD c)

/-- R341: the chips of the pod that the 1,024-bit mask at a location names. -/
def State.chipMask (s : State) (loc : Nat) : List Nat :=
  let m := s.readNat .device loc 128
  (List.range 1024).filter (fun c => m.testBit c && s.chipExists c)

/-- R234, R341: the shootdown that an entry of a chip's control queue describes. -/
def shootdownOf (e : CtlArgs) (issuer : Nat) (targets : List Nat) (others : List (Nat × Nat)) : Shootdown :=
  { vf := e.vf.setWidth 6, asid := if e.a0.toNat = 2 ^ 16 then none else some (e.a0.setWidth 16), base := e.a1,
    length := e.a2, issuer := issuer, waiting := targets, others := others }

/-- R234: the targets of a shootdown here invalidate at once. -/
def State.shoot (s : State) (d : Shootdown) : State := d.waiting.foldl (fun s c => (s.invalidate d c).markEarly c) s

/-- R234: the shootdown started here has been acknowledged by every target. -/
def State.settleShootdown (s : State) : State :=
  match s.shootdown with
  | some d =>
    if d.waiting.isEmpty && d.others.isEmpty then ({ s with shootdown := none } : State).complete statusDone else s
  | none => s

/-- R234, R341: SHOOTDOWN. Its targets here invalidate at once, and the entry completes when every target on every chip has
acknowledged. `a.issuer` names another chip whose launch unit executes the entry, and the mask of its target cores: how it asks
this chip, and is answered, is not given (DESIGN CHOICE, log entry 144). -/
def execShootdown (a : ShootdownEntry) (s : State) : Host.Outcome State Fault Refusal :=
  let e := a.entry
  .next (
    match a.issuer with
    | some (chip, mask) =>
      if entryNamed e && e.a0.toNat ≤ 2 ^ 16 && chip != s.chipNumber then
        let d := shootdownOf e chip (coresOfMask mask) []
        { (s.controlLane.shoot d) with
          foreignShootdowns := s.foreignShootdowns ++ (if d.waiting.isEmpty then [] else [d]) }
      else s
    | none =>
      if entryNamed e && e.a0.toNat ≤ 2 ^ 16 then
        let mask := s.coreMask (e.a3.toNat % 2 ^ 42)
        let cores := coresOfMask mask
        let chips := s.chipMask (e.a4.toNat % 2 ^ 42)
        let others := chips.filter (· ≠ s.chipNumber)
        let d := shootdownOf e s.chipNumber (if chips.contains s.chipNumber then cores else [])
          (others.flatMap (fun ch => cores.map (fun c => (ch, c))))
        let s1 := others.foldl (fun s ch => s.send (.shootdown ch e mask)) (s.shoot d)
        ({ s1 with shootdown := some d } : State).settleShootdown
      else s.complete statusBad)

/-- R234: a core here acknowledges every shootdown for which it is a target: to this chip's launch unit, or to another's. -/
def State.acknowledge (s : State) (c : Nat) : State :=
  let asked := s.foreignShootdowns.filter (fun d => d.waiting.contains c)
  let less := fun (d : Shootdown) => { d with waiting := d.waiting.filter (· ≠ c) }
  let s1 : State := { s with
    shootdown := s.shootdown.map less
    foreignShootdowns := (s.foreignShootdowns.map less).filter (fun d => !d.waiting.isEmpty) }
  (asked.foldl (fun s d => s.send (.shootdownAck d.issuer c)) s1).settleShootdown

/-- R234: a target acknowledges: a core here, once the requests in its egress queues that were translated before the
invalidation have reached their destinations; or a core of another chip, whose acknowledgement arrives. -/
def execShootdownAck (c : ChipCore) (s : State) : Host.Outcome State Fault Refusal :=
  .next (
    if c.chip = s.chipNumber then if s.egressEmpty c.core then s.acknowledge c.core else s
    else
      ({ s.controlLane with shootdown := s.shootdown.map (fun d =>
          { d with others := d.others.filter (· ≠ (c.chip, c.core)) }) } : State).settleShootdown)

/-! ## Replies to what waits -/

/-- R359, R341: COUNTER_REPLY. -/
def execCounterReply (e : CtlArgs) (s : State) : Host.Outcome State Fault Refusal :=
  let parked := match (s.strand e.a0.toNat e.a1.toNat).park with
    | some (.counterReply _ _ _ _ _) => true
    | _ => false
  .next (
    if entryNamed e && e.a0.toNat < 4096 && e.a1.toNat < 11 && parked then
      match s.settleCounter e.a0.toNat e.a1.toNat e.a3.toNat e.a2 with
      | some s1 => s1.complete statusDone
      | none => s.complete statusBad
    else s.complete statusBad)

/-- R250, R341: ENGINE_REPLY. -/
def execEngineReply (e : CtlArgs) (s : State) : Host.Outcome State Fault Refusal :=
  let b := e.a0.toNat
  .next (match (s.bench b).chain (e.a1.setWidth 32) with
    | some k =>
      if entryNamed e && b < 1024 && e.a1.toNat < 2 ^ 32 && k.phase.isFaulted && e.a2.toNat < 2 then
        (if e.a2 = 0 then s.setChain b { k with phase := .waiting }
          else s.endChain b k (chainStatus ePage k.next 0 0)).complete statusDone
      else s.complete statusBad
    | none => s.complete statusBad)

/-- R341: an entry with an unknown OP. -/
def execControlUnknownOp (_e : CtlArgs) (s : State) : Host.Outcome State Fault Refusal :=
  .next (s.complete statusUnknown)

/-! ## Tenant keys (R373, R374) -/

/-- R374: does a tenant key record break its layout? -/
def keyRecordBad (r : List Byte) : Bool :=
  let ld := recNat r 2 1
  !(1 ≤ recNat r 0 2 && recNat r 0 2 < 128) || 15 < ld || recNat r 3 1 / 4 != ld || nonzero r 4 28 || nonzero r 0x4A8 88

/-- R374: the security core's answer to a key record: the key installed, or refused. -/
def State.installKey (s : State) (r : List Byte) : Option State :=
  let slot := recNat r 0 2
  let ld := BitVec.ofNat 4 (recNat r 2 1)
  let foreign := match mapFind s.security.keys slot with
    | some k => k.owner != some ld
    | none => false
  if keyRecordBad r || foreign then none
  else
    (unwrapKey r).map (fun key =>
      { s with security := { s.security with
          keysLoaded := s.security.keysLoaded + 1
          keys := mapPut s.security.keys slot
            { key := key, serial := s.security.keysLoaded + 1, owner := some ld, vf := BitVec.ofNat 6 (recNat r 3 1) } } })

/-- R341, R374: LOAD_KEY. -/
def execLoadKey (e : CtlArgs) (s : State) : Host.Outcome State Fault Refusal :=
  let loc := e.a0.toNat % 2 ^ 42
  .next (
    if entryNamed e && loc % 256 == 0 && (s.paLoc 0 e.a0.toNat == some loc) && isDevice (loc + 1279) then
      match s.installKey (s.readBytes .device loc 1280) with
      | some s1 => s1.complete statusDone
      | none => s.complete statusRefused
    else s.complete statusBad)

end Sys2Proof.Machine
end

