-- ==== Sys2Proof/Machine/Events.lean ====
section
/-! DEFINITION. The steps of the ordering machine, of the walkers, of the counters and of error correction, and the
interrupts that arrive (R106, R229, R232, R264, R327, R330, R336, R354, R359, R360). -/

namespace Sys2Proof.Machine

/-! ## The ordering machine (R264) -/

/-- R264: the head of a store buffer drains. -/
def execDrain (core strand : Nat) (s : State) : Host.Outcome State Fault Refusal := .next (s.drainOne core strand)

/-- R225, R264: a line leaves a core's L1, or the L2 of its die, and its stores there rise one level. -/
def execEvict (core line : Nat) (s : State) : Host.Outcome State Fault Refusal := .next (s.evictStep core line)

/-- R264: a store at reach H takes reach S. -/
def execHostWriteBack (index : Nat) (s : State) : Host.Outcome State Fault Refusal := .next (s.hostWriteBack index)

/-- R244, R264: does an outstanding load or atomic that was issued earlier come before another one at these bytes? Unpaired
atomics have no order, and commutative ones none among themselves. -/
def Pending.before (p : Pending) (w : Option AtomicWork) (locs : List Nat) : Bool :=
  let use := p.atomic.map (·.use)
  let mine := w.map (·.use)
  use != some 2#2 && mine != some 2#2 && !(use == some 1#2 && mine == some 1#2) &&
    p.todo.any (fun q => q.2.any (fun l => locs.contains l))

/-- R264, R268: may a part of an outstanding load or atomic perform: has every earlier one to its bytes performed, does no
unit own one of its lines (R269), is none of its bytes poisoned (R229), and, for an atomic that is ordered, does the strand
buffer no store to its bytes, and does no engine still read them (R248)? -/
def State.mayPerform (s : State) (c i index : Nat) (p : Pending) (locs : List Nat) : Bool :=
  let t := s.strand c i
  (t.pending.take index).all (fun q => !q.before p.atomic locs) && (s.ownedLine locs).isNone && !s.poisonedAt locs &&
    (match p.atomic with
    | some w => (w.use == 2#2 || !t.buffers locs) && !s.sourceHeld c i locs
    | none => true)

/-- The bytes of a result with some of them replaced from place `at` on. -/
def placeBytes (got : List Byte) (pos : Nat) (bs : List Byte) : List Byte :=
  got.take pos ++ bs ++ got.drop (pos + bs.length)

/-- R264, R268: a part of an outstanding load performs, or an outstanding atomic takes effect: the state, and the bytes
read. -/
def State.performPart (s : State) (c i : Nat) (p : Pending) (locs : List Nat) : State × List Byte :=
  match p.atomic with
  | some w => s.atomicEffect c w locs
  | none => (s.useCache (.core c) (s.core c).vfNow none (deviceLines locs), locs.map (s.readByte (.strand c i)))

/-- R264, R268: a part of an outstanding load performs, or an outstanding atomic takes effect. -/
def execPerformLoad (core strand index part : Nat) (s : State) : Host.Outcome State Fault Refusal :=
  .next (match (s.strand core strand).pending[index]? with
    | some p =>
      match p.todo[part]? with
      | some q =>
        if s.mayPerform core strand index p q.2 then
          let r := s.performPart core strand p q.2
          r.1.modStrand core strand (fun t =>
            { t with pending := t.pending.set index { p with todo := p.todo.eraseIdx part, got := placeBytes p.got q.1 r.2 } })
        else s
      | none => s
    | none => s)

/-- R106: an outstanding result whose parts have all performed arrives. -/
def execResultArrival (core strand index : Nat) (s : State) : Host.Outcome State Fault Refusal :=
  .next (match (s.strand core strand).pending[index]? with
    | some p =>
      if p.todo.isEmpty && !p.queued then
        s.modStrand core strand (fun t =>
          { (t.result p.dst p.bits p.signed p.got) with pending := t.pending.eraseIdx index })
      else s
    | none => s)

/-! ## Page walks (R232) -/

/-- R232: the walkers of a die. -/
def walkersPerDie : Nat := 64

/-- R232: has the walk of a strand a walker of its die? The others wait in the order in which they arrived. -/
def State.hasWalker (s : State) (c i : Nat) : Bool :=
  ((s.liveWalks.filter (fun w => dieOf w.1 == dieOf c)).take walkersPerDie).contains (c, i)

/-- R232, R258: the walk for which a strand waits completes: the TLBs are filled; or it fails, and the strand finds that as its
instruction checks all its addresses, in the order of its faults. -/
def execPageWalk (core strand : Nat) (va : BitVec 64) (store : Bool) (s : State) : Host.Outcome State Fault Refusal :=
  let a : Access := if store then .store else .load
  .next (
    if (s.strand core strand).park = some (.walk va store) ∧ s.hasWalker core strand then
      match s.physical (s.xctx core strand) a va with
      | .ok (s1, _) => s1.modStrand core strand (fun t => { t with park := none })
      | .error _ => s.modStrand core strand (fun t => { t with park := none, failedWalks := va :: t.failedWalks })
    else s)

/-! ## Error correction (R229) -/

/-- R353: the cores in whose L1 or scratchpad a location lies. -/
def State.coresAt (s : State) (loc : Nat) : List Nat :=
  if isCoreScratch loc then [(loc - 2 ^ 44) / 2 ^ 18]
  else if isDevice loc then s.l1Holders (lineNo loc)
  else []

/-- R229: has an outstanding load, or a queued vector entry, still to read the byte? An error is found as it reads, before its
instruction has retired, or does not stand when it does (DEDUCED, log entry 145). -/
def State.stillRead (s : State) (loc : Nat) : Bool :=
  if isRegCache loc then
    let n := (loc - regLoc 0 0 0 0) / 8192
    !s.vectorIdle (n / 11) (n % 11) || !(s.matrixEntries (n / 11) (n % 11)).isEmpty
  else
    s.cores.any (fun k => k.2.strands.toList.any (fun t =>
      t.pending.any (fun p => p.todo.any (fun q => q.2.any (fun l => sectorNo l == sectorNo loc)))))

/-- R229: the data at a location is marked poisoned. -/
def State.poison (s : State) (loc : Nat) : State :=
  if isRegCache loc then
    let n := (loc - regLoc 0 0 0 0) / 256
    s.modStrand (n / 32 / 11) (n / 32 % 11) (fun t => { t with vPoison := t.vPoison ||| (1#32 <<< (n % 32)) })
  else s.poisonSectors [loc]

/-- R225, R229: a clean cache line is dropped, and fetched again from the level below. -/
def State.refetch (s : State) (loc : Nat) : State :=
  (s.l1Holders (lineNo loc)).foldl (fun s c =>
    ({ s with l1 := s.l1.filter (fun x => !(x.core == c && x.line == lineNo loc)) } : State).useCache (.core c)
      (s.core c).vfNow none [lineNo loc]) s

/-- R229: an error: a single-bit one is corrected, a double-bit one drops a clean line or poisons the data. -/
def execEccError (double dirty : Bool) (loc : Nat) (s : State) : Host.Outcome State Fault Refusal :=
  let cs := s.coresAt loc
  let poisons := dirty || isScratch loc || isShelf loc || isRegCache loc
  .next (
    if !double then s.countAll cs evEccSingle 1
    else if poisons && s.stillRead loc then s
    else (if poisons then s.poison loc else s.refetch loc).countAll cs evEccDouble 1)

/-! ## Counters (R354, R359) -/

/-- R354: a counter whose event occurs and counts at its core wraps from 2^48 − 1 to 0. -/
def execCounterOverflow (core : Nat) (i : BitVec 2) (s : State) : Host.Outcome State Fault Refusal :=
  let e := field ((s.core core).evsel[i.toNat]?.getD 0) 0 8
  .next (
    if (s.core core).evcnt[i.toNat]?.getD 0 = BitVec.allOnes 48 ∧ isEvent e ∧ s.runsWorld core ∧ s.eventCounts core e then
      s.advanceCounter core i.toNat 1
    else s)

/-- R359: a parked counter access whose record found the fault queue full is offered again, every 1,024 ticks. -/
def State.retryRecord (s : State) (c i : Nat) : State :=
  match (s.strand c i).park with
  | some (.counterReply a op v tick (some t)) =>
    if (s.tick - t).toNat < 1024 then s
    else
      let r := s.postFault (s.core c).ld.toNat (s.counterRecord c i a op v tick)
      r.1.modStrand c i (fun x => { x with park := some (.counterReply a op v tick (if r.2 then none else some s.tick)) })
  | _ => s

/-- R359: the records of every core that are due are offered. -/
def State.retryRecords (s : State) : State :=
  s.listedCores.foldl (fun s c => allStrands.foldl (fun s i => s.retryRecord c i) s) s

/-- R359: the records of a core that are due are offered. -/
def execCounterRecordRetry (core : Nat) (s : State) : Host.Outcome State Fault Refusal :=
  .next (allStrands.foldl (fun s i => s.retryRecord core i) s)

/-! ## Interrupts -/

/-- R327: a timer interrupt of the supervisor or of machine mode arrives, and is taken at once where the strand may. -/
def execTimerInterrupt (core strand : Nat) (machine : Bool) (s : State) : Host.Outcome State Fault Refusal :=
  .next ((s.raise core strand (if machine then 7 else 5)).interruptNow core strand)

/-- R327: the executive's external interrupt arrives. -/
def execExternalInterrupt (core strand : Nat) (s : State) : Host.Outcome State Fault Refusal :=
  .next ((s.raise core strand 9).interruptNow core strand)

/-- R360: a pending overflow is delivered to the control strand. -/
def execCounterOverflowInterrupt (core : Nat) (s : State) : Host.Outcome State Fault Refusal :=
  .next (s.interruptNow core 0)

/-- R330: a refused journal entry is delivered to its strand. -/
def execRemoteRefusalInterrupt (core : Nat) (index : BitVec 6) (s : State) : Host.Outcome State Fault Refusal :=
  .next (match mapFind (s.core core).journal index.toNat with
    | some e => s.interruptNow core ((s.core core).refusalTarget e)
    | none => s)

/-- R336: a pre-emption request that is pending is taken. -/
def execPreemptionRequest (core strand : Nat) (s : State) : Host.Outcome State Fault Refusal :=
  .next (s.interruptNow core strand)

end Sys2Proof.Machine
end

