-- ==== Sys2Proof/Machine/Remote.lean ====
section
/-! DEFINITION. Remote loads, remote stores and group stores; the combining buffer, the journal, and the messages that
carry them (R257, R271-R274, R305-R311, R318, R321). A request to the chip's own address takes its steps at once. -/

namespace Sys2Proof.Machine

/-! ## Addresses -/

/-- R230, R311: is the local part of a pod physical address in a host window? -/
def inHostWindow (pa : Nat) : Bool := hostWindowBase ≤ pa % 2 ^ 42

/-- R308, R309, R321: the pod physical address of `n` bytes in one line. -/
def State.remoteAddress (s : State) (a : Access) (va : Word) (n : Nat) : Except Stop (State × Nat) :=
  let x := s.xctx s.here s.cur
  match s.walkNeeded x va n with
  | some v => .error (.wait (.walk v (a == .store)) s)
  | none =>
    match s.podAddress x a va n with
    | .error f => .error (f.stop a s)
    | .ok (s1, pa) => if inHostWindow pa then .error (noAccess a va s) else .ok (s1, pa)

/-! ## Receive queues (R306) -/

/-- R306: the entry that a reply puts into a receive queue. -/
def rxEntry (data : List Byte) (tag : BitVec 16) (len reason : Nat) : Line :=
  lineOf ((data ++ List.replicate 256 0).take 248 ++ leBytes 2 tag.toNat ++ leBytes 1 len ++ leBytes 1 reason)

/-- An entry joins receive queue `q` of a core. -/
def State.fillRx (s : State) (c q : Nat) (l : Line) : State :=
  s.modCore c (fun k =>
    { k with rx := k.rx.setIfInBounds q { k.receive q with entries := (k.receive q).entries ++ [l] } })

/-- R305, R308: what a read at the home gives: the bytes, or the reason of its refusal. -/
def State.remoteRead (s : State) (src ld pa n : Nat) : List Byte × Nat :=
  let loc := pa % 2 ^ 42
  match s.refuses src ld pa n with
  | some r => (List.replicate n 0, r)
  | none =>
    if s.poisonedAt ((List.range n).map (loc + ·)) then (List.replicate n 0, reasonPoisoned)
    else (s.readBytes .device loc n, 0)

/-! ## The combining buffer (R271, R309) -/

/-- R309: the size of a core's combining buffer. -/
def combiningSize : Nat := 16

/-- The bytes of an entry, as locations of the pod. -/
def Combining.cells (e : Combining) : List (Nat × Byte) := cellsAt e.paddr e.data

/-- R309: does a store merge into an entry? -/
def Combining.merges (e n : Combining) : Bool :=
  e.paddr / 256 == n.paddr / 256 && e.cnt == 0 && n.cnt == 0 && e.strand == n.strand && e.group == n.group &&
    n.paddr ≤ e.paddr + e.data.length && e.paddr ≤ n.paddr + n.data.length

/-- R309: an entry with a store merged into it; later bytes win. -/
def Combining.merge (e n : Combining) : Combining :=
  let lo := min e.paddr n.paddr
  let hi := max (e.paddr + e.data.length) (n.paddr + n.data.length)
  let at' := fun (a : Nat) => ((cellAt n.cells a).or (cellAt e.cells a)).getD 0
  { e with paddr := lo, data := (List.range (hi - lo)).map (fun i => at' (lo + i)) }

/-- R309: a store enters the combining buffer: into the tail entry, or as a new one. -/
def Core.enqueue (k : Core) (n : Combining) : Core :=
  match k.combining.getLast? with
  | some e =>
    if e.merges n then { k with combining := k.combining.dropLast ++ [e.merge n] }
    else { k with combining := k.combining ++ [n] }
  | none => { k with combining := [n] }

/-- R309: would a store find the buffer full: no room, and no tail entry that takes it. -/
def Core.combiningFull (k : Core) : Bool := combiningSize ≤ k.combining.length

/-! ## Replies (R310, R318) -/

/-- R257, R310: a waiting jrnl selector 1 of the core sees an entry acknowledged, or refused. -/
def Park.settled (n : Nat) (refused : Bool) : Park → Park
  | .journalMask m r =>
    if m.getLsbD n then .journalMask (m &&& ~~~(1#64 <<< n)) (if refused then r + 1 else r) else .journalMask m r
  | p => p

/-- The journal of a core with entry `n` settled. -/
def State.settleEntry (s : State) (c n : Nat) (refused : Bool) (f : SMap JEntry → SMap JEntry) : State :=
  s.modCore c (fun k =>
    { k with
      journal := f k.journal
      strands := k.strands.map (fun t => { t with park := t.park.map (Park.settled n refused) }) })

/-- R310, R318: entry `n` of a core's journal is acknowledged. -/
def State.ackEntry (s : State) (c n : Nat) : State :=
  match mapFind (s.core c).journal n with
  | none => s
  | some e =>
    let s1 := s.settleEntry c n false (fun j => mapErase j n)
    match e.group with
    | some g => (s1.trySettleAbort (groupLocal g)).tryFinishAll
    | none =>
      if e.cnt = 0 then s1
      else
        s1.arrive { source := 3, core := c, strand := e.strand, addr := e.cnt, ld := (s.core c).ld.toNat } e.cntLoc e.gen
          none

/-- R310, R318, R338: entry `n` of a core's journal is refused with a reason: a gst's is freed and its group told, a
discarded launch's is freed, any other is REFUSED. -/
def State.refuseEntry (s : State) (c n : Nat) (reason : BitVec 8) : State :=
  match mapFind (s.core c).journal n with
  | none => s
  | some e =>
    match e.group with
    | some g => ((s.settleEntry c n false (fun j => mapErase j n)).groupRefused (groupLocal g) reason).tryFinishAll
    | none =>
      if e.delivered then s.settleEntry c n true (fun j => mapErase j n)
      else s.settleEntry c n true (fun j => mapPut j n { e with state := .refused, reason := reason })

/-! ## Departing (R271) -/

/-- The lowest free entry of a core's journal. -/
def Core.freeEntry (k : Core) : Option Nat := (List.range 64).find? (fun n => (mapFind k.journal n).isNone)

/-- R316: a gst of a group departs to a chip. -/
def State.countGst (s : State) (l chip : Nat) : State :=
  match s.group l with
  | none => s
  | some g =>
    let dests :=
      if g.dests.any (fun d => d.1 == chip) then g.dests.map (fun d => if d.1 = chip then (d.1, d.2 + 1) else d)
      else g.dests ++ [(chip, 1)]
    s.setGroup l { g with dests := dests }

/-- R271, R305, R310: an entry that has taken journal entry `n` goes to its destination. -/
def State.carry (s : State) (c n : Nat) (e : Combining) : State :=
  let chip := e.paddr / 2 ^ 42
  let ld := (s.core c).ld.toNat
  if chip = s.chipNumber then
    match e.group with
    | some g =>
      match s.stageGst chip ld e.paddr g e.data with
      | (s1, none) => s1.ackEntry c n
      | (s1, some r) => s1.refuseEntry c n (BitVec.ofNat 8 r)
    | none =>
      match s.refuses chip ld e.paddr e.data.length with
      | some r => s.refuseEntry c n (BitVec.ofNat 8 r)
      | none => (s.commitHome (cellsAt (e.paddr % 2 ^ 42) e.data)).ackEntry c n
  else if s.linkRefused chip then s.refuseEntry c n (BitVec.ofNat 8 reasonLink)
  else
    s.sendMsg
      { kind := if e.group.isSome then kindGst else kindRst, sched := false, chip := s.chipNumber, ld := ld, dst := chip,
        len := e.data.length, addr := e.paddr, core := c, strand := e.strand, index := n, tag := 0,
        aux := (e.group.map (·.toNat)).getD 0, payload := e.data }

/-- R271: the head entry of a core's combining buffer departs when a journal entry is free. -/
def State.departHead (s : State) (c : Nat) : State :=
  match (s.core c).combining, (s.core c).freeEntry with
  | e :: es, some n =>
    let gen := if e.cnt = 0 then 0 else s.coGen e.cntLoc
    let j : JEntry :=
      { state := .posted, paddr := e.paddr, len := e.data.length, reason := 0, strand := e.strand, tick := s.tick,
        cnt := e.cnt, cntLoc := e.cntLoc, gen := gen, group := e.group, delivered := false, early := e.early }
    let s1 := s.modCore c (fun k => { k with combining := es, journal := mapPut k.journal n j })
    match e.group with
    | some g =>
      let chip := e.paddr / 2 ^ 42
      let s2 := if chip ≠ s.chipNumber ∧ s.linkRefused chip then s1 else s1.countGst (groupLocal g) chip
      ((s2.carry c n e).tryPrepare (groupLocal g)).tryAbort (groupLocal g)
    | none => s1.carry c n e
  | _, _ => s

/-- R271: the departure step. -/
def execDepart (core : Nat) (s : State) : Host.Outcome State Fault Refusal := .next (s.departHead core)

/-- Outside the deferred mode the combining buffer departs at once, as far as the journal has room. -/
def State.departAll (s : State) (c : Nat) : Nat → State
  | 0 => s
  | n + 1 => if s.deferred then s else (s.departHead c).departAll c n

/-! ## rld (R272, R308) -/

/-- R272: the youngest entry of the buffer that shares a byte with a range. -/
def Core.meets (k : Core) (pa n : Nat) : Option Combining :=
  k.combining.reverse.find? (fun e => decide (e.paddr < pa + n ∧ pa < e.paddr + e.data.length))

/-- R272: the reply that an entry serves, when it covers the bytes and is no gst. -/
def Combining.serves (e : Combining) (pa n : Nat) : Option (List Byte) :=
  if e.group.isNone ∧ e.paddr ≤ pa ∧ pa + n ≤ e.paddr + e.data.length then some ((e.data.drop (pa - e.paddr)).take n)
  else none

/-- R308: the reserved slot of a request to another chip, and its message. -/
def State.sendRld (s : State) (q : Nat) (pa n : Nat) (tag : BitVec 16) : State :=
  let chip := pa / 2 ^ 42
  let s1 := s.modMyCore (fun k =>
    { k with rx := k.rx.setIfInBounds q { k.receive q with
        reserved := (k.receive q).reserved ++ [{ chip := chip, addr := pa, tag := tag, len := n, cancelled := false }] } })
  s1.sendMsg
    { kind := kindRld, sched := false, chip := s.chipNumber, ld := s.myCore.ld.toNat, dst := chip, len := n, addr := pa,
      core := s.here, strand := s.cur, index := q, tag := tag.toNat, aux := 0, payload := List.replicate n 0 }

/-- R272, R308: a remote load of `n` bytes at `pa` into receive queue `q`. -/
def State.issueRld (s : State) (q pa n : Nat) (tag : BitVec 16) : Except Stop State :=
  let chip := pa / 2 ^ 42
  match s.myCore.meets pa n with
  | some e =>
    match e.serves pa n with
    | some bytes => .ok (s.fillRx s.here q (rxEntry bytes tag n 0))
    | none => .error (.wait .combining s)
  | none =>
    if chip = s.chipNumber then
      let r := s.remoteRead chip s.myCore.ld.toNat pa n
      .ok (s.fillRx s.here q (rxEntry r.1 tag n r.2))
    else if s.linkRefused chip then .ok (s.fillRx s.here q (rxEntry (List.replicate n 0) tag n reasonLink))
    else .ok (s.sendRld q pa n tag)

/-- R308: rld. -/
def execRld (qd : BitVec 4) (rs1 rs2 : BitVec 5) (_la : BitVec 4) (s : State) : Host.Outcome State Fault Refusal :=
  s.checked 4 (fun s =>
    let a := s.x rs1
    let d := s.x rs2
    let n := field d 16 8
    let q := qd.toNat
    if 256 < a.toNat % 256 + n then .error (misaligned .load a s)
    else if field d 24 40 ≠ 0 ∨ n = 0 ∨ 248 < n then .error (noAccess .load a s)
    else
      match s.remoteAddress .load a n with
      | .error e => .error e
      | .ok (s1, pa) =>
        let r := s1.myCore.receive q
        if sinkSize ≤ r.entries.length + (r.reserved.filter (fun x => !x.cancelled)).length then .error (.wait (.rxFull q) s)
        else s1.issueRld q pa n (d.extractLsb' 0 16))

/-! ## rst and gst (R309, R321) -/

/-- R309, R321: the data of a store: the x register, or the first bytes of the v register. -/
def State.storeData (s : State) (rd : BitVec 5) (d : Word) (n : Nat) : List Byte :=
  if d.getLsbD 5 then leBytes 8 (s.x rd).toNat else (lineBytes (s.v rd)).take n

/-- The v registers that a store reads. -/
def dataRegs (rd : BitVec 5) (d : Word) : List (BitVec 5) := if d.getLsbD 5 then [] else [rd]

/-- R309: the store enters the combining buffer, and the instruction retires. -/
def State.enqueueStore (s : State) (e : Combining) : Except Stop State :=
  if s.myCore.combiningFull then .error (.wait .combining s)
  else .ok ((s.modMyCore (fun k => k.enqueue e)).departAll s.here combiningSize)

/-- R309: the location of a count object that a store names. -/
def State.countAt (s : State) (cnt : Word) : Except Stop (State × Nat) :=
  if cnt = 0 then .ok (s, 0)
  else
    match s.access .store cnt 32 with
    | .error e => .error e
    | .ok (s1, locs) => if locs.all isDevice then .ok (s1, locs.headD 0) else .error (noAccess .store cnt s)

/-- R309: rst. -/
def execRst (rd rs1 rs2 : BitVec 5) (_la : BitVec 4) (s : State) : Host.Outcome State Fault Refusal :=
  s.checked 4 (fun s =>
    let a := s.x rs1
    let d := s.x rs2
    let n := 8 * (field d 0 5 + 1)
    let cnt := d &&& ~~~0x3F#64
    s.useV (dataRegs rd d) |>.bind (fun s =>
      if a.toNat % 8 ≠ 0 ∨ 256 < a.toNat % 256 + n then .error (misaligned .store a s)
      else if d.getLsbD 5 ∧ field d 0 5 ≠ 0 then .error (noAccess .store a s)
      else
        match s.countAt cnt with
        | .error e => .error e
        | .ok (s1, cntLoc) =>
          match s1.remoteAddress .store a n with
          | .error e => .error e
          | .ok (s2, pa) =>
            s2.enqueueStore { paddr := pa, data := s2.storeData rd d n, cnt := cnt, cntLoc := cntLoc, strand := s2.cur,
                              group := none }))

/-- R312, R322: is the group of a word owned by the issuing core under its VF? -/
def State.ownedGroup (s : State) (w : Word) : Option (Nat × Group) :=
  if field w 18 46 = 0 ∧ field w 8 10 = s.chipNumber then
    ((s.group (field w 0 8)).filter (fun g => g.core == s.here && g.vf == s.myCore.vfNow)).map (fun g => (field w 0 8, g))
  else none

/-- R322: is the group OPEN or FAILED? -/
def Group.takes (g : Group) : Bool := g.state == .opened || g.state == .failed

/-- R321: the group fault. -/
def State.groupFault (s : State) : Stop := .trap causeGroup s.me.gsel s

/-- R312: the destinations a group may have. -/
def maxDests : Nat := 64

/-- R321: the destinations of a group, with those of its stores still in the combining buffer. -/
def State.destChips (s : State) (l : Nat) (g : Group) : List Nat :=
  (s.myCore.combining.filter (fun e => e.group == some (s.groupNumber l))).foldl
    (fun cs e => if cs.contains (e.paddr / 2 ^ 42) then cs else (e.paddr / 2 ^ 42) :: cs) (g.dests.map (·.1))

/-- R321: gst. -/
def execGst (rd rs1 rs2 : BitVec 5) (_la : BitVec 4) (s : State) : Host.Outcome State Fault Refusal :=
  s.checked 4 (fun s =>
    match (s.ownedGroup s.me.gsel).filter (fun g => g.2.takes) with
    | none => .error s.groupFault
    | some (l, g) =>
      let a := s.x rs1
      let d := s.x rs2
      let n := 8 * (field d 0 5 + 1)
      s.useV (dataRegs rd d) |>.bind (fun s =>
        if a.toNat % 8 ≠ 0 ∨ 256 < a.toNat % 256 + n then .error (misaligned .store a s)
        else if field d 6 58 ≠ 0 ∨ (d.getLsbD 5 ∧ field d 0 5 ≠ 0) then .error (noAccess .store a s)
        else
          match s.remoteAddress .store a n with
          | .error e => .error e
          | .ok (s1, pa) =>
            let cs := s1.destChips l g
            if maxDests ≤ cs.length ∧ !cs.contains (pa / 2 ^ 42) then .error s.groupFault
            else
              s1.enqueueStore { paddr := pa, data := s1.storeData rd d n, cnt := 0, cntLoc := 0, strand := s1.cur,
                                group := some (s1.groupNumber l) }))

/-! ## The journal (R257) -/

/-- R257: the image of a journal entry. -/
def JEntry.image (e : JEntry) : List Byte :=
  leBytes 8 e.paddr ++ leBytes 2 e.len ++ leBytes 1 (if e.state = .posted then 1 else 2) ++ leBytes 1 e.reason.toNat ++
    leBytes 1 e.strand ++ leBytes 3 0 ++ leBytes 8 e.tick.toNat ++ leBytes 8 e.cnt.toNat

/-- The POSTED entries of a journal, as a mask. -/
def Core.postedMask (k : Core) : BitVec 64 :=
  (k.journal.filter (fun e => e.2.state == .posted)).foldl (fun m e => m ||| (1#64 <<< e.1)) 0

/-- R257: jrnl. -/
def execJrnl (rd rs1 rs2 : BitVec 5) (s : State) : Host.Outcome State Fault Refusal :=
  s.checked 4 (fun s =>
    let w := s.x rs2
    let i := field w 8 6
    let k := s.myCore
    if field w 14 50 ≠ 0 then .ok (s.writeX rd ones)
    else
      match field w 0 8 with
      | 0 => .ok (s.writeX rd (BitVec.ofNat 64 k.journal.length))
      | 1 =>
        match s.me.park with
        | some (.journalMask m r) =>
          if m = 0 then .ok (s.writeX rd (BitVec.ofNat 64 r)) else .error (.wait (.journalMask m r) s)
        | _ =>
          let refused := (k.journal.filter (fun e => e.2.state == .refused)).length
          if k.postedMask = 0 then .ok (s.writeX rd (BitVec.ofNat 64 refused))
          else .error (.wait (.journalMask k.postedMask refused) s)
      | 2 =>
        s.aligned .store (s.x rs1) 32 (fun s =>
          (s.storeBytes (s.x rs1) (((mapFind k.journal i).map JEntry.image).getD (List.replicate 32 0))).map
            (·.writeX rd 0))
      | 3 =>
        match mapFind k.journal i with
        | some e =>
          if e.state = .refused then
            .ok ((s.modMyCore (fun k => { k with journal := mapErase k.journal i })).writeX rd 0)
          else .ok (s.writeX rd 1)
        | none => .ok (s.writeX rd 1)
      | _ => .ok (s.writeX rd ones))

/-! ## Messages that arrive (R297, R298, R305, R308-R310, R319) -/

/-- R19: does a dynamic message come from another chip at a port that is link-down? It does not. -/
def State.cutOff (s : State) (m : Msg) : Bool :=
  !m.sched && ((s.arrivalPort m.chip m.dst).map s.linkDown).getD false

/-- R297, R298: a message that breaks the layout is dropped and counted; any other that names another chip is
forwarded. -/
def State.receive (s : State) (bytes : List Byte) (kind : Nat) (f : State → Msg → State) : State :=
  let m := Msg.ofBytes bytes
  if !headerOk bytes then
    ({ s with chip := { s.chip with framingErrors := s.chip.framingErrors + 1 } } : State).countFabric evFraming 1
  else if s.cutOff m then s
  else
    let s1 := s.countFabric evFlitsReceived (flitsOf m.len)
    if m.dst ≠ s.chipNumber ∧ !m.sched then
      s1.sendOn ((s.arrivalPort m.chip m.dst).getD 24) m.dst (.message m.dst bytes) (flitsOf m.len)
    else if m.kind = kind then f s1 m
    else s1

/-- The reply to a message. -/
def State.replyTo (s : State) (m : Msg) (kind aux : Nat) (len : Nat) (payload : List Byte) : State :=
  s.sendMsg { m with kind := kind, chip := s.chipNumber, dst := m.chip, len := len, aux := aux, payload := payload }

/-- R305, R310: an RST arrives. -/
def execRstMessage (msg : List Byte) (s : State) : Host.Outcome State Fault Refusal :=
  .next (s.receive msg kindRst (fun s m =>
    match s.refuses m.chip m.ld m.addr m.payload.length with
    | some r => s.replyTo m kindRstRefuse r 0 []
    | none => (s.commitHome (cellsAt (m.addr % 2 ^ 42) m.payload)).replyTo m kindRstAck 0 0 []))

/-- R310: an acknowledgement arrives. -/
def execRstAck (msg : List Byte) (s : State) : Host.Outcome State Fault Refusal :=
  .next (s.receive msg kindRstAck (fun s m => (s.ackEntry m.core m.index).follow))

/-- R310, R318: a refusal arrives. -/
def execRstRefuse (msg : List Byte) (s : State) : Host.Outcome State Fault Refusal :=
  .next (s.receive msg kindRstRefuse (fun s m => (s.refuseEntry m.core m.index (BitVec.ofNat 8 m.aux)).follow))

/-- R272: an RLD arrives and performs at the home. -/
def execRldMessage (msg : List Byte) (s : State) : Host.Outcome State Fault Refusal :=
  .next (s.receive msg kindRld (fun s m =>
    let r := s.remoteRead m.chip m.ld m.addr m.len
    s.replyTo m kindRldReply r.2 m.len r.1))

/-- R308: the reserved slot that a reply fills. -/
def RxSlot.answers (x : RxSlot) (m : Msg) : Bool :=
  x.chip == m.chip && x.addr == m.addr && x.tag.toNat == m.tag && x.len == m.len

/-- R306, R308: a reply arrives: it fills its slot, or is dropped when the slot was cancelled. -/
def execRldReply (msg : List Byte) (s : State) : Host.Outcome State Fault Refusal :=
  .next (s.receive msg kindRldReply (fun s m =>
    let r := (s.core m.core).receive m.index
    match r.reserved.find? (fun x => x.answers m) with
    | none => s
    | some x =>
      let s1 := s.modCore m.core (fun k => { k with rx := k.rx.setIfInBounds m.index { r with reserved := r.reserved.erase x } })
      if x.cancelled then s1 else s1.fillRx m.core m.index (rxEntry m.payload x.tag x.len m.aux)))

/-- R319: a gst arrives. -/
def execGstMessage (msg : List Byte) (s : State) : Host.Outcome State Fault Refusal :=
  .next (s.receive msg kindGst (fun s m =>
    match s.stageGst m.chip m.ld m.addr (BitVec.ofNat 18 m.aux) m.payload with
    | (s1, none) => s1.replyTo m kindRstAck 0 0 []
    | (s1, some r) => s1.replyTo m kindRstRefuse r 0 []))

/-- R298: a message for another chip is forwarded in dimension order. -/
def execRouterForward (msg : List Byte) (s : State) : Host.Outcome State Fault Refusal :=
  .next (s.receive msg 0 (fun s _ => s))

/-- R297: a message that breaks the layout is dropped and counted. -/
def execMalformedMessage (msg : List Byte) (s : State) : Host.Outcome State Fault Refusal :=
  .next (s.receive msg 0 (fun s _ => s))

end Sys2Proof.Machine
end

