-- ==== Sys2Proof/Machine/GroupInstr.lean ====
section
/-! DEFINITION. The group instructions and the group messages that arrive (R315-R319, R322). -/

namespace Sys2Proof.Machine

/-! ## Instructions (R322) -/

/-- R316: may gopen take an entry: FREE, COMMITTED or ABORTED? -/
def State.groupFree (s : State) (l : Nat) : Bool :=
  match s.group l with
  | none => true
  | some g => g.state == .committed || g.state == .aborted

/-- R316: an entry as gopen leaves it. -/
def Group.fresh (core : Nat) (vf : BitVec 6) : Group :=
  { state := .opened, core := core, vf := vf, dests := [], reason := 0, pubTick := 0, count := 0, countLoc := 0, gen := 0,
    prepared := false, prepareTick := 0, answered := [], abortSent := false, acked := [] }

/-- R322: gopen. -/
def execGopen (rd : BitVec 5) (s : State) : Host.Outcome State Fault Refusal :=
  s.checked 4 (fun s =>
    match (List.range 256).find? s.groupFree with
    | some l =>
      .ok ((s.setGroup l (Group.fresh s.here s.myCore.vfNow)).deliverX rd ((s.groupNumber l).setWidth 64) 0)
    | none => .ok (s.deliverX rd ones 0))

/-- R322: gsel. -/
def execGsel (rd rs1 : BitVec 5) (s : State) : Host.Outcome State Fault Refusal :=
  s.checked 4 (fun s =>
    match (s.ownedGroup (s.x rs1)).filter (fun g => g.2.takes) with
    | some _ => .ok ((s.modMe (fun t => { t with gsel := s.x rs1 })).deliverX rd 0 0)
    | none => .ok (s.deliverX rd 1 0))

/-- R322: the count object that gcommit names: none for 0, its location, or an address that is no object's. -/
inductive CommitObject where
  | none
  | at (loc : Nat)
  | bad
  deriving DecidableEq, Repr

/-- R322: the object of an address: 64-byte aligned, in this chip's device memory. -/
def State.commitObject (s : State) (va : Word) : State × CommitObject :=
  if va = 0 then (s, .none)
  else if va.toNat % 64 ≠ 0 then (s, .bad)
  else
    match s.translate (s.xctx s.here s.cur) .store va 32 with
    | .ok (s1, locs) => if locs.all isDevice then (s1, .at (locs.headD 0)) else (s1, .bad)
    | .error _ => (s, .bad)

/-- R316, R322: the commit of an owned group starts. -/
def State.startCommit (s : State) (l : Nat) (g : Group) : State :=
  if g.state = .failed then s.startAbort l g g.reason
  else if g.dests = [] ∧ !s.groupInBuffer l g then
    (s.setGroup l { g with state := .committed, pubTick := s.tick }).signalGroup g 3 0
  else (s.setGroup l { g with state := .preparing, prepared := false }).tryPrepare l

/-- R322: gcommit. -/
def execGcommit (rd rs1 rs2 : BitVec 5) (s : State) : Host.Outcome State Fault Refusal :=
  s.checked 4 (fun s =>
    match (s.ownedGroup (s.x rs1)).filter (fun g => g.2.takes) with
    | none => .ok (s.deliverX rd 1 0)
    | some (l, g) =>
      match s.commitObject (s.x rs2) with
      | (s1, .bad) => .ok (s1.deliverX rd 2 0)
      | (s1, .none) => .ok ((s1.startCommit l { g with count := 0, countLoc := 0, gen := 0 }).deliverX rd 0 0)
      | (s1, .at loc) =>
        .ok ((s1.startCommit l { g with count := s.x rs2, countLoc := loc, gen := s1.coGen loc }).deliverX rd 0 0))

/-- R322: gabort. -/
def execGabort (rd rs1 : BitVec 5) (s : State) : Host.Outcome State Fault Refusal :=
  s.checked 4 (fun s =>
    match s.ownedGroup (s.x rs1) with
    | none => .ok (s.deliverX rd 1 0)
    | some (l, g) =>
      if g.takes || g.state == .preparing then .ok ((s.startAbort l g 17).deliverX rd 0 0)
      else if g.state = .publishing then .ok (s.deliverX rd 2 0)
      else .ok (s.deliverX rd 1 0))

/-- R322: the state word of a group. -/
def Group.word (g : Group) : Word :=
  let t := if g.state = .publishing ∨ g.state = .committed then g.pubTick.toNat % 2 ^ 32 else 0
  let r := if g.state = .failed ∨ g.state = .aborting ∨ g.state = .aborted then g.reason.toNat else 0
  BitVec.ofNat 64 (t * 2 ^ 32 + r * 2 ^ 24 + g.dests.length * 2 ^ 16 + g.state.code)

/-- R322: gstat. -/
def execGstat (rd rs1 rs2 : BitVec 5) (s : State) : Host.Outcome State Fault Refusal :=
  s.checked 4 (fun s =>
    let r : Word := match (s.x rs2).toNat with
      | 0 => ((s.ownedGroup (s.x rs1)).map (fun g => g.2.word)).getD ones
      | 1 => BitVec.ofNat 64 s.groupBound
      | 2 => BitVec.ofNat 64 ((List.range 256).filter s.groupFree).length
      | 3 => BitVec.ofNat 64 (s.staging.toList.foldl (fun n u => n + (stagingSize - u)) 0)
      | _ => ones
    .ok (s.deliverX rd r 0))

/-! ## Messages at a destination (R319) -/

/-- R319: a prepare arrives. -/
def execPrepare (group : BitVec 18) (n : Nat) (s : State) : Host.Outcome State Fault Refusal :=
  .next (match (s.countFabric evFlitsReceived 1).destPrepare group n with
    | (s1, none) => s1.send (.groupMessage (groupChip group) gmReady group 0)
    | (s1, some r) => s1.send (.groupMessage (groupChip group) gmRefuse group (r.setWidth 64)))

/-- R319: an abort arrives. -/
def execAbort (group : BitVec 18) (s : State) : Host.Outcome State Fault Refusal :=
  .next (match (s.countFabric evFlitsReceived 1).destAbort group with
    | (s1, true) => s1.send (.groupMessage (groupChip group) gmAbortAck group 0)
    | (s1, false) => s1)

/-- R319: a publish arrives. -/
def execPublish (group : BitVec 18) (atTick : BitVec 64) (s : State) : Host.Outcome State Fault Refusal :=
  .next (s.controlLane.destPublish group atTick)

/-- R274: a group due at this tick is applied. -/
def execGroupApply (group : BitVec 18) (s : State) : Host.Outcome State Fault Refusal := .next (s.applyGroup group).follow

/-! ## Messages at the issuing chip (R316) -/

/-- R316: an event at a group of this chip. -/
def State.atGroup (s : State) (group : BitVec 18) (f : State → Nat → Group → State) : State :=
  if groupChip group = s.chipNumber then
    match s.group (groupLocal group) with
    | some g => (f s (groupLocal group) g).follow
    | none => s
  else s

/-- R316: a destination is ready. -/
def execReady (group : BitVec 18) (chip : Nat) (s : State) : Host.Outcome State Fault Refusal :=
  .next ((s.countFabric evFlitsReceived 1).atGroup group (fun s l g =>
    if g.state = .preparing ∧ g.prepared ∧ !g.answered.contains chip then
      (s.setGroup l { g with answered := chip :: g.answered }).tryPublish l
    else s))

/-- R316: a destination refuses. -/
def execGroupRefuse (group : BitVec 18) (_chip : Nat) (reason : BitVec 8) (s : State) : Host.Outcome State Fault Refusal :=
  .next ((s.countFabric evFlitsReceived 1).atGroup group (fun s l g =>
    if g.state = .preparing then s.startAbort l g reason else s)).follow

/-- R316: a destination acknowledges a publish. -/
def execPublishAck (group : BitVec 18) (chip : Nat) (s : State) : Host.Outcome State Fault Refusal :=
  .next (s.controlLane.atGroup group (fun s l _ => s.publishAcked l chip)).follow

/-- R316: a destination acknowledges an abort. -/
def execAbortAck (group : BitVec 18) (chip : Nat) (s : State) : Host.Outcome State Fault Refusal :=
  .next (s.controlLane.atGroup group (fun s l g =>
    if g.state = .aborting then
      (s.setGroup l { g with acked := if g.acked.contains chip then g.acked else chip :: g.acked }).trySettleAbort l
    else s)).follow

/-- R315: replies to prepare are missing 65,536 ticks after it departed. -/
def execGroupTimeout (group : BitVec 18) (s : State) : Host.Outcome State Fault Refusal :=
  .next (s.atGroup group (fun s l g =>
    if g.state = .preparing ∧ g.prepared ∧ g.prepareTick.toNat + 65536 ≤ s.tick.toNat then s.startAbort l g 16 else s)).follow

end Sys2Proof.Machine
end

