-- ==== Sys2Proof/Machine/Syscalls.lean ====
section
/-! DEFINITION. What the resident executive does with system-call packets: their services, their order, and their
completion (R128-R130, R267, R342). -/

namespace Sys2Proof.Machine

/-! ## Packets (R129, R130, R342) -/

def Packet.service (p : Packet) : Nat := recNat p.bytes 0 2
def Packet.arg (p : Packet) (i : Nat) : Word := recWord p.bytes (8 + 8 * i)

/-- R342: the reserved bytes of a packet are 0. -/
def Packet.formed (p : Packet) : Bool := recNat p.bytes 2 6 == 0

/-- R342: the completion codes. -/
def scOk : Nat := 0
def scUnknown : Nat := 1
def scBadArg : Nat := 2
def scNoMemory : Nat := 4

/-- R342: a completion status. -/
def scStatus (code value : Nat) : Word := BitVec.ofNat 64 (value % 2 ^ 32 * 2 ^ 32 + code % 2 ^ 16)

/-- R129: may the packet that stands after these run now? A strong one runs after every earlier packet, and no packet
runs while an earlier strong one is incomplete. -/
def mayServe (earlier : List Packet) (p : Packet) : Bool :=
  if p.strong then earlier.isEmpty else earlier.all (fun q => !q.strong)

/-- R129: the packet of a ticket, if it may run now. -/
def Core.ready (k : Core) (t : BitVec 32) : Option Packet :=
  (k.syscalls.find? (·.ticket == t)).filter (mayServe (k.syscalls.takeWhile (·.ticket != t)))

/-- R130: a packet leaves the queue with its completion status, one of the core's latest 64. After a strong one no packet
reads what stood before the fences that precede it (R129). -/
def State.finishPacket (s : State) (c : Nat) (p : Packet) (status : Word) : State :=
  s.modCore c (fun k =>
    { k with
      syscalls := k.syscalls.filter (·.ticket ≠ p.ticket)
      fenced := if p.strong then [] else k.fenced
      completed := ((p.ticket, status) :: k.completed).take 64 })

/-- R342, R351: does a service belong to the features that a logical device has accepted? -/
def Ld.serves (d : Ld) (service : Nat) : Bool :=
  if service = 0x20 ∨ service = 0x21 then d.accept.getLsbD 2
  else if service = 0x30 ∨ service = 0x31 then d.accept.getLsbD 3
  else service = 0x01 || service = 0x10 || service = 0x11

/-- A service acts: the state and the status, or `none` while it must wait. -/
abbrev Service := State → Packet → Option (State × Word)

/-- R129, R342: the executive serves the packet of a ticket, if it names this service and may run now. -/
def State.serve (s : State) (c : Nat) (t : BitVec 32) (service : Nat) (f : Service) : Host.Outcome State Fault Refusal :=
  .next (match ((s.core c).ready t).filter (·.service == service) with
    | some p =>
      if !p.formed then s.finishPacket c p (scStatus scBadArg 0)
      else if !(s.ld (s.core c).ld.toNat).serves service then s.finishPacket c p (scStatus scUnknown 0)
      else
        match f s p with
        | some (s1, status) => s1.finishPacket c p status
        | none => s
    | none => s)

/-- A service that ends with BAD_ARG, having done nothing. -/
def badArg (s : State) : Option (State × Word) := some (s, scStatus scBadArg 0)

/-- R342: the service NOP. -/
def execNop (core : Nat) (ticket : BitVec 32) (s : State) : Host.Outcome State Fault Refusal :=
  s.serve core ticket 0x01 (fun s _ => some (s, scStatus scOk 0))

/-- R342: a packet that names no service, or whose reserved bytes are not 0. -/
def execSyscallUnknown (core : Nat) (ticket : BitVec 32) (s : State) : Host.Outcome State Fault Refusal :=
  .next (match (s.core core).ready ticket with
    | some p =>
      if !p.formed then s.finishPacket core p (scStatus scBadArg 0)
      else if !(s.ld (s.core core).ld.toNat).serves p.service then s.finishPacket core p (scStatus scUnknown 0)
      else s
    | none => s)

/-- R130, R342: the executive completes a packet with a status, whose code is up to 5 and whose bits [31:16] are 0; one with
a nonzero reserved byte completes with BAD_ARG. -/
def execSyscallComplete (core : Nat) (ticket : BitVec 32) (status : BitVec 64) (s : State) :
    Host.Outcome State Fault Refusal :=
  .next (match (s.core core).ready ticket with
    | some p =>
      if !p.formed then s.finishPacket core p (scStatus scBadArg 0)
      else if field status 0 32 ≤ 5 then s.finishPacket core p status
      else s
    | none => s)

/-! ## Mapping (R232, R342) -/

/-- The pages that `n` bytes at a virtual address touch. -/
def pagesTouched (va : Word) (n : Nat) : List Word :=
  if n = 0 then []
  else (List.range ((va.toNat % 4096 + n + 4095) / 4096)).map (fun i => va - BitVec.ofNat 64 (va.toNat % 4096) +
    BitVec.ofNat 64 (4096 * i))

/-- The most pages that device memory holds. -/
def devicePages : Nat := Config.deviceBytes / 4096

/-- R232: the PTE of a leaf: valid, readable, writable, user, accessed, dirty. -/
def leafFlags : Nat := 0xD7

/-- A PTE that points to a page frame of this chip. -/
def State.pteOf (s : State) (frame flags : Nat) : Nat := (s.chipNumber * 2 ^ 30 + frame) * 1024 + flags

/-- A page frame is filled with zeros, at system scope. -/
def State.zeroFrame (s : State) (frame : Nat) : State :=
  s.commitSystem (cellsAt (frame * 4096) (List.replicate 4096 0))

/-- R232, R342: one page is mapped below the table at physical page `ppn`: frames become the tables that are missing
and the page itself. `none`: no frame is left, or a larger page stands there. -/
def State.mapPage (s : State) (vpn : Nat) : Nat → Nat → List Nat → Option (State × List Nat)
  | level, ppn, frames =>
    match s.tableLoc (ppn * 4096 + 8 * (vpn / 2 ^ (9 * level) % 512)) with
    | none => none
    | some loc =>
      let p := BitVec.ofNat 64 (s.readNat .device loc 8)
      match level with
      | 0 =>
        match frames with
        | [] => none
        | f :: fs => some ((s.zeroFrame f).commitSystem (cellsAt loc (leBytes 8 (s.pteOf f leafFlags))), fs)
      | l + 1 =>
        if pteV p then (if pteLeaf p then none else s.mapPage vpn l (ptePpn p) frames)
        else
          match frames with
          | [] => none
          | f :: fs =>
            ((s.zeroFrame f).commitSystem (cellsAt loc (leBytes 8 (s.pteOf f 1)))).mapPage vpn l
              (s.chipNumber * 2 ^ 30 + f) fs

/-- Pages are mapped in order. -/
def State.mapPages (s : State) (root : Nat) : List Word → List Nat → Option State
  | [], _ => some s
  | va :: vas, frames =>
    match s.mapPage (field va 12 36) 3 root frames with
    | some (s1, fs) => s1.mapPages root vas fs
    | none => none

/-- The shootdown of a core's address space over a range. -/
def Core.rangeShootdown (k : Core) (va : Word) (n : Nat) : Shootdown :=
  { vf := k.vfNow, asid := some (k.satp.extractLsb' 44 16), base := va, length := BitVec.ofNat 64 n, issuer := 0,
    waiting := [], others := [] }

/-- R234: the cores that run under a virtual function. -/
def State.coresOfVf (s : State) (vf : BitVec 6) : List Nat := s.listedCores.filter (fun c => (s.core c).vfNow == vf)

/-- R234: a shootdown of every core of a virtual function, within one step: `none` while a request that was translated
before it has not reached its destination. -/
def State.shootAll (s : State) (d : Shootdown) : Option State :=
  let cs := s.coresOfVf d.vf
  let s1 := cs.foldl (fun s c => ((s.invalidate d c).markEarly c).drainCore c) s
  if cs.all s1.egressEmpty then some s1 else none

/-- Does an address range lie in one half of the 48-bit space? -/
def rangeCanonical (va : Word) (n : Nat) : Bool :=
  va.toInt + n ≤ 2 ^ 47 && -(2 ^ 47) ≤ va.toInt && (va.toInt ≥ 0 || va.toInt + n ≤ 0)

/-- May MAP and UNMAP act on a range of a core's address space? -/
def Core.mappable (k : Core) (va : Word) (n : Nat) : Bool :=
  field k.satp 60 4 == 9 && rangeCanonical va n && !inWindow va && (n = 0 || !inWindow (va + BitVec.ofNat 64 (n - 1)))

/-- R342: the service MAP; `frames` are the page frames that the executive gives it. -/
def execMap (core : Nat) (ticket : BitVec 32) (frames : List Nat) (s : State) : Host.Outcome State Fault Refusal :=
  s.serve core ticket 0x10 (fun s p =>
    let k := s.core core
    let n := (p.arg 1).toNat
    if !k.mappable (p.arg 0) n then badArg s
    else
      let pages := (n + 8191) / 4096
      if devicePages < pages then some (s, scStatus scNoMemory 0)
      else
        let vas := pagesTouched (p.arg 0) n
        match s.mapPages (field k.satp 0 44) vas ((frames.eraseDups).filter (· < devicePages)) with
        | none => some (s, scStatus scNoMemory 0)
        | some s1 => (s1.shootAll (k.rangeShootdown (vas.headD 0) (4096 * vas.length))).map
            (fun s2 => (s2, scStatus scOk vas.length)))

/-- R342: one page is unmapped; the number of pages unmapped so far. -/
def unmapPage (die root : Nat) (r : State × Nat) (va : Word) : State × Nat :=
  match r.1.walkFrom die (field va 12 36) 3 root with
  | .ok l => if l.sizeBits = 12 then (r.1.commitSystem (cellsAt l.loc (leBytes 8 0)), r.2 + 1) else r
  | .error _ => r

/-- R234, R342: the service UNMAP. -/
def execUnmap (core : Nat) (ticket : BitVec 32) (s : State) : Host.Outcome State Fault Refusal :=
  s.serve core ticket 0x11 (fun s p =>
    let k := s.core core
    let n := (p.arg 1).toNat
    if !k.mappable (p.arg 0) n then badArg s
    else
      let vas := pagesTouched (p.arg 0) n
      let r := vas.foldl (unmapPage (dieOf core) (field k.satp 0 44)) (s, 0)
      (r.1.shootAll (k.rangeShootdown (vas.headD 0) (4096 * vas.length))).map (fun s1 => (s1, scStatus scOk r.2)))

/-! ## Buffers of the services -/

/-- The locations of a buffer that a packet names, in the address space of its core. -/
def State.serviceLocs (s : State) (c : Nat) (a : Access) (va : Word) (n : Nat) : Option (State × List Nat) :=
  match s.translate (s.deviceCtx c) a va n with
  | .error _ => none
  | .ok (s1, locs) =>
    match s1.onDie locs with
    | .error _ => none
    | .ok s2 => if a = .load && s2.poisonedAt locs then none else some (s2, locs)

/-- R129: the 32-byte granule of a buffer that holds its byte `i`. -/
def granuleOf (va : Word) (i : Nat) : Nat := (va.toNat % 32 + i) / 32

/-- R129, R267: a buffer as the services read it, at reach S; a granule that a relaxed packet has read earlier, as it was
then. -/
def State.serviceBytes (s : State) (c : Nat) (started : List (Nat × List Byte)) (va : Word) (n : Nat) :
    Option (State × List Byte) :=
  (s.serviceLocs c .load va n).map (fun r =>
    (r.1, ((List.range r.2.length).zip r.2).map (fun x =>
      match started.find? (·.1 == granuleOf va x.1) with
      | some g => g.2.getD ((va.toNat + x.1) % 32) 0
      | none => r.1.readByte .host x.2)))

/-- R129: a relaxed packet that names a service and may run acts on one granule of its buffer. -/
def State.servePart (s : State) (c : Nat) (t : BitVec 32) (service : Nat)
    (f : State → Packet → Option (State × Nat × List Byte)) : Host.Outcome State Fault Refusal :=
  .next (match ((s.core c).ready t).filter (fun p => p.service == service && p.formed && !p.strong &&
      (s.ld (s.core c).ld.toNat).serves service) with
    | none => s
    | some p =>
      match f s p with
      | none => s
      | some (s1, g) => s1.modCore c (fun k => { k with
          syscalls := k.syscalls.map (fun q => if q.ticket = t then { q with started := g :: q.started } else q) }))

/-- R129: granule `g` of a buffer is read: as the host sees it now, or as it was before the `v`th latest fence at scope 6 that
made stores of the core to it visible. -/
def State.readGranule (s : State) (c : Nat) (va : Word) (n g : Nat) (v : Option Nat) : Option (State × Nat × List Byte) :=
  (s.serviceLocs c .load va n).bind (fun r =>
    (((List.range r.2.length).zip r.2).find? (fun x => granuleOf va x.1 == g)).map (fun x =>
      let q := sectorNo x.2
      let older := ((s.core c).fenced.filter (·.1 == q)).map (·.2)
      (r.1, g, (v.bind (fun v => older[v]?)).getD (r.1.readBytes .host (32 * q) 32))))

/-- R129: the cells of a buffer that an earlier part of a relaxed packet has not written. -/
def unstarted (started : List (Nat × List Byte)) (va : Word) (cells : List (Nat × Byte)) : List (Nat × Byte) :=
  (((List.range cells.length).zip cells).filter (fun x => !started.any (·.1 == granuleOf va x.1))).map (·.2)

/-! ## Ethernet (R348, R349) -/

/-- The queue pair of a logical device. -/
def State.qp (s : State) (ld : BitVec 4) (n : Nat) : Option Qp := s.qps.find? (fun q => q.ld == ld && q.number == n)

/-- The state with a queue pair replaced. -/
def State.setQp (s : State) (q : Qp) : State :=
  { s with qps := s.qps.map (fun r => if r.ld == q.ld && r.number == q.number then q else r) }

/-- R348: the queue pairs of a logical device. -/
def qpLimit : Nat := 1024

/-- R346, R348: the executive opens a queue pair of a bound logical device, which may have up to 1,024 of them; one in the error
state may be opened anew. -/
def State.openPair (s : State) (q : Qp) : State :=
  let others := s.qps.filter (fun r => !(r.ld == q.ld && r.number == q.number))
  if (s.ld q.ld.toNat).bound && q.srq < 64 && q.queue < 16 && (others.filter (·.ld == q.ld)).length < qpLimit &&
      (s.qp q.ld q.number).all (·.error) then
    { s with qps := others ++ [{ q with error := false, sends := [] }] }
  else s

/-- R349: a completion record of a queue pair is posted. -/
def State.ethRecord (s : State) (ld : BitVec 4) (queue kind status qp : Nat) (cookie : Word) (len : Nat)
    (imm : BitVec 32) : State :=
  s.post ld.toNat queue (leBytes 2 kind ++ leBytes 2 status ++ leBytes 4 qp ++ leBytes 8 cookie.toNat ++ leBytes 4 len ++
    leBytes 4 imm.toNat ++ leBytes 8 s.tick.toNat)

/-- R349: the kinds and statuses of a completion. -/
def kindSendDone : Nat := 0x14
def kindReceiveDone : Nat := 0x15
def ethFlushed : Nat := 1

/-- R342: the service ETH_SEND: the payload is read and leaves; a queue pair in the error state flushes it. `a.part`: a granule of
the payload of a relaxed packet is read, and which version (R129). -/
def execEthSend (core : Nat) (a : ReadService) (s : State) : Host.Outcome State Fault Refusal :=
  match a.part with
  | some (g, v) => s.servePart core a.ticket 0x20 (fun s p => s.readGranule core (p.arg 1) (p.arg 2).toNat g v)
  | none => s.serve core a.ticket 0x20 (fun s p =>
    let ld := (s.core core).ld
    match s.qp ld (p.arg 0).toNat with
    | none => badArg s
    | some q =>
      match s.serviceBytes core p.started (p.arg 1) (p.arg 2).toNat with
      | none => badArg s
      | some (s1, bs) =>
        let s2 :=
          if q.error then s1.ethRecord ld q.queue kindSendDone ethFlushed q.number (p.arg 3) 0 0
          else (s1.setQp { q with sends := q.sends ++ [p.arg 3] }).send (.eth ld q.number bs)
        some (s2, scStatus scOk 0))

/-- The buffers posted to a shared receive queue. -/
def State.posted (s : State) (ld : BitVec 4) (srq : Nat) : List SrqBuffer :=
  s.srqBuffers.filter (fun b => b.ld == ld && b.srq == srq)

/-- R342, R348: the service ETH_RECV. -/
def execEthRecv (core : Nat) (ticket : BitVec 32) (s : State) : Host.Outcome State Fault Refusal :=
  s.serve core ticket 0x21 (fun s p =>
    let ld := (s.core core).ld
    let srq := (p.arg 0).toNat
    if 64 ≤ srq then badArg s
    else
      match s.serviceLocs core .store (p.arg 1) (p.arg 2).toNat with
      | none => badArg s
      | some (s1, locs) =>
        let s2 := { s1 with srqBuffers := s1.srqBuffers ++ [{ ld := ld, srq := srq, locs := locs, cookie := p.arg 3 }] }
        some (s2, scStatus scOk (s2.posted ld srq).length))

/-- R348: the answers to packets from peers that are not taken. -/
def nakInvalid : Nat := 1
def nakOperational : Nat := 2
def nakNotReady : Nat := 3

/-- R346, R348-R350: an incoming Send takes the oldest buffer of the queue pair's shared receive queue. -/
def execRdmaSendReceived (ld : BitVec 4) (qp : Nat) (payload : List Byte) (imm : BitVec 32) (s : State) :
    Host.Outcome State Fault Refusal :=
  .next (match s.qp ld qp with
    | none => s
    | some q =>
      if q.error then s.send (.ethNak ld qp nakOperational)
      else if !(s.ld ld.toNat).bound then s
      else
        match s.posted ld q.srq with
        | [] => s.send (.ethNak ld qp nakNotReady)
        | b :: _ =>
          let cells := b.locs.zip payload
          let s1 := ({ s with srqBuffers := s.srqBuffers.erase b } : State).commitSystem cells
          s1.ethRecord ld q.queue kindReceiveDone 0 qp b.cookie cells.length imm)

/-- R346, R348, R350: an incoming RDMA Read, Write or Atomic. -/
def execRdmaInvalidRequest (ld : BitVec 4) (qp : Nat) (s : State) : Host.Outcome State Fault Refusal :=
  .next (match s.qp ld qp with
    | some q =>
      if q.error then s.send (.ethNak ld qp nakOperational)
      else if !(s.ld ld.toNat).bound then s
      else (s.setQp { q with error := true }).send (.ethNak ld qp nakInvalid)
    | none => s)

/-- R349: the delivery of a Send finishes. -/
def execEthSendCompletion (ld : BitVec 4) (qp : Nat) (cookie : BitVec 64) (status : BitVec 16) (s : State) :
    Host.Outcome State Fault Refusal :=
  .next (match s.qp ld qp with
    | some q =>
      if q.sends.contains cookie && status.toNat < 4 then
        (s.setQp { q with sends := q.sends.erase cookie }).ethRecord ld q.queue kindSendDone status.toNat qp cookie 0 0
      else s
    | none => s)

/-! ## Storage (R342) -/

/-- R342: the service STORE_READ; `data` is what the object holds there. `a.part`: a granule of the buffer of a relaxed packet is
written (R129). -/
def execStoreRead (core : Nat) (a : WriteService) (data : List Byte) (s : State) : Host.Outcome State Fault Refusal :=
  match a.part with
  | some g => s.servePart core a.ticket 0x30 (fun s p =>
    (s.serviceLocs core .store (p.arg 2) (p.arg 3).toNat).map (fun r =>
      let cells := r.2.zip data
      let mine := ((List.range cells.length).zip cells).filter (fun x => granuleOf (p.arg 2) x.1 == g)
      (r.1.commitSystem (mine.map (·.2)), g, [])))
  | none => s.serve core a.ticket 0x30 (fun s p =>
    match s.serviceLocs core .store (p.arg 2) (p.arg 3).toNat with
    | none => badArg s
    | some (s1, locs) =>
      let cells := locs.zip data
      some (s1.commitSystem (unstarted p.started (p.arg 2) cells), scStatus scOk cells.length))

/-- R267, R342: the service STORE_WRITE; the object takes `written` bytes of the buffer. `a.part` is as for ETH_SEND. -/
def execStoreWrite (core : Nat) (a : ReadService) (written : Nat) (s : State) : Host.Outcome State Fault Refusal :=
  match a.part with
  | some (g, v) => s.servePart core a.ticket 0x31 (fun s p => s.readGranule core (p.arg 2) (p.arg 3).toNat g v)
  | none => s.serve core a.ticket 0x31 (fun s p =>
    match s.serviceBytes core p.started (p.arg 2) (p.arg 3).toNat with
    | none => badArg s
    | some (s1, bs) =>
      let taken := bs.take written
      some (s1.send (.store (p.arg 0) (p.arg 1) taken), scStatus scOk taken.length))

end Sys2Proof.Machine
end

