-- ==== Sys2Proof/Machine/Hosts.lean ====
section
/-! DEFINITION. Hosts and their logical devices: binding, feature negotiation, CXL.mem accesses, and the warm restart
of one host (R346, R350, R351, R375). -/

namespace Sys2Proof.Machine

/-! ## Quiescing a logical device (R350) -/

/-- R350, step 2: every launch of the logical device that has not ended is discarded. -/
def State.discardLd (s : State) (n : Nat) : State :=
  (s.launches.filter (fun l => lidLd l.lid == n && l.active)).foldl (fun s l => s.discard l.key codeHostReset 0) s

/-- R350, step 3: a queue pair moves to the error state; its pending sends complete as flushed. -/
def State.flushQp (s : State) (q : Qp) : State :=
  q.sends.foldl (fun s c => s.ethRecord q.ld q.queue kindSendDone ethFlushed q.number c 0 0)
    (s.setQp { q with error := true, sends := [] })

/-- The queue pair that names a shared receive queue. -/
def State.srqUser (s : State) (b : SrqBuffer) : Option Qp := s.qps.find? (fun q => q.ld == b.ld && q.srq == b.srq)

/-- R350, step 3: a posted receive completes as flushed. -/
def State.flushBuffer (s : State) (b : SrqBuffer) : State :=
  let q := s.srqUser b
  ({ s with srqBuffers := s.srqBuffers.erase b } : State).ethRecord b.ld ((q.map (·.queue)).getD 0) kindReceiveDone
    ethFlushed ((q.map (·.number)).getD 0) b.cookie 0 0

/-- R350, step 3: the queue pairs and the posted receives of a logical device. -/
def State.flushEthernet (s : State) (n : BitVec 4) : State :=
  let s1 := (s.qps.filter (·.ld == n)).foldl State.flushQp s
  (s1.srqBuffers.filter (·.ld == n)).foldl State.flushBuffer s1

/-- R350, step 5: PI, CI and OVF of a queue block become 0. -/
def State.clearBlock (s : State) (b : Nat) : State :=
  (s.commitSystem (cellsAt (b + 0x10) (List.replicate 8 0))).commitSystem
    (cellsAt (b + 0xC) (leBytes 4 (s.readNat .device (b + 0xC) 4 / 2 * 2)))

/-- R350, step 5: the queues of a logical device. -/
def State.clearQueues (s : State) (n : Nat) : State :=
  ((List.range (s.ld n).nqueues).map (fun k => (s.ld n).queues + 32 * k)).foldl State.clearBlock s

/-- R350, step 4: every valid page of the host window of a logical device is made invalid in its table. -/
def State.clearWindow (s : State) (n : Nat) : State :=
  let w := (s.ld n).window
  let listed := (s.mem.map (·.1) ++ s.drained.flatMap (fun d => d.cells.map (·.1))).eraseDups
  let valid := listed.filter (fun a => w ≤ a && a < w + 2 ^ 28 && (a - w) % 8 == 0 && (s.readByte .device a).getLsbD 0)
  if w = 0 || valid.isEmpty then s
  else s.commitSystem (valid.map (fun a => (a, s.readByte .device a &&& 0xFE#8)))

/-- R234, R350, step 4: the shootdown of every address of a virtual function. -/
def vfShootdown (vf : BitVec 6) : Shootdown :=
  { vf := vf, asid := none, base := 0, length := 0, issuer := 0, waiting := [], others := [] }

/-- R350, step 4: the window is shot down at every core, for each virtual function of the logical device. -/
def State.shootWindow (s : State) (n : Nat) : State :=
  s.listedCores.foldl (fun s c =>
    (List.range 4).foldl (fun s v => s.invalidate (vfShootdown (BitVec.ofNat 6 (4 * n + v))) c) s) s

/-- R350, step 4: the requests to the window that are still in flight are dropped at the host port. -/
def State.dropWindowRequests (s : State) (n : Nat) : State :=
  let keep := fun (cells : List (Nat × Byte)) => cells.filter (fun x => !isHostMemory n x.1)
  let strand := fun (t : Strand) =>
    { t with storeBuf := (t.storeBuf.map (fun w => { w with cells := keep w.cells })).filter (fun w => !w.cells.isEmpty) }
  { s with
    drained := (s.drained.map (fun (d : Drained) => if d.reach = Reach.s then d else { d with cells := keep d.cells })).filter
      (fun d => !d.cells.isEmpty)
    cores := s.cores.map (fun k => (k.1, { k.2 with strands := k.2.strands.map strand })) }

/-- R350: a logical device is quiesced: it reads no further record, its launches are discarded, its queue pairs fail,
its window is made invalid, its queues and its deficit become 0, and last, once its launches have ended, its keys are
cleared. -/
def State.quiesce (s : State) (n : BitVec 4) : State :=
  let i := n.toNat
  let s1 := s.modLd i (fun d => { d with accept := d.accept &&& ~~~(1#64 <<< 63) })
  let s2 := ((s1.discardLd i).flushEthernet n).modLd i (fun d => { d with windowInvalid := true })
  let s3 := ((s2.clearWindow i).shootWindow i).dropWindowRequests i
  ((s3.clearQueues i).modLd i (fun d => { d with deficit := 0, quiescing := true })).settleQuiesce i

/-- R346, R350: a CXL reset of a logical device that a host has. -/
def execHostWarmRestart (ld : BitVec 4) (s : State) : Host.Outcome State Fault Refusal :=
  .next (if (s.ld ld.toNat).bound then s.quiesce ld else s)

/-! ## Binding (R346) -/

/-- R74, R76: the launches that a logical device issued here under an earlier binding are forgotten: their LIDs come again. -/
def State.forgetLd (s : State) (n : Nat) : State :=
  { s with launches := s.launches.filter (fun l => l.issuer != s.chipNumber || lidLd l.lid != n) }

/-- R74, R346: a logical device that no host has, and whose quiescing is over (R350), is bound to one; its LID sequence
becomes 1. -/
def execBindVppb (ld : BitVec 4) (hdmBase hdmSize : Nat) (s : State) : Host.Outcome State Fault Refusal :=
  .next (
    if (s.ld ld.toNat).bound || (s.ld ld.toNat).quiescing then s
    else (s.forgetLd ld.toNat).modLd ld.toNat (fun d =>
      { d with bound := true, seq := 1, hdmBase := hdmBase, hdmSize := hdmSize }))

/-- R346, R350: a logical device is unbound, which quiesces it. -/
def execUnbindVppb (ld : BitVec 4) (s : State) : Host.Outcome State Fault Refusal :=
  .next (
    if (s.ld ld.toNat).bound then (s.quiesce ld).modLd ld.toNat (fun d => { d with bound := false, accept := 0 })
    else s)

/-! ## Feature negotiation (R351) -/

/-- R351: ACCEPT after a write. -/
def acceptAfter (value : Word) : Word :=
  ((value &&& (Config.offer.setWidth 64)) &&& 0x3F#64) ||| (value &&& (1#64 <<< 63))

/-- R351: what a host reads in the DVSEC of a logical device: OFFER at 0x0C, ACCEPT at 0x14, and at 0x1C the chip model and the
address of its queue table. -/
def Ld.dvsec (d : Ld) (offset : Nat) : Option (List Byte) :=
  match offset with
  | 0x0C => some (leBytes 8 Config.offer.toNat)
  | 0x14 => some (leBytes 8 d.accept.toNat)
  | 0x1C => some (leBytes 4 Config.chipModel.toNat ++ leBytes 8 d.queues)
  | _ => none

/-- R351: a host reads a register of the DVSEC, or writes ACCEPT; a write that changes the features while ENABLE is 1 is
ignored, and one that clears ENABLE quiesces the logical device. -/
def execDvsecAcceptWrite (ld : BitVec 4) (a : DvsecAccess) (s : State) : Host.Outcome State Fault Refusal :=
  let d := s.ld ld.toNat
  let new := acceptAfter a.value
  let on := d.accept.getLsbD 63
  .next (
    if a.read.isSome then
      (match if d.bound then a.read.bind d.dvsec else none with
      | some b => s.send (.host ld b)
      | none => s)
    else if !d.bound || (on && new.extractLsb' 0 6 != d.accept.extractLsb' 0 6) then s
    else
      let s1 := if on && !new.getLsbD 63 then s.quiesce ld else s
      s1.modLd ld.toNat (fun d => { d with accept := new }))

/-! ## CXL.mem (R346) -/

/-- R346: a host reads or writes device memory of its logical device, at reach S. -/
def execCxlMemRequest (ld : BitVec 4) (write : Bool) (offset len : Nat) (data : List Byte) (s : State) :
    Host.Outcome State Fault Refusal :=
  let d := s.ld ld.toNat
  let loc := d.hdmBase + offset
  .next (
    if d.bound && offset + len ≤ d.hdmSize && d.hdmBase + d.hdmSize ≤ Config.deviceBytes then
      let used := fun (s : State) (scope : Option (BitVec 3)) =>
        s.useCache .home (BitVec.ofNat 6 (4 * ld.toNat)) scope (deviceLines ((List.range len).map (loc + ·)))
      (if write then used (s.commitSystem (cellsAt loc (data.take len))) (some 6)
      else (used s none).send (.host ld (s.readBytes .host loc len)))
    else s)

end Sys2Proof.Machine
end

