-- ==== Sys2Proof/Machine/KeyRoute.lean ====
section
/-! DEFINITION. Key routes: kbin, ksend, and the arrival of a record at its bench (R255, R256). -/

namespace Sys2Proof.Machine

/-! ## The route word and the bin word (R255) -/

/-- R255: the fields of a route word. -/
def routeShift (w : Word) : Nat := field w 12 6
def routeLognb (w : Word) : Nat := field w 8 3
def routeB0 (w : Word) : Nat := field w 0 7

/-- R255: does a route word keep its map? -/
def routeWordOk (w : Word) : Bool :=
  field w 18 46 == 0 && field w 11 1 == 0 && field w 7 1 == 0 && routeB0 w + 2 ^ routeLognb w ≤ 128

/-- R255: the fields of a bin word. -/
def binCap (w : Word) : Nat := field w 32 16
def binLogbin (w : Word) : Nat := field w 24 3
def binBase (w : Word) : Nat := field w 8 14
def binShift (w : Word) : Nat := field w 0 6

/-- R255: the bytes of the bins of a word. -/
def binBytes (w : Word) : Nat := 2 ^ binLogbin w * binCap w * 16

/-- R255: does a bin word keep its map, for the core that sets it? -/
def State.binWordOk (s : State) (c : Nat) (w : Word) : Bool :=
  field w 48 16 == 0 && field w 27 5 == 0 && field w 22 2 == 0 && field w 6 2 == 0 && binLogbin w ≤ 6 && binCap w != 0 &&
    256 * binBase w + binBytes w ≤ 0x400000 &&
    (List.range ((binBytes w + 255) / 256)).all (fun i =>
      (s.windowLoc c (0x1000000 + 256 * (binBase w + i))).isSome)

/-- R255: kbin. -/
def execKbin (rd rs1 rs2 : BitVec 5) (s : State) : Host.Outcome State Fault Refusal :=
  s.checked 4 (fun s =>
    let b := benchOf s.here
    let w := s.x rs1
    match field (s.x rs2) 0 4 with
    | 0 =>
      if routeWordOk w then .ok ((s.modMyCore (fun k => { k with route := w })).writeX rd 0) else .ok (s.writeX rd 2)
    | 1 =>
      if s.binWordOk s.here w then .ok ((s.modBench b (fun h => { h with bin := w, fills := [] })).writeX rd 0)
      else .ok (s.writeX rd 2)
    | 2 =>
      let h := s.bench b
      .ok (s.writeX rd (if h.bin ≠ 0 ∧ w.toNat < 2 ^ binLogbin h.bin then BitVec.ofNat 64 (mapGet 0 h.fills w.toNat)
        else ones))
    | 3 => .ok ((s.modBench b (fun h => { h with fills := [] })).writeX rd 0)
    | _ => .ok (s.writeX rd ones))

/-! ## ksend (R256) -/

/-- R256: a record reaches its bench: it is binned, or dropped; the status it reports. -/
def State.binRecord (s : State) (k : KeySend) : State × Word :=
  let h := s.bench k.bench
  if h.bin = 0 then (s, 2)
  else
    let b := k.key.toNat / 2 ^ binShift h.bin % 2 ^ binLogbin h.bin
    let fill := mapGet 0 h.fills b
    if fill = binCap h.bin then (s, 1)
    else
      let off := 256 * binBase h.bin + 16 * (b * binCap h.bin + fill)
      let loc := scratchLoc (k.bench / 4 * 16 + off / 0x40000) (off % 0x40000)
      ((s.modBench k.bench (fun h => { h with fills := mapPut h.fills b (fill + 1) })).commitRoute k.core
        (cellsAt loc (leBytes 8 k.key.toNat ++ leBytes 8 k.value.toNat)), 0)

/-- R256: is the bench in a cluster that the core's launch claims? -/
def State.benchClaimed (s : State) (c bench : Nat) : Bool :=
  match ((s.core c).launch).bind s.launch with
  | some l => l.clusters.contains (bench / 4)
  | none => false

/-- R256: ksend. -/
def execKsend (rd rs1 rs2 : BitVec 5) (la : BitVec 4) (s : State) : Host.Outcome State Fault Refusal :=
  s.checked 4 (fun s =>
    let r := s.myCore.route
    let d := routeB0 r + (s.x rs1).toNat / 2 ^ routeShift r % 2 ^ routeLognb r
    let k : KeySend :=
      { core := s.here, strand := s.cur, rd := rd, bench := 128 * dieOf s.here + d, key := s.x rs1, value := s.x rs2 }
    if !s.benchClaimed s.here k.bench then .ok (s.deliverX rd 3 la.toNat)
    else if s.deferred then
      .ok ({ s with sends := s.sends ++ [k] }.await
        { dst := .x rd, todo := [], got := [], bits := 64, signed := false, window := la.toNat, queued := true })
    else
      let b := s.binRecord k
      .ok (b.1.writeX rd b.2))

/-- R256: a record arrives at its bench. -/
def execKsendArrival (core strand bench : Nat) (s : State) : Host.Outcome State Fault Refusal :=
  .next (match s.sends.find? (fun k => k.core == core && k.strand == strand && k.bench == bench) with
    | none => s
    | some k =>
      let r := ({ s with sends := s.sends.erase k } : State).binRecord k
      r.1.modStrand core strand (fun t => t.settleQueued (.x k.rd) (leBytes 8 r.2.toNat)))

end Sys2Proof.Machine
end

