-- ==== Sys2Proof/Machine/LoadStore.lean ====
section
/-! DEFINITION. The scalar loads and stores and their compressed forms (R32, R34). -/

namespace Sys2Proof.Machine

/-- R32: lb. -/
def execLb (rd rs1 : BitVec 5) (imm : BitVec 12) (s : State) : Host.Outcome State Fault Refusal :=
  s.checked 4 (fun s => s.loadScalar rd (s.x rs1 + imm12 imm) 1 true 0)

/-- R32: lh. -/
def execLh (rd rs1 : BitVec 5) (imm : BitVec 12) (s : State) : Host.Outcome State Fault Refusal :=
  s.checked 4 (fun s => s.loadScalar rd (s.x rs1 + imm12 imm) 2 true 0)

/-- R32: lw. -/
def execLw (rd rs1 : BitVec 5) (imm : BitVec 12) (s : State) : Host.Outcome State Fault Refusal :=
  s.checked 4 (fun s => s.loadScalar rd (s.x rs1 + imm12 imm) 4 true 0)

/-- R32: ld. -/
def execLd (rd rs1 : BitVec 5) (imm : BitVec 12) (s : State) : Host.Outcome State Fault Refusal :=
  s.checked 4 (fun s => s.loadScalar rd (s.x rs1 + imm12 imm) 8 true 0)

/-- R32: lbu. -/
def execLbu (rd rs1 : BitVec 5) (imm : BitVec 12) (s : State) : Host.Outcome State Fault Refusal :=
  s.checked 4 (fun s => s.loadScalar rd (s.x rs1 + imm12 imm) 1 false 0)

/-- R32: lhu. -/
def execLhu (rd rs1 : BitVec 5) (imm : BitVec 12) (s : State) : Host.Outcome State Fault Refusal :=
  s.checked 4 (fun s => s.loadScalar rd (s.x rs1 + imm12 imm) 2 false 0)

/-- R32: lwu. -/
def execLwu (rd rs1 : BitVec 5) (imm : BitVec 12) (s : State) : Host.Outcome State Fault Refusal :=
  s.checked 4 (fun s => s.loadScalar rd (s.x rs1 + imm12 imm) 4 false 0)

/-- R32: sb. -/
def execSb (rs1 rs2 : BitVec 5) (imm : BitVec 12) (s : State) : Host.Outcome State Fault Refusal :=
  s.checked 4 (fun s => s.storeBytes (s.x rs1 + imm12 imm) (leBytes 1 (s.x rs2).toNat))

/-- R32: sh. -/
def execSh (rs1 rs2 : BitVec 5) (imm : BitVec 12) (s : State) : Host.Outcome State Fault Refusal :=
  s.checked 4 (fun s => s.storeBytes (s.x rs1 + imm12 imm) (leBytes 2 (s.x rs2).toNat))

/-- R32: sw. -/
def execSw (rs1 rs2 : BitVec 5) (imm : BitVec 12) (s : State) : Host.Outcome State Fault Refusal :=
  s.checked 4 (fun s => s.storeBytes (s.x rs1 + imm12 imm) (leBytes 4 (s.x rs2).toNat))

/-- R32: sd. -/
def execSd (rs1 rs2 : BitVec 5) (imm : BitVec 12) (s : State) : Host.Outcome State Fault Refusal :=
  s.checked 4 (fun s => s.storeBytes (s.x rs1 + imm12 imm) (leBytes 8 (s.x rs2).toNat))

/-- R34: c.lw. -/
def execCLw (rd rs1 : BitVec 3) (imm : BitVec 5) (s : State) : Host.Outcome State Fault Refusal :=
  s.checked 2 (fun s => s.loadScalar (creg rd) (s.x (creg rs1) + uoff4 imm) 4 true 0)

/-- R34: c.ld. -/
def execCLd (rd rs1 : BitVec 3) (imm : BitVec 5) (s : State) : Host.Outcome State Fault Refusal :=
  s.checked 2 (fun s => s.loadScalar (creg rd) (s.x (creg rs1) + uoff8 imm) 8 true 0)

/-- R34: c.sw. -/
def execCSw (rs2 rs1 : BitVec 3) (imm : BitVec 5) (s : State) : Host.Outcome State Fault Refusal :=
  s.checked 2 (fun s => s.storeBytes (s.x (creg rs1) + uoff4 imm) (leBytes 4 (s.x (creg rs2)).toNat))

/-- R34: c.sd. -/
def execCSd (rs2 rs1 : BitVec 3) (imm : BitVec 5) (s : State) : Host.Outcome State Fault Refusal :=
  s.checked 2 (fun s => s.storeBytes (s.x (creg rs1) + uoff8 imm) (leBytes 8 (s.x (creg rs2)).toNat))

/-- R34: c.lwsp. -/
def execCLwsp (rd : BitVec 5) (imm : BitVec 6) (s : State) : Host.Outcome State Fault Refusal :=
  s.checked 2 (fun s => s.loadScalar rd (s.x sp + uoff4 imm) 4 true 0)

/-- R34: c.ldsp. -/
def execCLdsp (rd : BitVec 5) (imm : BitVec 6) (s : State) : Host.Outcome State Fault Refusal :=
  s.checked 2 (fun s => s.loadScalar rd (s.x sp + uoff8 imm) 8 true 0)

/-- R34: c.swsp. -/
def execCSwsp (rs2 : BitVec 5) (imm : BitVec 6) (s : State) : Host.Outcome State Fault Refusal :=
  s.checked 2 (fun s => s.storeBytes (s.x sp + uoff4 imm) (leBytes 4 (s.x rs2).toNat))

/-- R34: c.sdsp. -/
def execCSdsp (rs2 : BitVec 5) (imm : BitVec 6) (s : State) : Host.Outcome State Fault Refusal :=
  s.checked 2 (fun s => s.storeBytes (s.x sp + uoff8 imm) (leBytes 8 (s.x rs2).toNat))

end Sys2Proof.Machine
end

