-- ==== Sys2Proof/Machine/MatrixOps.lean ====
section
/-! DEFINITION. The matrix unit's numbers: formats, scales, cf8 blocks, sparse rows, and the order of accumulation
(R146, R151-R159, R185, R187, R188, R199, R200, R203). -/

namespace Sys2Proof.Machine

/-! ## Formats (R38, R185) -/

/-- R185: the operand classes. -/
inductive MClass where
  | fp8
  | int
  | half
  | single
  | double
  deriving DecidableEq, Repr

def codeCf8 : Nat := 3
def codeI8 : Nat := 4
def codeI4 : Nat := 5

/-- R185: the class of a format code. -/
def classOfCode (c : Nat) : Option MClass :=
  match c with
  | 1 => some .fp8
  | 2 => some .fp8
  | 3 => some .fp8
  | 4 => some .int
  | 5 => some .int
  | 6 => some .half
  | 7 => some .half
  | 8 => some .single
  | 9 => some .double
  | 10 => some .fp8
  | 11 => some .fp8
  | _ => none

/-- R152: is the code an FP8 format? -/
def isFp8 (c : Nat) : Bool := classOfCode c == some .fp8

/-- R185, R186: may the format be sparse? -/
def sparseCode (c : Nat) : Bool := [1, 2, 4, 6, 7, 10, 11].contains c

/-- R38: the floating format of a code; a cf8 element is an E4M3 byte (R153). -/
def fmtOfCode (c : Nat) : Fmt :=
  match c with
  | 2 => fmtE5m2
  | 6 => fmtBf16
  | 7 => fmtF16
  | 8 => fmtF32
  | 9 => fmtF64
  | 10 => fmtE4m3n
  | 11 => fmtE5m2n
  | _ => fmtE4m3

/-- R158: the accumulator's format; `none` for int32. -/
def MClass.acc : MClass → Option Fmt
  | .int => none
  | .double => some fmtF64
  | _ => some fmtF32

/-- R158: the levels of the tree of a chunk: 2 to this power is the chunk size. -/
def MClass.levels : MClass → Nat
  | .fp8 => 5
  | .int => 5
  | .half => 4
  | .single => 3
  | .double => 2

/-- R187, R199: the bytes that an element of a format takes; raw int32 is code 0. -/
def codeBytes (c : Nat) : Nat := if c = 0 ∨ c = 8 then 4 else if c = 6 ∨ c = 7 then 2 else if c = 9 then 8 else 1

/-- R187: the alignment of a row start. -/
def codeAlign (c : Nat) : Nat := if c = codeCf8 then 4 else codeBytes c

/-- R187: the bytes of a row of `k` elements, in a format other than cf8. -/
def rowBytes (c k : Nat) : Nat := if c = codeI4 then (k + 1) / 2 else k * codeBytes c

/-! ## Scales (R151, R152) -/

/-- R151: a scaled element. -/
def scaleBy (b : Byte) (v : Fp) : Fp := if b = 0xFF#8 then .nan else v.scale (b.toNat - 127)

/-- R152: where the scales of an operand come from. -/
inductive Scales where
  | none
  | tensor
  | row
  | block
  | own
  deriving DecidableEq, Repr

/-- R152: the scales that an operand takes in the array. -/
def Scales.count (m : Scales) (code rows k : Nat) : Nat :=
  if !isFp8 code then 0
  else
    match m with
    | .tensor => 1
    | .row => rows
    | .block => rows * ((k + 31) / 32)
    | _ => 0

/-- R152: element `i` of row `r` of an operand whose scales start at `off`, scaled. -/
def Scales.apply (m : Scales) (code : Nat) (arr : List Byte) (off r k i : Nat) (v : Fp) : Fp :=
  if !isFp8 code then v
  else
    match m with
    | .tensor => scaleBy (arr.getD off 0) v
    | .row => scaleBy (arr.getD (off + r) 0) v
    | .block => scaleBy (arr.getD (off + r * ((k + 31) / 32) + i / 32) 0) v
    | _ => v

/-! ## cf8 (R153-R156) -/

/-- R154: the codes of a codebook, for the exponents 0 to 15: length and value. -/
def codebook : Nat → List (Nat × Nat)
  | 0 => [(8, 0xFC), (7, 0x7C), (6, 0x3C), (5, 0x1C), (4, 0xC), (3, 4), (2, 0), (2, 1), (3, 5), (4, 0xD), (5, 0x1D),
      (6, 0x3D), (7, 0x7D), (8, 0xFD), (8, 0xFE), (8, 0xFF)]
  | 1 => [(2, 0), (6, 0x38), (6, 0x39), (6, 0x3A), (4, 0xA), (4, 0xB), (3, 2), (3, 3), (3, 4), (4, 0xC), (4, 0xD),
      (6, 0x3B), (6, 0x3C), (6, 0x3D), (6, 0x3E), (6, 0x3F)]
  | 2 => [(6, 0x3C), (6, 0x3D), (5, 0x1C), (4, 8), (4, 9), (4, 0xA), (3, 0), (3, 1), (3, 2), (3, 3), (4, 0xB), (4, 0xC),
      (4, 0xD), (5, 0x1D), (6, 0x3E), (6, 0x3F)]
  | _ => (List.range 16).map (fun e => (4, e))

/-- R153: bits `lo`, `lo + 1`, … of a stream, `n` of them. -/
def streamBits (w lo n : Nat) : Nat := w / 2 ^ lo % 2 ^ n

/-- R153, R154: the exponent whose code stands at a stream position, most significant bit first, and the position after
it. `code` and `len` are the bits read so far. -/
def token (book : List (Nat × Nat)) (w : Nat) : Nat → Nat → Nat → Nat → Option (Nat × Nat)
  | 0, _, _, _ => none
  | fuel + 1, pos, len, code =>
    let code' := 2 * code + streamBits w pos 1
    match (List.range 16).find? (fun e => book[e]? == some (len + 1, code')) with
    | some e => some (e, pos + 1)
    | none => token book w fuel (pos + 1) (len + 1) code'

/-- R153: the exponents of `n` elements whose tokens start at a position; `none` if a token ends past bit `lim`. -/
def tokens (book : List (Nat × Nat)) (w lim : Nat) : Nat → Nat → Option (List Nat)
  | 0, _ => some []
  | n + 1, pos =>
    match token book w 8 pos 0 0 with
    | none => none
    | some (e, pos') => if lim < pos' then none else (tokens book w lim n pos').map (e :: ·)

/-- R153: the E4M3 bytes of a block of which `nw` words have been read; `none` when it needs more. -/
def blockBytes (w nw : Nat) : Option (List Byte) :=
  (tokens (codebook (streamBits w 8 2)) w (32 * nw) 32 138).map (fun es =>
    ((List.range 32).zip es).map (fun p =>
      BitVec.ofNat 8 (streamBits w (10 + p.1) 1 * 128 + p.2 * 8 + streamBits w (42 + 3 * p.1) 3)))

/-- R155: a block that overruns its nine words. -/
def overrunBlock : List Byte := List.replicate 32 0x7F#8

/-! ## Rows -/

/-- The elements of a row of `k`: of plain bytes, or, for cf8, of blocks of a scale and 32 E4M3 bytes. -/
def rowElems (code k : Nat) (own : Bool) (bs : List Byte) : List Fp :=
  (List.range k).map (fun i =>
    if code = codeCf8 then
      let v := fmtE4m3.decode (bs.getD (33 * (i / 32) + 1 + i % 32) 0).toNat
      if own then scaleBy (bs.getD (33 * (i / 32)) 0) v else v
    else if code = codeI4 then
      let b := (bs.getD (i / 2) 0).toNat
      Fp.ofInt (BitVec.ofNat 4 (if i % 2 = 0 then b % 16 else b / 16)).toInt 0
    else
      let n := codeBytes code
      let w := leNat ((bs.drop (i * n)).take n)
      if code = codeI8 ∨ code = 0 then Fp.ofInt (signedOf n w) 0 else (fmtOfCode code).decode w)

/-- R157, R188: a sparse row of `k` positions: its groups' metadata words, then their `n` stored values. -/
def sparseElems (code k n : Nat) (bs : List Byte) : List (Option Fp) :=
  let g := (k + 23) / 24
  let vals := rowElems code (g * n) false (bs.drop (4 * g))
  (List.range k).map (fun p =>
    let bits := leNat ((bs.drop (4 * (p / 24))).take 4)
    let j := (List.range (p % 24)).countP bits.testBit
    if bits.testBit (p % 24) && j < n then vals[p / 24 * n + j]? else none)

/-! ## Accumulation (R158, R159) -/

/-- The integer that a value is; 0 for the others. -/
def Fp.toInt : Fp → Int
  | .fin neg m e =>
    let v : Int := (m * 2 ^ e.toNat / 2 ^ (-e).toNat : Nat)
    if neg then -v else v
  | _ => 0

/-- R158: rounding to the accumulator: RNE to its format, or modulo 2^32. -/
def MClass.round (c : MClass) (v : Fp) : Fp :=
  match c.acc with
  | some f => (f.round rne v).1
  | none => Fp.ofInt (BitVec.ofInt 32 v.toInt).toInt 0

/-- R158: a node of the tree. -/
def MClass.node (c : MClass) (a b : Fp) : Fp := c.round (a.add false b).1

/-- The zero of a leaf that takes no part. -/
def Fp.zero : Fp := .fin false 0 0

/-- R158: the leaves of one chunk. -/
def leaves (a : List Fp) (b : List (Option Fp)) : List Fp :=
  (a.zip b).map (fun p => match p.2 with
    | some v => (p.1.mul v).1
    | none => Fp.zero)

/-- R158: a chunk filled to its size. -/
def padChunk (n : Nat) (l : List Fp) : List Fp := l ++ List.replicate (n - l.length) Fp.zero

/-- R158: an accumulator element after its chunks, in increasing k. -/
def MClass.accumulate (c : MClass) : Nat → List Fp → List (Option Fp) → Fp → Fp
  | 0, _, _, acc => acc
  | fuel + 1, a, b, acc =>
    if a = [] then acc
    else
      let n := 2 ^ c.levels
      let root := treeOf Fp.zero c.node c.levels (padChunk n (leaves (a.take n) (b.take n)))
      c.accumulate fuel (a.drop n) (b.drop n) (c.node acc root)

/-! ## Microprograms (R202, R203) -/

/-- R202: slot `j` of a microprogram. -/
def microSlot (p : Word) (j : Nat) : BitVec 16 := p.extractLsb' (16 * j) 16

/-- R202: is a slot valid, after the END of an earlier one or not? -/
def slotValid (ended : Bool) (s : BitVec 16) : Bool :=
  let op := (s.extractLsb' 12 4).toNat
  if ended || op = 0 then s == 0
  else
    op ≤ 8 && s.extractLsb' 0 4 == 0 && s.extractLsb' 4 2 != 3 && (op < 6 || s.extractLsb' 9 3 == 0)

/-- R202: the lowest invalid slot. -/
def badSlot (p : Word) : Option Nat :=
  (List.range 4).find? (fun j =>
    !slotValid ((List.range j).any (fun i => (microSlot p i).extractLsb' 12 4 == 0)) (microSlot p j))

/-- R203: the slots before the first END. -/
def usedSlots (p : Word) : List (BitVec 16) :=
  ((List.range 4).map (microSlot p)).takeWhile (fun s => s.extractLsb' 12 4 != 0)

/-- R203: the registers of a recurrence. -/
structure Micro where
  a : Fp
  b : Fp
  s : Fp
  t : Fp
  u : Fp
  deriving DecidableEq, Repr

/-- R202, R203: a source of a micro-operation. -/
def Micro.source (r : Micro) (c : MClass) (i : BitVec 3) : Fp :=
  match i.toNat with
  | 0 => r.a
  | 1 => r.b
  | 2 => r.s
  | 3 => r.t
  | 4 => r.u
  | 5 => Fp.zero
  | 6 => .fin false 1 0
  | _ => if c = .int then .fin true 1 31 else .inf true

/-- R203: the exact result of a micro-operation. -/
def microOp (op : Nat) (x y : Fp) : Fp :=
  match op with
  | 1 => (x.add false y).1
  | 2 => (x.add false y.negate).1
  | 3 => (x.mul y).1
  | 4 => x.maximumNumber y
  | 5 => x.minimumNumber y
  | 6 => x.exp2.1
  | 8 => x.negate
  | _ => x

/-- R203: one micro-operation. -/
def Micro.step (c : MClass) (r : Micro) (s : BitVec 16) : Micro :=
  let v := c.round (microOp (s.extractLsb' 12 4).toNat (r.source c (s.extractLsb' 6 3)) (r.source c (s.extractLsb' 9 3)))
  match (s.extractLsb' 4 2).toNat with
  | 0 => { r with s := v }
  | 1 => { r with t := v }
  | _ => { r with u := v }

/-- R203: an accumulator element after a recurrence over its row and column. -/
def MClass.recur (c : MClass) (slots : List (BitVec 16)) : List Fp → List Fp → Fp → Fp
  | a :: as, b :: bs, s =>
    c.recur slots as bs
      (slots.foldl (Micro.step c) { a := c.round a, b := c.round b, s := s, t := Fp.zero, u := Fp.zero }).s
  | _, _, s => s

/-! ## Accumulator words (R181, R199, R200) -/

/-- The value of an accumulator word. -/
def MClass.value (c : MClass) (w : Nat) : Fp :=
  match c.acc with
  | some f => f.decode w
  | none => Fp.ofInt (signedOf 4 w) 0

/-- The accumulator word of a value, rounded RNE. -/
def MClass.word (c : MClass) (v : Fp) : Nat :=
  match c.acc with
  | some f => f.encode (f.round rne v).1
  | none => (BitVec.ofInt 32 v.toInt).toNat

/-- R199: the format codes that mld accepts. -/
def MClass.loadCodes : MClass → List Nat
  | .int => [0, 4, 5]
  | .double => [0, 8]
  | _ => [0, 6, 7, 1, 2, 10, 11, 3, 4, 5]

/-- R200: the format codes that mst accepts. -/
def MClass.storeCodes : MClass → List Nat
  | .int => [0, 4, 5]
  | .double => [0, 8]
  | _ => [0, 6, 7, 1, 2, 10, 11, 4, 5]

/-- R199, R200: the format of a row in memory; raw means the accumulator's own. -/
def MClass.rowCode (c : MClass) (f : Nat) : Nat :=
  if f ≠ 0 then f
  else
    match c with
    | .int => 0
    | .double => 9
    | _ => 8

/-- R149, R200: an accumulator value as an integer of `bits` bits. -/
def MClass.narrow (c : MClass) (bits : Nat) (v : Fp) : Nat :=
  if c = .int then (saturate bits v.toInt).toNat else (toInteger rne bits true v).1

/-- Nibbles packed two to a byte, the first low; an odd one alone (R146, R200). -/
def packNibbles : List Nat → List Byte
  | a :: b :: r => BitVec.ofNat 8 (a % 16 + 16 * (b % 16)) :: packNibbles r
  | [a] => [BitVec.ofNat 8 (a % 16)]
  | [] => []

/-- R200: the bytes of a row of accumulator words stored in format `f`. -/
def MClass.storeRow (c : MClass) (f : Nat) (ws : List Nat) : List Byte :=
  if f = 0 then ws.flatMap (leBytes (codeBytes (c.rowCode 0)))
  else if f = codeI8 then ws.map (fun w => BitVec.ofNat 8 (c.narrow 8 (c.value w)))
  else if f = codeI4 then packNibbles (ws.map (fun w => c.narrow 4 (c.value w)))
  else
    let k := fmtOfCode f
    ws.flatMap (fun w => leBytes (codeBytes f) (k.encode (k.round rne (c.value w)).1))

/-- R199: the accumulator words of a row loaded in format `f`. -/
def MClass.loadRow (c : MClass) (f : Nat) (bs : List Byte) (vs : List Fp) : List Nat :=
  if f = 0 then
    let n := codeBytes (c.rowCode 0)
    (List.range vs.length).map (fun i => leNat ((bs.drop (n * i)).take n))
  else vs.map c.word

end Sys2Proof.Machine
end

