-- ==== Sys2Proof/Machine/Matrix.lean ====
section
/-! DEFINITION. The matrix queue: claims, the checks of a command, its retirement with row progress, and its issue
(R179-R192, R195, R214). -/

namespace Sys2Proof.Machine

/-! ## The configuration (R180, R181, R183) -/

def cfgSamask (w : Word) : BitVec 4 := w.extractLsb' 0 4
def cfgFuse (w : Word) : Nat := field w 8 2
def cfgFmtA (w : Word) : Nat := field w 12 5
def cfgFmtB (w : Word) : Nat := field w 17 5
def cfgMrows (w : Word) : Nat := field w 24 8
def cfgNcols (w : Word) : Nat := field w 32 8

/-- R183: the fields that must be 0 in a configuration that mcfg takes. -/
def cfgZeroMask : Word := 0xFFFFFF0000C00CF0#64

/-- R180: the rows of the claim table. -/
def claimOk (samask : BitVec 4) (fuse : Nat) : Bool :=
  match fuse with
  | 0 => samask != 0
  | 1 => samask == 3 || samask == 12 || samask == 15
  | _ => samask == 15

/-- R180: the sub-arrays of an accumulator name under a claim, the lowest first. -/
def nameGroup (samask : BitVec 4) (fuse k : Nat) : Option (List Nat) :=
  match fuse with
  | 0 => if samask.getLsbD (k / 2) then some [k / 2] else none
  | 1 =>
    if k < 2 ∧ samask.getLsbD 0 ∧ samask.getLsbD 1 then some [0, 1]
    else if 4 ≤ k ∧ k < 6 ∧ samask.getLsbD 2 ∧ samask.getLsbD 3 then some [2, 3]
    else none
  | _ => if k < 2 then some [0, 1, 2, 3] else none

/-- R180: the rows and columns of a name's cell grid. -/
def gridRows (fuse : Nat) : Nat := if fuse = 3 then 128 else 64
def gridCols (fuse : Nat) : Nat := match fuse with
  | 0 => 64
  | 1 => 128
  | 2 => 256
  | _ => 128

/-- R181: the tile and the place in it of element (m, n), in tiles of `t`. -/
def placeOf (fuse t m n : Nat) : Nat × Nat × Nat :=
  (if fuse = 3 then 2 * (m / t) + n / t else n / t, m % t, n % t)

/-- R181: where a cell of accumulator `j` of a sub-array is held. -/
def cellKey (sub j r c : Nat) : Nat := 8192 * sub + 4096 * j + 64 * r + c

/-! ## A command as checked -/

/-- What the checks of a command fix: the group and accumulator of its name, its class, region, formats and scales. -/
structure MCmd where
  group : List Nat
  j : Nat
  fuse : Nat
  cls : MClass
  rows : Nat
  cols : Nat
  fa : Nat
  fb : Nat
  fmt1 : Nat
  n24 : Nat
  scales : Scales
  k : Nat
  deriving DecidableEq, Repr

/-- How a command fails (R214). `row` is the row reached. -/
inductive MFail where
  | illegal
  | matrix (reason : Nat)
  | misaligned (store : Bool) (va : Word)
  | access (store : Bool) (f : XFault)
  | memory (va : Word)
  | integrity (va : Word)
  deriving DecidableEq, Repr

/-- R214: the reasons of a matrix fault. -/
def matrixClaim : Nat := 1
def matrixConfig : Nat := 2
def matrixRange : Nat := 3

/-- The instructions whose operands multiply, with their names. -/
inductive MKind where
  | mul (sparse : Bool) (recur : Bool)
  | load
  | store
  | plain
  | tile
  deriving DecidableEq, Repr

/-- The fields of a prefix; without one, those of an all-zero one. -/
def prefixOf (e : MEntry) : Prefix := Prefix.ofWord (e.prefixWord.getD 0)

/-- R152: the scale mode of a prefix. -/
def Prefix.scaleMode (p : Prefix) : Scales :=
  match p.smode.toNat with
  | 0 => .none
  | 1 => .tensor
  | 2 => .row
  | _ => if p.sreg = 0 then .own else .block

/-- R152: may a scale mode govern operands of these formats? -/
def Scales.legal (m : Scales) (codes : List Nat) : Bool :=
  let fp8 := codes.filter isFp8
  match m with
  | .none => true
  | .own => !fp8.isEmpty && fp8.all (· == codeCf8)
  | _ => !fp8.isEmpty

/-- R185: a format in force: the prefix's, or the configuration's where the prefix says "same". -/
def inForce (p c : Nat) : Nat := if p = 0 then c else p

/-- R185: the classes; a prefix of mld or mst whose FMTA names none must stand in some row of its conversion table (R186). -/
def allClasses : List MClass := [.fp8, .int, .half, .single, .double]

/-- R109, R185, R186: is the prefix, or its absence, accepted? -/
def prefixAccepted (kind : MKind) (e : MEntry) : Bool :=
  let p := prefixOf e
  let f1 := p.fmt1.toNat
  let f2 := p.fmt2.toNat
  let fa := inForce f1 (cfgFmtA e.mcfgw)
  let fb := inForce f2 (cfgFmtB e.mcfgw)
  match kind with
  | .mul sparse _ =>
    (p.n != 0) == sparse &&
      (match classOfCode fa, classOfCode fb with
      | some a, some b => a == b || (f1 == 0 && f2 == 0)
      | _, _ => true) &&
      (!sparse || f2 == 0 || sparseCode f2) && p.scaleMode.legal [fa, fb]
  | .load =>
    f2 == 0 && p.n == 0 &&
      (match classOfCode (cfgFmtA e.mcfgw) with
      | some c => c.loadCodes.contains f1
      | none => allClasses.any (·.loadCodes.contains f1)) && p.scaleMode.legal [f1]
  | .store =>
    f2 == 0 && p.n == 0 && p.smode == 0 &&
      (match classOfCode (cfgFmtA e.mcfgw) with
      | some c => c.storeCodes.contains f1
      | none => allClasses.any (·.storeCodes.contains f1))
  | _ => e.prefixWord == none

/-- R184: the claim check. -/
def State.claimHeld (s : State) (c : Nat) (w : Word) : Bool :=
  let k := s.core c
  k.samask != 0 && cfgSamask w == k.samask && cfgFuse w == k.fuse.toNat

/-- R184, R185, R205: the checks of a command on accumulator `k` for its configuration. -/
def configCheck (kind : MKind) (mprog : Word) (k : Nat) (e : MEntry) : Except MFail MCmd :=
  let w := e.mcfgw
  let p := prefixOf e
  let fuse := cfgFuse w
  let bad : Except MFail MCmd := .error (.matrix matrixConfig)
  let fa := inForce (if kind = .load ∨ kind = .store then 0 else p.fmt1.toNat) (cfgFmtA w)
  let fb := inForce p.fmt2.toNat (cfgFmtB w)
  match nameGroup (cfgSamask w) fuse k with
  | none => bad
  | some group =>
    let cmd := fun (cls : MClass) (rows cols : Nat) =>
      ({ group := group, j := k % 2, fuse := fuse, cls := cls, rows := rows, cols := cols, fa := fa, fb := fb,
         fmt1 := p.fmt1.toNat, n24 := p.n.toNat, scales := p.scaleMode, k := e.mkLen.toNat } : MCmd)
    match kind, classOfCode fa with
    | .plain, _ => .ok (cmd .single (gridRows fuse) (gridCols fuse))
    | _, none => bad
    | .tile, some cls => if fuse = 0 ∧ cls.acc = some fmtF32 then .ok (cmd cls 64 64) else bad
    | kind, some cls =>
      let half := if cls = .double then 2 else 1
      let rows := gridRows fuse / half
      let cols := gridCols fuse / half
      let mul : Bool := match kind with
        | .mul _ _ => true
        | _ => false
      if rows < cfgMrows w ∨ cols < cfgNcols w ∨ (mul ∧ 131072 < e.mkLen.toNat) then bad
      else if mul ∧ classOfCode fb ≠ some cls then bad
      else if kind = .mul true false ∧ !sparseCode fb then bad
      else if kind = .mul false true ∧ cls = .int ∧
          (usedSlots mprog).any (fun s => s.extractLsb' 12 4 == 6) then bad
      else
        .ok (cmd cls (if cfgMrows w = 0 then rows else cfgMrows w) (if cfgNcols w = 0 then cols else cfgNcols w))

/-- R205: the check of a coverage instruction on a sub-array. -/
def subCheck (e : MEntry) (sa : Nat) : Except MFail MCmd :=
  if cfgFuse e.mcfgw = 0 ∧ (cfgSamask e.mcfgw).getLsbD sa then
    .ok { group := [sa], j := 0, fuse := 0, cls := .single, rows := 64, cols := 64, fa := 0, fb := 0, fmt1 := 0, n24 := 0,
          scales := .none, k := 0 }
  else .error (.matrix matrixConfig)

/-- R206: an f32 word that is a NaN. -/
def isNan32 (w : Nat) : Bool := fmtF32.decode w == .nan

/-! ## Alignment (R187, R212) -/

/-- The address of row `m`. -/
def rowAddr (base stride : Word) (m : Nat) : Word := base + BitVec.ofNat 64 m * stride

/-- R187: the first row start that breaks an alignment. -/
def badRow (base stride : Word) (rows n : Nat) : Option Word :=
  ((List.range rows).map (rowAddr base stride)).find? (fun a => a.toNat % n ≠ 0)

/-- R187: the alignment check of the row starts of a command, those of A first. -/
def alignCheck (store : Bool) (l : List (Option Word)) : Except MFail Unit :=
  match l.findSome? id with
  | some va => .error (.misaligned store va)
  | none => .ok ()

/-! ## The checks of each instruction (R184-R187, R205, R206, R208, R211, R212, R214) -/

/-- R214: illegal instruction, then MATRIX_CLAIM, unless the claim is `held`, then what follows. -/
def claimed (held : Bool) (kind : MKind) (e : MEntry) (f : Except MFail MCmd) : Except MFail MCmd :=
  if !prefixAccepted kind e then .error .illegal
  else if !held then .error (.matrix matrixClaim)
  else f

/-- A further check. -/
def also (r : Except MFail MCmd) (ok : Bool) (f : MFail) : Except MFail MCmd :=
  match r with
  | .ok m => if ok then .ok m else .error f
  | .error x => .error x

/-- The alignment check after the others. -/
def alsoAligned (r : Except MFail MCmd) (f : MCmd → Except MFail Unit) : Except MFail MCmd :=
  match r with
  | .ok m => (f m).map (fun _ => m)
  | .error x => .error x

/-- R196, R197, R203: the checks of a command that multiplies. -/
def checkMul (held : Bool) (mprog : Word) (sparse recur : Bool) (kd : BitVec 3) (e : MEntry) : Except MFail MCmd :=
  let kind := MKind.mul sparse recur
  alsoAligned (claimed held kind e (configCheck kind mprog kd.toNat e)) (fun m =>
    alignCheck false [badRow e.xa e.mstra m.rows (codeAlign m.fa),
      badRow e.xb e.mstrb m.cols (if sparse then 4 else codeAlign m.fb)])

/-- R184-R187: the checks that an entry passes before anything is translated, and what they fix. -/
def matrixCheck (held : Bool) (mprog : Word) (e : MEntry) : Except MFail MCmd :=
  let none' : Except MFail MCmd := (.ok
    { group := [], j := 0, fuse := 0, cls := .single, rows := 0, cols := 0, fa := 0, fb := 0, fmt1 := 0, n24 := 0,
      scales := .none, k := 0 })
  let plain := fun (k : BitVec 3) => claimed held .plain e (configCheck .plain 0 k.toNat e)
  let sub := fun (a : BitVec 2) => claimed held .plain e (subCheck e a.toNat)
  let tile := fun (k : BitVec 3) => claimed held .tile e (configCheck .tile 0 k.toNat e)
  let range := MFail.matrix matrixRange
  match e.instr with
  | .mma kd _ _ _ => checkMul held mprog false false kd e
  | .mmas kd _ _ _ => checkMul held mprog true false kd e
  | .mrec kd _ _ _ => checkMul held mprog false true kd e
  | .mld kd _ _ _ =>
    alsoAligned (claimed held .load e (configCheck .load 0 kd.toNat e)) (fun m =>
      alignCheck false [badRow e.xa e.xb m.rows (codeAlign (m.cls.rowCode m.fmt1))])
  | .mst kd _ _ _ =>
    alsoAligned (claimed held .store e (configCheck .store 0 kd.toNat e)) (fun m =>
      alignCheck true [badRow e.xa e.xb m.rows (codeAlign (m.cls.rowCode m.fmt1))])
  | .mzero kd _ => plain kd
  | .mrd _ ks1 _ _ => plain ks1
  | .mwr kd _ _ => plain kd
  | .cvinit rd _ _ =>
    also (sub rd) (!isNan32 (e.xa.toNat % 2 ^ 32) && e.xb.toNat < 4) range
  | .cvprobe rd _ _ => also (tile rd) (e.xb.toNat ≤ 63) range
  | .cvcommit rd _ _ => also (tile rd) (e.xa.toNat ≤ 63 && e.xb.toNat ≤ 63) range
  | .cvgain _ rs1 => sub rs1
  | .cvclr rd => sub rd
  | .cvsel _ rs1 _ => sub rs1
  | .cvsave rd _ => alsoAligned (sub rd) (fun _ => alignCheck true [badRow e.xa 0 1 256])
  | .cvrest rd _ => alsoAligned (sub rd) (fun _ => alignCheck false [badRow e.xa 0 1 256])
  | _ => if e.prefixWord = none then none' else .error .illegal

/-! ## Retirement (R190, R192) -/

/-- How far the translation of an entry came: done, stopped by a fault at a row, or waiting for a line. -/
inductive MStop where
  | fail (f : MFail)
  | line (l : Nat)
  deriving DecidableEq, Repr

/-- The address space of an entry: its strand's, or its chain's. -/
def State.matrixCtx (s : State) (c : Nat) (e : MEntry) : XCtx :=
  match (e.chain).bind ((s.bench (benchOf c)).chain) with
  | some k => k.ctx
  | none => s.xctx c e.strand

/-- R192, R232: the context in which the load pipes translate an entry's operands. -/
def State.pipeCtx (s : State) (c : Nat) (e : MEntry) : XCtx := { s.matrixCtx c e with via := .pipe }

/-- R190: bytes that a matrix unit reads. -/
def State.matrixRead (s : State) (x : XCtx) (va : Word) (n : Nat) : Except MStop (State × List Byte) :=
  match s.translate x .load va n with
  | .error f => .error (.fail (.access false f))
  | .ok (s1, locs) =>
    match s1.ownedLine locs with
    | some l => .error (.line l)
    | none =>
      match s1.onDie locs with
      | .error v => .error (.fail (.integrity v))
      | .ok s2 =>
        if s2.poisonedAt locs then .error (.fail (.memory va))
        else .ok (s2, locs.map (s2.byteFor (.core x.core)))

/-- R155, R156: the scale and the bytes of a cf8 block, of which `nw` words are tried. -/
def State.blockRead (s : State) (x : XCtx) (va : Word) : Nat → Nat → Except MStop (State × List Byte)
  | 0, _ => .ok (s, (0 : Byte) :: overrunBlock)
  | fuel + 1, nw =>
    match s.matrixRead x va (4 * nw) with
    | .error e => .error e
    | .ok (s1, b) =>
      match blockBytes (leNat b) nw with
      | some d => .ok (s1, b.headD 0 :: d)
      | none => if fuel = 0 then .ok (s1, b.headD 0 :: overrunBlock) else s.blockRead x va fuel (nw + 1)

/-- R156: the blocks of a cf8 row whose word offsets are given. -/
def State.blocksRead (x : XCtx) (va : Word) : List Nat → State → Except MStop (State × List Byte)
  | [], s => .ok (s, [])
  | o :: os, s =>
    match s.blockRead x (va + BitVec.ofNat 64 (4 * o)) 5 5 with
    | .error e => .error e
    | .ok (s1, b) => (State.blocksRead x va os s1).map (fun r => (r.1, b ++ r.2))

/-- R187, R204: a dense row of `k` elements. -/
def State.rowRead (s : State) (x : XCtx) (code k : Nat) (va : Word) : Except MStop (State × List Byte) :=
  if code = codeCf8 then
    let n := (k + 31) / 32
    match s.matrixRead x va (2 * (n + n % 2)) with
    | .error e => .error e
    | .ok (s1, b) => State.blocksRead x va ((List.range n).map (fun i => leNat ((b.drop (2 * i)).take 2))) s1
  else s.matrixRead x va (rowBytes code k)

/-- R188: a sparse row. -/
def State.sparseRead (s : State) (x : XCtx) (code k n : Nat) (va : Word) : Except MStop (State × List Byte) :=
  let g := (k + 23) / 24
  s.matrixRead x va (4 * g + rowBytes code (g * n))

/-- Rows read in order, as far as they can be: those read, and how the next one fails. -/
def readRows (f : State → Word → Except MStop (State × List Byte)) :
    List Word → State → State × List (List Byte) × Option MStop
  | [], s => (s, [], none)
  | a :: as, s =>
    match f s a with
    | .error e => (s, [], some e)
    | .ok (s1, b) =>
      let r := readRows f as s1
      (r.1, b :: r.2.1, r.2.2)

/-- R190: rows of destinations translated in order, as far as they can be. -/
def destRows (x : XCtx) (n : Nat) : List Word → State → State × List (List Nat) × Option MStop
  | [], s => (s, [], none)
  | a :: as, s =>
    match s.translate x .store a n with
    | .error f => (s, [], some (.fail (.access true f)))
    | .ok (s1, locs) =>
      match s1.ownedLine locs, s1.onDie locs with
      | some l, _ => (s, [], some (.line l))
      | none, .error v => (s, [], some (.fail (.integrity v)))
      | none, .ok s2 =>
        let r := destRows x n as s2
        (r.1, locs :: r.2.1, r.2.2)

/-- The addresses of the rows from row `m` on. -/
def rowsFrom (base stride : Word) (m rows : Nat) : List Word :=
  ((List.range rows).drop m).map (rowAddr base stride)

/-- What the retirement of an entry comes to: its state and entry, and how it stops. `rows` says that the stop is at a
row, after those of the entry. -/
structure MRetire where
  s : State
  e : MEntry
  stop : Option MStop
  rows : Bool
  deriving DecidableEq, Repr

/-- R192: the retirement of mma, mmas and mrec: B, the scale array, then A from row mrp on. -/
def State.retireMul (s : State) (c : Nat) (e : MEntry) (m : MCmd) : MRetire :=
  let x := s.pipeCtx c e
  let b := readRows (fun s => if m.n24 = 0 then s.rowRead x m.fb m.k else s.sparseRead x m.fb m.k m.n24)
    (rowsFrom e.xb e.mstrb 0 m.cols) s
  match b.2.2 with
  | some stop => { s := s, e := e, stop := some stop, rows := false }
  | none =>
    match b.1.matrixRead x e.sregVal (m.scales.count m.fa m.rows m.k + m.scales.count m.fb m.cols m.k) with
    | .error stop => { s := s, e := e, stop := some stop, rows := false }
    | .ok (s1, sc) =>
      let a := readRows (fun s => s.rowRead x m.fa m.k) (rowsFrom e.xa e.mstra e.mrp.toNat m.rows) s1
      { s := a.1, e := { e with rowsA := a.2.1, rowsB := b.2.1, scales := sc }, stop := a.2.2, rows := true }

/-- R192, R199: the retirement of mld. -/
def State.retireLoad (s : State) (c : Nat) (e : MEntry) (m : MCmd) : MRetire :=
  let x := s.pipeCtx c e
  match s.matrixRead x e.sregVal (m.scales.count m.fmt1 m.rows m.cols) with
  | .error stop => { s := s, e := e, stop := some stop, rows := false }
  | .ok (s1, sc) =>
    let a := readRows (fun s => s.rowRead x (m.cls.rowCode m.fmt1) m.cols) (rowsFrom e.xa e.xb e.mrp.toNat m.rows) s1
    { s := a.1, e := { e with rowsA := a.2.1, scales := sc }, stop := a.2.2, rows := true }

/-- R192, R200: the retirement of mst. -/
def State.retireStore (s : State) (c : Nat) (e : MEntry) (m : MCmd) : MRetire :=
  let x := s.matrixCtx c e
  let d := destRows x (rowBytes (m.cls.rowCode m.fmt1) m.cols) (rowsFrom e.xa e.xb e.mrp.toNat m.rows) s
  { s := d.1, e := { e with locs := d.2.1 }, stop := d.2.2, rows := true }

/-- R212: the bytes of a coverage image. -/
def coverageSize : Nat := 0x4200

/-- R212: what a coverage image must hold. -/
def imageOk (b : List Byte) : Bool :=
  recNat b 0x4100 8 < 4 && (List.range 4096).all (fun i => !isNan32 (leNat ((b.drop (4 * i)).take 4)))

/-- R212: the retirement of cvrest. -/
def State.retireRestore (s : State) (c : Nat) (e : MEntry) : MRetire :=
  match s.matrixRead (s.pipeCtx c e) e.xa coverageSize with
  | .error stop => { s := s, e := e, stop := some stop, rows := false }
  | .ok (s1, b) =>
    if imageOk b then { s := s1, e := { e with rowsA := [b] }, stop := none, rows := false }
    else { s := s, e := e, stop := some (.fail (.matrix matrixRange)), rows := false }

/-- R189, R192: everything that an entry translates and reads before it retires. -/
def State.matrixRetire (s : State) (c : Nat) (e : MEntry) (m : MCmd) : MRetire :=
  match e.instr with
  | .mma _ _ _ _ => s.retireMul c e m
  | .mmas _ _ _ _ => s.retireMul c e m
  | .mrec _ _ _ _ => s.retireMul c e m
  | .mld _ _ _ _ => s.retireLoad c e m
  | .mst _ _ _ _ => s.retireStore c e m
  | .cvsave _ _ =>
    let d := destRows (s.matrixCtx c e) coverageSize [e.xa] s
    { s := d.1, e := { e with locs := d.2.1 }, stop := d.2.2, rows := false }
  | .cvrest _ _ => s.retireRestore c e
  | _ => { s := s, e := e, stop := none, rows := false }

/-- R189: does the entry translate before it retires? -/
def translates (i : Instr) : Bool :=
  match i with
  | .mma _ _ _ _ => true
  | .mmas _ _ _ _ => true
  | .mrec _ _ _ _ => true
  | .mld _ _ _ _ => true
  | .mst _ _ _ _ => true
  | .cvsave _ _ => true
  | .cvrest _ _ => true
  | _ => false

/-- R192: does the entry keep its row progress in mrp? -/
def progresses (i : Instr) : Bool :=
  match i with
  | .mma _ _ _ _ => true
  | .mmas _ _ _ _ => true
  | .mrec _ _ _ _ => true
  | .mld _ _ _ _ => true
  | .mst _ _ _ _ => true
  | _ => false

end Sys2Proof.Machine
end

