-- ==== Sys2Proof/Machine/MatrixRun.lean ====
section
/-! DEFINITION. What the entries of the matrix queue do when they complete (R181, R182, R195-R213), their issue, and the
two points of a queued entry (R189). -/

namespace Sys2Proof.Machine

/-! ## Cells and elements (R181) -/

/-- The accumulator cell at a key; every cell is 0 at first. -/
def Bench.cell (h : Bench) (key : Nat) : BitVec 32 := mapGet 0 h.acc key

/-- The bench with an accumulator cell written. -/
def Bench.setCell (h : Bench) (key : Nat) (w : Nat) : Bench := { h with acc := mapSet 0 h.acc key (BitVec.ofNat 32 w) }

/-- The sub-array of tile `q` of a command's group. -/
def MCmd.sub (m : MCmd) (q : Nat) : Nat := m.group.headD 0 + q

/-- R181: the cells of logical element (r, c). -/
def MCmd.elemKeys (m : MCmd) (r c : Nat) : List Nat :=
  if m.cls = .double then
    let p := placeOf m.fuse 32 r c
    [cellKey (m.sub p.1) m.j p.2.1 (2 * p.2.2), cellKey (m.sub p.1) m.j p.2.1 (2 * p.2.2 + 1)]
  else
    let p := placeOf m.fuse 64 r c
    [cellKey (m.sub p.1) m.j p.2.1 p.2.2]

/-- The word of a logical element. -/
def Bench.elem (h : Bench) (m : MCmd) (r c : Nat) : Nat :=
  (m.elemKeys r c).foldr (fun k acc => (h.cell k).toNat + 2 ^ 32 * acc) 0

/-- The bench with the words of consecutive elements of a row written. -/
def Bench.setElems (h : Bench) (m : MCmd) (r : Nat) (ws : List Nat) : Bench :=
  ((List.range ws.length).zip ws).foldl (fun h p =>
    match m.elemKeys r p.1 with
    | [k] => h.setCell k p.2
    | [lo, hi] => (h.setCell lo p.2).setCell hi (p.2 / 2 ^ 32)
    | _ => h) h

/-- R201: the cells of segment `b` of cell row `r`; none outside the grid. -/
def MCmd.segment (m : MCmd) (sel : Word) : List Nat :=
  let r := field sel 0 8
  let b := field sel 8 8
  if gridRows m.fuse ≤ r ∨ gridCols m.fuse ≤ 64 * b then []
  else
    (List.range 64).map (fun i =>
      let p := placeOf m.fuse 64 r (64 * b + i)
      cellKey (m.sub p.1) m.j p.2.1 p.2.2)

/-! ## The commands (R196-R203) -/

/-- R152: a row of elements, scaled. -/
def scaleRow (m : Scales) (code : Nat) (arr : List Byte) (off r k : Nat) (vs : List Fp) : List Fp :=
  ((List.range vs.length).zip vs).map (fun p => m.apply code arr off r k p.1 p.2)

/-- R187, R188: the columns of B, decoded and scaled. -/
def MCmd.columns (m : MCmd) (e : MEntry) : List (List (Option Fp)) :=
  let off := m.scales.count m.fa m.rows m.k
  ((List.range e.rowsB.length).zip e.rowsB).map (fun p =>
    let vs := if m.n24 = 0 then (rowElems m.fb m.k (m.scales == .own) p.2).map some else sparseElems m.fb m.k m.n24 p.2
    ((List.range vs.length).zip vs).map (fun v => v.2.map (m.scales.apply m.fb e.scales off p.1 m.k v.1)))

/-- R196, R203: a row of A against every column. -/
def Bench.mulRow (h : Bench) (m : MCmd) (slots : Option (List (BitVec 16))) (cols : List (List (Option Fp))) (r : Nat)
    (a : List Fp) : Bench :=
  h.setElems m r (((List.range cols.length).zip cols).map (fun p =>
    let s := m.cls.value (h.elem m r p.1)
    m.cls.word (match slots with
      | none => m.cls.accumulate a.length a p.2 s
      | some ss => m.cls.recur ss a (p.2.map (·.getD Fp.zero)) s)))

/-- R196, R197, R203: the rows that an entry has read are accumulated. -/
def Bench.mulEffect (h : Bench) (m : MCmd) (e : MEntry) (slots : Option (List (BitVec 16))) : Bench :=
  if m.k = 0 ∨ slots = some [] then h
  else
    let cols := m.columns e
    ((List.range e.rowsA.length).zip e.rowsA).foldl (fun h p =>
      let r := e.mrp.toNat + p.1
      h.mulRow m slots cols r
        (scaleRow m.scales m.fa e.scales 0 r m.k (rowElems m.fa m.k (m.scales == .own) p.2))) h

/-- R199: the rows that an mld has read are loaded. -/
def Bench.loadEffect (h : Bench) (m : MCmd) (e : MEntry) : Bench :=
  ((List.range e.rowsA.length).zip e.rowsA).foldl (fun h p =>
    let r := e.mrp.toNat + p.1
    let code := m.cls.rowCode m.fmt1
    let vs := scaleRow m.scales m.fmt1 e.scales 0 r m.cols (rowElems code m.cols (m.scales == .own) p.2)
    h.setElems m r (m.cls.loadRow m.fmt1 p.2 vs)) h

/-- R190, R200: the rows that an mst has translated are stored, with core scope. -/
def State.storeEffect (s : State) (c : Nat) (m : MCmd) (e : MEntry) : State :=
  let h := s.bench (benchOf c)
  ((List.range e.locs.length).zip e.locs).foldl (fun (s : State) p =>
    let ws := (List.range m.cols).map (h.elem m (e.mrp.toNat + p.1))
    s.commit c 0 (p.2.zip (m.cls.storeRow m.fmt1 ws))) s

/-- R198: every cell of a name is zeroed. -/
def Bench.zeroEffect (h : Bench) (m : MCmd) : Bench :=
  { h with acc := h.acc.filter (fun k => !(m.group.contains (k.1 / 8192) && k.1 / 4096 % 2 == m.j)) }

/-! ## Coverage (R205-R213) -/

/-- The coverage state of a sub-array. -/
def Bench.cover (h : Bench) (a : Nat) : Coverage := h.coverage[a]?.getD { best := [], gain := [], mode := 0 }

/-- The bench with the coverage state of a sub-array replaced. -/
def Bench.setCover (h : Bench) (a : Nat) (c : Coverage) : Bench := { h with coverage := h.coverage.setIfInBounds a c }

/-- A map of `n` words in canonical form. -/
def wordMap (n : Nat) (f : Nat → BitVec 32) : SMap (BitVec 32) :=
  ((List.range n).map (fun i => (i, f i))).filter (fun e => e.2 != 0)

/-- The f32 value of a word. -/
def f32 (w : BitVec 32) : Fp := fmtF32.decode w.toNat

/-- R208: RNE to f32. -/
def round32 (v : Fp) : Fp := (fmtF32.round rne v).1

/-- The f32 word of a value that it holds. -/
def word32Of (v : Fp) : BitVec 32 := BitVec.ofNat 32 (fmtF32.encode v)

/-- R206: cvinit. -/
def coverInit (e : MEntry) : Coverage :=
  { best := wordMap 4096 (fun _ => e.xa.extractLsb' 0 32), gain := [], mode := e.xb.extractLsb' 0 2 }

/-- R205: element (i, c) of the tile in accumulator `j` of a sub-array. -/
def Bench.tileElem (h : Bench) (m : MCmd) (i c : Nat) : Fp := f32 (h.cell (cellKey (m.sub 0) m.j i c))

/-- R208: what candidate `c` would bring to block `b`. -/
def Bench.probeSum (h : Bench) (m : MCmd) (w : Line) (b c : Nat) : Fp :=
  let v := h.cover (m.sub 0)
  treeOf Fp.zero (fun x y => round32 (x.add false y).1) 6 ((List.range 64).map (fun i =>
    let d := ((h.tileElem m i c).add false (f32 (mapGet 0 v.best (64 * b + i))).negate).1
    round32 ((f32 (BitVec.ofNat 32 (elemNat w 4 i))).mul (Fp.zero.maximumNumber d)).1))

/-- R208: cvprobe. -/
def Bench.probeEffect (h : Bench) (m : MCmd) (w : Line) (b : Nat) : Bench :=
  let v := h.cover (m.sub 0)
  h.setCover (m.sub 0)
    { v with gain := wordMap 64 (fun c => word32Of (round32 ((f32 (mapGet 0 v.gain c)).add false (h.probeSum m w b c)).1)) }

/-- R211: cvcommit. -/
def Bench.commitEffect (h : Bench) (m : MCmd) (c b : Nat) : Bench :=
  let v := h.cover (m.sub 0)
  h.setCover (m.sub 0)
    { v with best := (List.range 64).foldl (fun best i =>
        mapSet 0 best (64 * b + i) (word32Of ((f32 (mapGet 0 best (64 * b + i))).maximumNumber (h.tileElem m i c)))) v.best }

/-- R210: is gain `a` below gain `b`: a NaN below every number, and the zeros equal? -/
def gainBelow (a b : Fp) : Bool := if a = .nan then b != .nan else b != .nan && a.lt b

/-- R210: the candidate that a mode picks among those tied. -/
def pickCandidate (mode : BitVec 2) (keys : Nat → Nat) (tied : List Nat) : Nat :=
  let fewest := fun (better : Nat → Nat → Bool) =>
    tied.foldl (fun (best : Option Nat) c => match best with
      | none => some c
      | some b => if better c b then some c else some b) none
  (match mode.toNat with
  | 0 => fewest (fun c b => keys c < keys b)
  | 1 => fewest (fun c b => keys b < keys c)
  | 2 => tied.head?
  | _ => tied.getLast?).getD 0

/-- R210: cvsel. -/
def Coverage.select (v : Coverage) (keys : Line) : Word :=
  let key := elemNat keys 4
  let cand := (List.range 64).filter (fun c => key c != 0xFFFFFFFF)
  let gain := fun c => f32 (mapGet 0 v.gain c)
  let tied := cand.filter (fun c => cand.all (fun d => !gainBelow (gain c) (gain d)))
  if cand = [] then ones
  else
    let c := pickCandidate v.mode key tied
    mapGet 0 v.gain c ++ BitVec.ofNat 32 c

/-- R212: the image of a coverage state. -/
def Coverage.image (v : Coverage) : List Byte :=
  (List.range 4096).flatMap (fun i => leBytes 4 (mapGet 0 v.best i).toNat) ++
    (List.range 64).flatMap (fun c => leBytes 4 (mapGet 0 v.gain c).toNat) ++ leBytes 8 v.mode.toNat ++
    List.replicate 248 0

/-- R212: the coverage state of an image. -/
def Coverage.ofImage (b : List Byte) : Coverage :=
  let w := fun (off i : Nat) => BitVec.ofNat 32 (leNat ((b.drop (off + 4 * i)).take 4))
  { best := wordMap 4096 (w 0), gain := wordMap 64 (w 0x4000), mode := BitVec.ofNat 2 (recNat b 0x4100 8) }

/-! ## mcfg and mprog (R195, R202) -/

/-- R195: does a configuration break the form of mcfg? -/
def configBad (w : Word) : Bool :=
  w &&& cfgZeroMask != 0 || 11 < cfgFmtA w || 11 < cfgFmtB w ||
    (if cfgSamask w = 0 then cfgFuse w != 0 else !claimOk (cfgSamask w) (cfgFuse w))

/-- R195: mcfg of a strand of core `c`; its status. -/
def State.configure (s : State) (c i : Nat) (w : Word) : State × Word :=
  let h := s.bench (benchOf c)
  let sam := cfgSamask w
  if configBad w then (s, 2)
  else if (List.range 4).any (fun a => sam.getLsbD a && (match h.owner[a]?.getD none with
      | some o => o != c
      | none => false)) then (s, 1)
  else
    let s1 := (s.releaseSubs c sam).modBench (benchOf c) (fun h =>
      (List.range 4).foldl (fun (h : Bench) a =>
        if sam.getLsbD a then { h with owner := h.owner.setIfInBounds a (some c) } else h) h)
    let s2 := s1.modCore c (fun k =>
      { k with samask := sam, fuse := BitVec.ofNat 2 (cfgFuse w), mprog := if sam = 0 then 0 else k.mprog })
    (s2.modStrand c i (fun t => { t with mcfgw := w }), 0)

/-- R202: mprog of core `c`; its status. -/
def State.loadProgram (s : State) (c : Nat) (p : Word) : State × Word :=
  match badSlot p with
  | some j => (s, BitVec.ofNat 64 (1 + j))
  | none => (s.modCore c (fun k => { k with mprog := p }), 0)

/-! ## Completion (R189) -/

/-- What an entry leaves: the state, and the bytes of its register result. -/
abbrev MResult := State × Option (List Byte)

/-- R179: does core `c` still hold every sub-array of a command's group? -/
def State.holdsGroup (s : State) (c : Nat) (m : MCmd) : Bool :=
  m.group.all (fun a => (s.bench (benchOf c)).owner[a]?.getD none == some c)

/-- R189: the effect of an entry on the bench. -/
def State.onBench (s : State) (c : Nat) (m : MCmd) (f : Bench → Bench) : MResult :=
  (if s.holdsGroup c m then s.modBench (benchOf c) f else s, none)

/-- R189, R195-R212: every effect of an entry of core `c` whose operands have been read. -/
def State.matrixEffect (s : State) (c : Nat) (e : MEntry) (m : MCmd) : MResult :=
  let h := s.bench (benchOf c)
  let v := fun (r : BitVec 5) => (s.strand c e.strand).readV r
  let word := fun (w : Word) => some (leBytes 8 w.toNat)
  match e.instr with
  | .mma _ _ _ _ => s.onBench c m (·.mulEffect m e none)
  | .mmas _ _ _ _ => s.onBench c m (·.mulEffect m e none)
  | .mrec _ _ _ _ => s.onBench c m (·.mulEffect m e (some (usedSlots (s.core c).mprog)))
  | .mld _ _ _ _ => s.onBench c m (·.loadEffect m e)
  | .mst _ _ _ _ => (s.storeEffect c m e, none)
  | .mzero _ _ => s.onBench c m (·.zeroEffect m)
  | .mrd _ _ _ _ =>
    let seg := m.segment e.xb
    (s, some (if seg = [] then List.replicate 256 0 else seg.flatMap (fun k => leBytes 4 (h.cell k).toNat)))
  | .mwr _ vs1 _ =>
    s.onBench c m (fun h => (((List.range 64).zip (m.segment e.xb)).foldl (fun h p => h.setCell p.2 (elemNat (v vs1) 4 p.1)) h))
  | .cvinit sa _ _ => s.onBench c m (·.setCover sa.toNat (coverInit e))
  | .cvclr sa => s.onBench c m (fun h => h.setCover sa.toNat { h.cover sa.toNat with gain := [] })
  | .cvprobe _ vs1 _ => s.onBench c m (·.probeEffect m (v vs1) e.xb.toNat)
  | .cvcommit _ _ _ => s.onBench c m (·.commitEffect m e.xa.toNat e.xb.toNat)
  | .cvgain _ sa =>
    (s, some ((List.range 64).flatMap (fun i => leBytes 4 (mapGet 0 (h.cover sa.toNat).gain i).toNat)))
  | .cvsel _ sa vs2 => (s, word ((h.cover sa.toNat).select (v vs2)))
  | .cvsave sa _ =>
    (s.commit c 0 ((e.locs.headD []).zip (h.cover sa.toNat).image), none)
  | .cvrest sa _ => s.onBench c m (·.setCover sa.toNat (Coverage.ofImage (e.rowsA.headD [])))
  | .mcfg _ _ _ =>
    let r := s.configure c e.strand e.xa
    (r.1, word r.2)
  | .mprog _ _ =>
    let r := s.loadProgram c e.xa
    (r.1, word r.2)
  | _ => (s, none)

/-- R189: the register that the result of an entry goes to. -/
def matrixDst (i : Instr) : Dst :=
  match i with
  | .mrd vd _ _ _ => .v vd
  | .cvgain vd _ => .v vd
  | .mcfg rd _ _ => .x rd
  | .mprog rd _ => .x rd
  | .cvsel rd _ _ => .x rd
  | _ => .discard

/-! ## Issue (R184, R186, R189, R192) -/

/-- R380: an instruction of the issuing strand as an entry of its core's matrix queue. -/
def State.matrixEntry (s : State) (i : Instr) (xa xb : Word) : MEntry :=
  let t := s.me
  { strand := s.cur, instr := i, xa := xa, xb := xb, mcfgw := t.mcfgw, mstra := t.mstra, mstrb := t.mstrb,
    mkLen := t.mkLen, mrp := t.mrp, prefixWord := if t.pp then some t.kpfx else none,
    sregVal := if t.pp then s.x (Prefix.ofWord t.kpfx).sreg else 0, chain := none, retired := false, rowsA := [],
    rowsB := [], scales := [], locs := [], stamp := s.fresh }

/-- R214: the exception of a command that fails. -/
def MFail.cause : MFail → Word × Word
  | .illegal => (causeIllegal, 0)
  | .matrix r => (causeMatrix, BitVec.ofNat 64 r)
  | .misaligned store va => (if store then causeStoreMisaligned else causeLoadMisaligned, va)
  | .access store f => (f.cause (if store then .store else .load), f.va)
  | .memory va => (causeMemory, va)
  | .integrity va => (causeIntegrity, va)

/-- R214: the issuing command's exception. -/
def MFail.stop (f : MFail) (s : State) : Stop :=
  if f = .illegal then s.illegalPrefix else .trap f.cause.1 f.cause.2 s

/-- R192: row progress in the strand of an entry. -/
def State.progress (s : State) (c : Nat) (e : MEntry) (row : Nat) : State :=
  if progresses e.instr ∧ e.chain = none then s.modStrand c e.strand (fun t => { t with mrp := BitVec.ofNat 64 row }) else s

/-- R192: the row at which an entry that failed stands. -/
def MEntry.rowReached (e : MEntry) : Nat := e.mrp.toNat + max e.rowsA.length e.locs.length

/-- R189, R192: the issuing strand's command runs to its completion as it issues. -/
def State.matrixNow (s : State) (e : MEntry) (m : MCmd) : Except Stop State :=
  let c := s.here
  let r := s.matrixRetire c e m
  match r.stop with
  | some (.line l) => .error (.wait (.ownedLine l) s)
  | some (.fail f) =>
    if r.rows then
      .error (f.stop ((r.s.matrixEffect c r.e m).1.progress c r.e r.e.rowReached))
    else .error (f.stop s)
  | none =>
    let d := r.s.matrixEffect c r.e m
    let s1 := (d.1.progress c e 0).countEvent c evMatrix 1
    .ok (match d.2 with
      | some bs => s1.modMe (fun t => t.result (matrixDst e.instr) 64 false bs)
      | none => s1)

/-- R189: the issuing strand's command enters the queue. One that translates holds its strand until it retires. -/
def State.matrixQueued (s : State) (e : MEntry) (la : Nat) : Except Stop State :=
  let hold := translates e.instr
  let s1 := { (s.modMyCore (fun k => { k with mqueue := k.mqueue ++ [{ e with retired := !hold }] })) with
    fresh := s.fresh + 1 }
  if hold then .error (.wait .matrixEntry s1)
  else
    let s2 := s1.countEvent s1.here evMatrix 1
    .ok (if matrixDst e.instr = .discard then s2
      else s2.await { dst := matrixDst e.instr, todo := [], got := [], bits := 64, signed := false, window := la, queued := true })

/-- R202: the microprogram that a core holds once the entries of its queue before a place have completed. -/
def Core.programAt (k : Core) (stamp : Nat) : Word :=
  (k.mqueue.filter (fun e => e.stamp < stamp)).foldl (fun p e =>
    match e.instr with
    | .mprog _ _ => if (badSlot e.xa).isNone then e.xa else p
    | .mcfg _ _ _ => if !configBad e.xa && cfgSamask e.xa == 0 then 0 else p
    | _ => p) k.mprog

/-- R186, R189: a matrix or coverage instruction issues; an illegal one faults whatever the queue holds (R25). -/
def State.issueMatrix (s : State) (i : Instr) (lines : List (BitVec 5)) (xa xb : Word) (la : Nat) :
    Host.Outcome State Fault Refusal :=
  let e := s.matrixEntry i xa xb
  let full := if s.deferred then matrixQueueSize ≤ s.myCore.mqueue.length else !s.myCore.mqueue.isEmpty
  let r : Except Stop State :=
    if s.me.pp && !(Prefix.ofWord s.me.kpfx).legal then .error s.illegalPrefix
    else
      match matrixCheck (s.claimHeld s.here e.mcfgw) (s.myCore.programAt e.stamp) e with
      | .error f => if full && f != .illegal then .error (.wait .matrixQueue s) else .error (f.stop s)
      | .ok m =>
        if full then .error (.wait .matrixQueue s) else
        match s.useV lines with
        | .error x => .error x
        | .ok s1 =>
          match (if translates i then s1.drainMine else .ok s1) with
          | .error x => .error x
          | .ok s2 => if s2.deferred then s2.matrixQueued e la else s2.matrixNow e m
  State.outcome (r.map (fun s => (s.modMe (fun t => { t with pp := false })).retire 4)) s.here s.cur

/-! ## Events (R189, R190, R192, R249) -/

/-- R249, R251, R335: a chain's command ends with a fault at a row; poisoned data and a line that fails its check end the
chain with E_MEMORY. -/
def State.chainFault (s : State) (c : Nat) (t : BitVec 32) (f : MFail) (row : Nat) : State :=
  let fails := fun (r : Nat) => s.chainCommandDone c t (some (r, row))
  let memory :=
    match (s.bench (benchOf c)).chain t with
    | some k => s.endChain (benchOf c) k (chainStatus eMemory k.next 0 0)
    | none => s
  match f with
  | .illegal => fails matrixConfig
  | .matrix r => fails r
  | .misaligned _ _ => fails 5
  | .access _ (.page _) => fails 4
  | .access _ (.access _) => fails 6
  | .integrity _ => memory
  | .memory _ => memory

/-- An entry leaves a core's matrix queue. -/
def State.dropEntry (s : State) (c : Nat) (e : MEntry) : State :=
  s.modCore c (fun k => { k with mqueue := k.mqueue.filter (fun x => x.stamp != e.stamp) })

/-- R70: the stack below whose mapped part a matrix load pipe has gone. -/
def State.pipeStack (s : State) (c : Nat) : MFail → Option (StackRange × Word)
  | .access _ (.page va) => (s.stackBelow c va).map (fun r => (r, va))
  | _ => none

/-- R70, R192, R249: an entry fails before it retires. One of a chain that meets the reserved range of a stack starts again once
the executive has mapped the pages, or its chain waits for the end of the launch. -/
def State.entryFails (s : State) (c : Nat) (e : MEntry) (f : MFail) (row : Nat) : State :=
  let s1 := s.dropEntry c e
  match e.chain with
  | none => s1.takeTrap c e.strand f.cause.1 f.cause.2
  | some t =>
    match s.pipeStack c f with
    | none => s1.chainFault c t f row
    | some (r, va) =>
      if !r.passed va then s.growStack r va
      else
        match (s1.bench (benchOf c)).chain t with
        | some k => s1.setChain (benchOf c) { k with phase := .faulted (some r.vpeid) }
        | none => s1

/-- R189: an entry has retired: its strand goes on. -/
def State.entryRetires (s : State) (c : Nat) (e : MEntry) : State :=
  let s1 := (s.modCore c (fun k =>
    { k with mqueue := k.mqueue.map (fun x => if x.stamp = e.stamp then { e with retired := true } else x) })).countEvent
      c evMatrix 1
  if e.chain = none then
    ((s1.progress c e 0).modStrand c e.strand (fun t =>
      { t with pp := false, fpc := t.fpc + 4, instret := t.instret + 1, park := none, failedWalks := [] })).countEvent
      c evRetired 1
  else s1

/-- R189, R192: the oldest entry that has not retired is checked, translated and read. -/
def execMatrixEntryRetire (core : Nat) (s : State) : Host.Outcome State Fault Refusal :=
  .next (
    match (s.core core).mqueue.find? (fun e => !e.retired) with
    | none => s
    | some e =>
      match matrixCheck (e.chain.isNone || s.claimHeld core e.mcfgw) ((s.core core).programAt e.stamp) e with
      | .error f => s.entryFails core e f e.mrp.toNat
      | .ok m =>
        let r := s.matrixRetire core e m
        match r.stop with
        | none => (r.s.recallLines (r.e.locs.flatten.map lineNo).eraseDups).entryRetires core r.e
        | some (.line _) => s
        | some (.fail f) =>
          if r.rows then
            if ((s.core core).mqueue.head?).map (·.stamp) = some e.stamp then
              ((r.s.matrixEffect core r.e m).1.progress core r.e r.e.rowReached).entryFails core r.e f r.e.rowReached
            else s
          else s.entryFails core e f e.mrp.toNat)

/-- R380: the entry waits for earlier entries of the vector queue that touch its v registers. -/
def State.matrixWaits (s : State) (c : Nat) (e : MEntry) : Bool :=
  e.chain.isNone && (s.vectorEntries c e.strand).any (fun v => v.stamp < e.stamp && conflicts v.instr e.instr)

/-- R189: the entry at the head of the queue, once it has retired, completes. -/
def execMatrixEntryComplete (core : Nat) (s : State) : Host.Outcome State Fault Refusal :=
  .next (
    match (s.core core).mqueue with
    | [] => s
    | e :: _ =>
      if !e.retired || s.matrixWaits core e then s
      else
        match matrixCheck true (s.core core).mprog e with
        | .error _ => s.dropEntry core e
        | .ok m =>
          let d := s.matrixEffect core e m
          let s1 := d.1.dropEntry core e
          match e.chain, d.2 with
          | some t, _ => s1.chainCommandDone core t none
          | none, some bs => s1.modStrand core e.strand (fun t => t.settleQueued (matrixDst e.instr) bs)
          | none, none => s1)

end Sys2Proof.Machine
end

