-- ==== Sys2Proof/Machine/MatrixInstr.lean ====
section
/-! DEFINITION. The matrix and coverage instructions (R194-R213). -/

namespace Sys2Proof.Machine

/-- R195: mcfg. -/
def execMcfg (rd rs1 : BitVec 5) (la : BitVec 4) (s : State) : Host.Outcome State Fault Refusal :=
  s.issueMatrix (.mcfg rd rs1 la) [] (s.x rs1) (0) la.toNat

/-- R196: mma. -/
def execMma (kd : BitVec 3) (rs1 rs2 : BitVec 5) (la : BitVec 4) (s : State) : Host.Outcome State Fault Refusal :=
  s.issueMatrix (.mma kd rs1 rs2 la) [] (s.x rs1) (s.x rs2) la.toNat

/-- R197: mmas. -/
def execMmas (kd : BitVec 3) (rs1 rs2 : BitVec 5) (la : BitVec 4) (s : State) : Host.Outcome State Fault Refusal :=
  s.issueMatrix (.mmas kd rs1 rs2 la) [] (s.x rs1) (s.x rs2) la.toNat

/-- R198: mzero. -/
def execMzero (kd : BitVec 3) (la : BitVec 4) (s : State) : Host.Outcome State Fault Refusal :=
  s.issueMatrix (.mzero kd la) [] (0) (0) la.toNat

/-- R200: mst. -/
def execMst (kd : BitVec 3) (rs1 rs2 : BitVec 5) (la : BitVec 4) (s : State) : Host.Outcome State Fault Refusal :=
  s.issueMatrix (.mst kd rs1 rs2 la) [] (s.x rs1) (s.x rs2) la.toNat

/-- R199: mld. -/
def execMld (kd : BitVec 3) (rs1 rs2 : BitVec 5) (la : BitVec 4) (s : State) : Host.Outcome State Fault Refusal :=
  s.issueMatrix (.mld kd rs1 rs2 la) [] (s.x rs1) (s.x rs2) la.toNat

/-- R201: mrd. -/
def execMrd (vd : BitVec 5) (ks1 : BitVec 3) (rs2 : BitVec 5) (la : BitVec 4) (s : State) : Host.Outcome State Fault Refusal :=
  s.issueMatrix (.mrd vd ks1 rs2 la) [vd] (0) (s.x rs2) la.toNat

/-- R203: mrec. -/
def execMrec (kd : BitVec 3) (rs1 rs2 : BitVec 5) (la : BitVec 4) (s : State) : Host.Outcome State Fault Refusal :=
  s.issueMatrix (.mrec kd rs1 rs2 la) [] (s.x rs1) (s.x rs2) la.toNat

/-- R202: mprog. -/
def execMprog (rd rs1 : BitVec 5) (s : State) : Host.Outcome State Fault Refusal :=
  s.issueMatrix (.mprog rd rs1) [] (s.x rs1) (0) 0

/-- R201: mwr. -/
def execMwr (kd : BitVec 3) (vs1 rs2 : BitVec 5) (s : State) : Host.Outcome State Fault Refusal :=
  s.issueMatrix (.mwr kd vs1 rs2) [vs1] (0) (s.x rs2) 0

/-- R206: cvinit. -/
def execCvinit (sa : BitVec 2) (rs1 rs2 : BitVec 5) (s : State) : Host.Outcome State Fault Refusal :=
  s.issueMatrix (.cvinit sa rs1 rs2) [] (s.x rs1) (s.x rs2) 0

/-- R208: cvprobe. -/
def execCvprobe (kd : BitVec 3) (vs1 rs2 : BitVec 5) (s : State) : Host.Outcome State Fault Refusal :=
  s.issueMatrix (.cvprobe kd vs1 rs2) [vs1] (0) (s.x rs2) 0

/-- R211: cvcommit. -/
def execCvcommit (kd : BitVec 3) (rs1 rs2 : BitVec 5) (s : State) : Host.Outcome State Fault Refusal :=
  s.issueMatrix (.cvcommit kd rs1 rs2) [] (s.x rs1) (s.x rs2) 0

/-- R209: cvgain. -/
def execCvgain (vd : BitVec 5) (sa : BitVec 2) (s : State) : Host.Outcome State Fault Refusal :=
  s.issueMatrix (.cvgain vd sa) [vd] (0) (0) 0

/-- R207: cvclr. -/
def execCvclr (sa : BitVec 2) (s : State) : Host.Outcome State Fault Refusal :=
  s.issueMatrix (.cvclr sa) [] (0) (0) 0

/-- R210: cvsel. -/
def execCvsel (rd : BitVec 5) (sa : BitVec 2) (vs2 : BitVec 5) (s : State) : Host.Outcome State Fault Refusal :=
  s.issueMatrix (.cvsel rd sa vs2) [vs2] (0) (0) 0

/-- R212: cvsave. -/
def execCvsave (sa : BitVec 2) (rs1 : BitVec 5) (s : State) : Host.Outcome State Fault Refusal :=
  s.issueMatrix (.cvsave sa rs1) [] (s.x rs1) (0) 0

/-- R212: cvrest. -/
def execCvrest (sa : BitVec 2) (rs1 : BitVec 5) (s : State) : Host.Outcome State Fault Refusal :=
  s.issueMatrix (.cvrest sa rs1) [] (s.x rs1) (0) 0

end Sys2Proof.Machine
end

