-- ==== Sys2Proof/Machine/Routes.lean ====
section
/-! DEFINITION. Scheduled routes: the junction operators, and the steps that bring a route's inputs and act on its
records (R280, R302-R304). -/

namespace Sys2Proof.Machine

/-! ## Junction operators (R303, R304) -/

/-- A payload cut into lanes of four bytes. -/
def lanes4 : Nat → List Byte → List Nat
  | 0, _ => []
  | n + 1, b => leNat (b.take 4) :: lanes4 n (b.drop 4)

/-- The payload of lanes. -/
def ofLanes4 (ls : List Nat) : List Byte := ls.flatMap (leBytes 4)

/-- R303: an operator on corresponding lanes of two payloads of `n` bytes. -/
def routeLanes (f : Nat → Nat → Nat) (n : Nat) (a b : List Byte) : List Byte :=
  ofLanes4 (((lanes4 (n / 4) a).zip (lanes4 (n / 4) b)).map (fun p => f p.1 p.2))

/-- R303: the f32 sum of two lanes. -/
def addF32 (a b : Nat) : Nat := (fmtF32.deliver rne ((fmtF32.decode a).add false (fmtF32.decode b))).1

/-- R303: the f32 maximumNumber of two lanes. -/
def maxF32 (a b : Nat) : Nat := fmtF32.encode ((fmtF32.decode a).maximumNumber (fmtF32.decode b))

/-- R304: the factor 2^(a − m). -/
def rscScale (a m : Fp) (word : Nat) : Fp :=
  if a = .inf false ∧ m = .inf false then fmtF32.decode (Config.rscFactor (BitVec.ofNat 32 word)).toNat
  else ((a.add false m.negate).1.exp2).1

/-- R304: RoundFP32(a·f1 + b·f2). -/
def rscLane (f1 f2 : Fp) (a b : Nat) : Nat :=
  let p := ((fmtF32.decode a).mul f1).1
  let q := ((fmtF32.decode b).mul f2).1
  (fmtF32.deliver rne (p.add false q)).1

/-- R304: RSC on two payloads of `n` bytes. -/
def rsc (n : Nat) (a b : List Byte) : List Byte :=
  let w1 := recNat a 0 4
  let w2 := recNat b 0 4
  let m1 := fmtF32.decode w1
  let m2 := fmtF32.decode w2
  let rest := (n - 16) / 4
  let make := fun (m s : Nat) (v : List Nat) => leBytes 4 m ++ leBytes 4 s ++ leBytes 8 0 ++ ofLanes4 v
  if m1 = .nan ∨ m2 = .nan then make fmtF32.nanWord fmtF32.nanWord (List.replicate rest fmtF32.nanWord)
  else
    let m := m1.maximum m2
    if m = .inf true then make (fmtF32.encode m) 0 (List.replicate rest 0)
    else
      let f1 := rscScale m1 m w1
      let f2 := rscScale m2 m w2
      make (fmtF32.encode m) (rscLane f1 f2 (recNat a 4 4) (recNat b 4 4))
        (((lanes4 rest (a.drop 16)).zip (lanes4 rest (b.drop 16))).map (fun p => rscLane f1 f2 p.1 p.2))

/-- R303: the fold of two arrival records. -/
def barFold (rank : Nat → Nat) (a b : List Byte) : List Byte :=
  let r := (ArrivalRecord.ofBytes a).fold rank (ArrivalRecord.ofBytes b)
  r.bytes r.members

/-- R303: the operator of a record on two payloads of `n` bytes, among chips of these ranks. -/
def junction (rank : Nat → Nat) (op n : Nat) (a b : List Byte) : List Byte :=
  if op = opAddF32 then routeLanes addF32 n a b
  else if op = opMaxF32 then routeLanes maxF32 n a b
  else if op = opAddI32 then routeLanes (fun x y => (x + y) % 2 ^ 32) n a b
  else if op = opRsc then rsc n a b
  else if op = opBar then barFold rank a b
  else a

/-- R302: the contributions of a route's firing, in ascending port order, the local source last. -/
def Route.contributions (r : Route) : List (List Byte) :=
  r.inports.filterMap (fun p => (r.inputs.find? (fun x => x.1 == p && x.2.1 == r.firing)).map (·.2.2)) ++
    (match r.source with
    | some b => [b]
    | none => [])

/-- R303: the result of a route's firing for a record of `n` bytes. -/
def Route.result (rank : Nat → Nat) (r : Route) (op n : Nat) : List Byte :=
  let pad := fun (b : List Byte) => (b ++ List.replicate n 0).take n
  match r.contributions.map pad with
  | [] => List.replicate n 0
  | c :: cs => cs.foldl (fun acc c => pad (junction rank op n acc c)) c

/-! ## Steps -/

/-- The state with a route replaced. -/
def State.setRoute (s : State) (r : Route) : State :=
  { s with routes := s.routes.map (fun q => if q.launch == r.launch && q.route == r.route then r else q) }

/-- R81: the rank of a chip among those of a route's launch. -/
def State.rankOf (s : State) (r : Route) (chip : Nat) : Nat :=
  ((s.launch r.launch).bind (fun l => l.chips.findIdx? (· == chip))).getD 0

/-- A message of a route leaves on a port (R297). -/
def State.sendRoute (s : State) (r : Route) (port kind : Nat) (payload : List Byte) : State :=
  s.send (.scheduled port (Msg.bytes
    { kind := kind, sched := true, chip := s.chipNumber, ld := lidLd r.launch.lid, dst := r.route, len := payload.length,
      addr := r.firing, core := 0, strand := 0, index := 0, tag := 0, aux := 0, payload := payload }))

/-- R280: the release tick T goes to the chips from which a barrier's contributions came. -/
def State.sendRelease (s : State) (r : Route) (t : Word) : State :=
  r.inports.foldl (fun s p => s.sendRoute r p kindBar (leBytes 8 t.toNat)) s

/-- R280, R302: a scheduled message arrives at a route: an input held for its firing, or the release of a barrier, which goes
on whether or not members wait here. Nothing comes in at a link-down port (R19). -/
def State.routeInput (s : State) (r : Route) (port firing : Nat) (payload : List Byte) : State :=
  if s.linkDown port then s
  else if r.inports.contains port then
    if firing < r.firing || r.inputs.any (fun x => x.1 == port && x.2.1 == firing) then s
    else s.setRoute (s.tryRoute { r with inputs := r.inputs ++ [(port, firing, payload)] })
  else if r.isBar then
    let t := recWord payload 0
    (if r.waiting then s.setRoute { r with release := some t } else s).sendRelease r t
  else s

/-- R302: a scheduled route input arrives. -/
def execRouteMessage (key : LaunchKey) (route port firing : Nat) (payload : List Byte) (s : State) :
    Host.Outcome State Fault Refusal :=
  let s1 := s.countFabric evFlitsReceived (flitsOf payload.length)
  .next (match s1.routes.find? (fun r => r.launch == key && r.route == route) with
    | some r => s1.routeInput r port firing payload
    | none => s1)

/-- R302: the tick at which a record of a READY route acts. -/
def Route.dueTick (r : Route) (x : List Byte) : Word :=
  r.readyTick + BitVec.ofNat 64 ((rrSlot x + 256 - r.readyTick.toNat % 256) % 256)

/-- R302: is a record late for this firing? -/
def Route.late (r : Route) (x : List Byte) : Bool := rrSlot x < r.readyTick.toNat % 256

/-- R302: every record has acted: the route is IDLE for its next firing, and takes it up if it may. -/
def State.routeDone (s : State) (r : Route) : State :=
  let r1 := { r with
    state := .idle, firing := r.firing + 1, acted := [], inputs := r.inputs.filter (fun x => x.2.1 != r.firing)
    source := if r.isRoot then r.source else none }
  s.setRoute (s.tryRoute (if r1.triggers = 0 then r1 else { r1 with state := .armed, triggers := r1.triggers - 1 }))

/-- R302: what a record does with its route's result. -/
def State.recordActs (s : State) (r : Route) (x : List Byte) : State :=
  let out := r.result (s.rankOf r) (rrOp x) (rrLen x)
  if rrOutport x ≠ 0xFF then s.sendRoute r (rrOutport x) (if r.isBar then kindBar else kindRoute) out
  else if r.isBar then
    let t := r.readyTick + BitVec.ofNat 64 (rrBound x)
    s.sendRelease r t
  else
    let s1 := s.commitHome (cellsAt (rrBuf x) out)
    if rrObj x = 0 then s1
    else
      let s2 := s1.atHome (rrObj x) 32
      s2.arrive
        { source := 5, core := 0xFFFF, strand := 0xFFFF, addr := BitVec.ofNat 64 (rrObj x), ld := lidLd r.launch.lid }
        (rrObj x) (s2.coGen (rrObj x)) none

/-- R280: a barrier's root keeps the fold of the arrivals and the release tick. -/
def Route.closed (rank : Nat → Nat) (r : Route) (x : List Byte) : Route :=
  if r.isBar && rrOutport x == 0xFF then
    { r with source := some (r.result rank opBar 32), release := some (r.readyTick + BitVec.ofNat 64 (rrBound x)) }
  else r

/-- The routes of a launch with their records, in load order. -/
def State.recordAt (s : State) (key : LaunchKey) (index : Nat) : Option (Route × Nat × List Byte) :=
  ((s.routes.filter (·.launch == key)).flatMap (fun r =>
    ((List.range r.records.length).zip r.records).map (fun a => (r, a.1, a.2))))[index]?

/-- R302: a record's tick. -/
def execRouteRecordTick (key : LaunchKey) (index : Nat) (s : State) : Host.Outcome State Fault Refusal :=
  .next (match s.recordAt key index with
    | none => s
    | some (r, k, x) =>
      if r.state = .ready ∧ !r.acted.contains k ∧ s.tick = r.dueTick x then
        let s1 := s.countFabric evRouteLate (r.late x).toNat
        let s2 := s1.recordActs r x
        match s2.routes.find? (fun q => q.launch == r.launch && q.route == r.route) with
        | none => s2
        | some q =>
          let q1 := { (q.closed (s.rankOf r) x) with acted := q.acted ++ [k] }
          if (List.range q1.records.length).all q1.acted.contains then s2.routeDone q1 else s2.setRoute q1
      else s)

end Sys2Proof.Machine
end

