-- ==== Sys2Proof/Machine/Scalar.lean ====
section
/-! DEFINITION. The integer arithmetic of the standard subset and its compressed forms (R27, R34). -/

namespace Sys2Proof.Machine

/-- R27: lui. -/
def execLui (rd : BitVec 5) (imm : BitVec 20) (s : State) : Host.Outcome State Fault Refusal :=
  s.straight 4 (fun s => s.writeX rd (imm20 imm))

/-- R28: auipc. -/
def execAuipc (rd : BitVec 5) (imm : BitVec 20) (s : State) : Host.Outcome State Fault Refusal :=
  s.straight 4 (fun s => s.writeX rd (s.fpcWord + imm20 imm))

/-- R27: addi. -/
def execAddi (rd rs1 : BitVec 5) (imm : BitVec 12) (s : State) : Host.Outcome State Fault Refusal :=
  s.straight 4 (fun s => s.writeX rd (s.x rs1 + imm12 imm))

/-- R27: slti. -/
def execSlti (rd rs1 : BitVec 5) (imm : BitVec 12) (s : State) : Host.Outcome State Fault Refusal :=
  s.straight 4 (fun s => s.writeX rd (boolWord ((s.x rs1).slt (imm12 imm))))

/-- R27: sltiu. -/
def execSltiu (rd rs1 : BitVec 5) (imm : BitVec 12) (s : State) : Host.Outcome State Fault Refusal :=
  s.straight 4 (fun s => s.writeX rd (boolWord ((s.x rs1).ult (imm12 imm))))

/-- R27: xori. -/
def execXori (rd rs1 : BitVec 5) (imm : BitVec 12) (s : State) : Host.Outcome State Fault Refusal :=
  s.straight 4 (fun s => s.writeX rd (s.x rs1 ^^^ imm12 imm))

/-- R27: ori. -/
def execOri (rd rs1 : BitVec 5) (imm : BitVec 12) (s : State) : Host.Outcome State Fault Refusal :=
  s.straight 4 (fun s => s.writeX rd (s.x rs1 ||| imm12 imm))

/-- R27: andi. -/
def execAndi (rd rs1 : BitVec 5) (imm : BitVec 12) (s : State) : Host.Outcome State Fault Refusal :=
  s.straight 4 (fun s => s.writeX rd (s.x rs1 &&& imm12 imm))

/-- R27: addiw. -/
def execAddiw (rd rs1 : BitVec 5) (imm : BitVec 12) (s : State) : Host.Outcome State Fault Refusal :=
  s.straight 4 (fun s => s.writeX rd (sextW (lowW (s.x rs1) + lowW (imm12 imm))))

/-- R27: slli. -/
def execSlli (rd rs1 : BitVec 5) (shamt : BitVec 6) (s : State) : Host.Outcome State Fault Refusal :=
  s.straight 4 (fun s => s.writeX rd (s.x rs1 <<< shamt))

/-- R27: srli. -/
def execSrli (rd rs1 : BitVec 5) (shamt : BitVec 6) (s : State) : Host.Outcome State Fault Refusal :=
  s.straight 4 (fun s => s.writeX rd (s.x rs1 >>> shamt))

/-- R27: srai. -/
def execSrai (rd rs1 : BitVec 5) (shamt : BitVec 6) (s : State) : Host.Outcome State Fault Refusal :=
  s.straight 4 (fun s => s.writeX rd ((s.x rs1).sshiftRight shamt.toNat))

/-- R27: slliw. -/
def execSlliw (rd rs1 shamt : BitVec 5) (s : State) : Host.Outcome State Fault Refusal :=
  s.straight 4 (fun s => s.writeX rd (sextW (lowW (s.x rs1) <<< shamt)))

/-- R27: srliw. -/
def execSrliw (rd rs1 shamt : BitVec 5) (s : State) : Host.Outcome State Fault Refusal :=
  s.straight 4 (fun s => s.writeX rd (sextW (lowW (s.x rs1) >>> shamt)))

/-- R27: sraiw. -/
def execSraiw (rd rs1 shamt : BitVec 5) (s : State) : Host.Outcome State Fault Refusal :=
  s.straight 4 (fun s => s.writeX rd (sextW ((lowW (s.x rs1)).sshiftRight shamt.toNat)))

/-- R27: add. -/
def execAdd (rd rs1 rs2 : BitVec 5) (s : State) : Host.Outcome State Fault Refusal :=
  s.straight 4 (fun s => s.writeX rd (s.x rs1 + s.x rs2))

/-- R27: sub. -/
def execSub (rd rs1 rs2 : BitVec 5) (s : State) : Host.Outcome State Fault Refusal :=
  s.straight 4 (fun s => s.writeX rd (s.x rs1 - s.x rs2))

/-- R27: sll. -/
def execSll (rd rs1 rs2 : BitVec 5) (s : State) : Host.Outcome State Fault Refusal :=
  s.straight 4 (fun s => s.writeX rd (s.x rs1 <<< (s.x rs2).extractLsb' 0 6))

/-- R27: srl. -/
def execSrl (rd rs1 rs2 : BitVec 5) (s : State) : Host.Outcome State Fault Refusal :=
  s.straight 4 (fun s => s.writeX rd (s.x rs1 >>> (s.x rs2).extractLsb' 0 6))

/-- R27: sra. -/
def execSra (rd rs1 rs2 : BitVec 5) (s : State) : Host.Outcome State Fault Refusal :=
  s.straight 4 (fun s => s.writeX rd ((s.x rs1).sshiftRight (field (s.x rs2) 0 6)))

/-- R27: slt. -/
def execSlt (rd rs1 rs2 : BitVec 5) (s : State) : Host.Outcome State Fault Refusal :=
  s.straight 4 (fun s => s.writeX rd (boolWord ((s.x rs1).slt (s.x rs2))))

/-- R27: sltu. -/
def execSltu (rd rs1 rs2 : BitVec 5) (s : State) : Host.Outcome State Fault Refusal :=
  s.straight 4 (fun s => s.writeX rd (boolWord ((s.x rs1).ult (s.x rs2))))

/-- R27: xor. -/
def execXor (rd rs1 rs2 : BitVec 5) (s : State) : Host.Outcome State Fault Refusal :=
  s.straight 4 (fun s => s.writeX rd (s.x rs1 ^^^ s.x rs2))

/-- R27: or. -/
def execOr (rd rs1 rs2 : BitVec 5) (s : State) : Host.Outcome State Fault Refusal :=
  s.straight 4 (fun s => s.writeX rd (s.x rs1 ||| s.x rs2))

/-- R27: and. -/
def execAnd (rd rs1 rs2 : BitVec 5) (s : State) : Host.Outcome State Fault Refusal :=
  s.straight 4 (fun s => s.writeX rd (s.x rs1 &&& s.x rs2))

/-- R27: mul. -/
def execMul (rd rs1 rs2 : BitVec 5) (s : State) : Host.Outcome State Fault Refusal :=
  s.straight 4 (fun s => s.writeX rd (s.x rs1 * s.x rs2))

/-- R27: mulh. -/
def execMulh (rd rs1 rs2 : BitVec 5) (s : State) : Host.Outcome State Fault Refusal :=
  s.straight 4 (fun s => s.writeX rd (mulHigh (s.x rs1) (s.x rs2)))

/-- R27: mulhsu. -/
def execMulhsu (rd rs1 rs2 : BitVec 5) (s : State) : Host.Outcome State Fault Refusal :=
  s.straight 4 (fun s => s.writeX rd (mulHighSU (s.x rs1) (s.x rs2)))

/-- R27: mulhu. -/
def execMulhu (rd rs1 rs2 : BitVec 5) (s : State) : Host.Outcome State Fault Refusal :=
  s.straight 4 (fun s => s.writeX rd (mulHighU (s.x rs1) (s.x rs2)))

/-- R27: div. -/
def execDiv (rd rs1 rs2 : BitVec 5) (s : State) : Host.Outcome State Fault Refusal :=
  s.straight 4 (fun s => s.writeX rd (divS (s.x rs1) (s.x rs2)))

/-- R27: divu. -/
def execDivu (rd rs1 rs2 : BitVec 5) (s : State) : Host.Outcome State Fault Refusal :=
  s.straight 4 (fun s => s.writeX rd (divU (s.x rs1) (s.x rs2)))

/-- R27: rem. -/
def execRem (rd rs1 rs2 : BitVec 5) (s : State) : Host.Outcome State Fault Refusal :=
  s.straight 4 (fun s => s.writeX rd (remS (s.x rs1) (s.x rs2)))

/-- R27: remu. -/
def execRemu (rd rs1 rs2 : BitVec 5) (s : State) : Host.Outcome State Fault Refusal :=
  s.straight 4 (fun s => s.writeX rd (remU (s.x rs1) (s.x rs2)))

/-- R27: addw. -/
def execAddw (rd rs1 rs2 : BitVec 5) (s : State) : Host.Outcome State Fault Refusal :=
  s.straight 4 (fun s => s.writeX rd (sextW (lowW (s.x rs1) + lowW (s.x rs2))))

/-- R27: subw. -/
def execSubw (rd rs1 rs2 : BitVec 5) (s : State) : Host.Outcome State Fault Refusal :=
  s.straight 4 (fun s => s.writeX rd (sextW (lowW (s.x rs1) - lowW (s.x rs2))))

/-- R27: sllw. -/
def execSllw (rd rs1 rs2 : BitVec 5) (s : State) : Host.Outcome State Fault Refusal :=
  s.straight 4 (fun s => s.writeX rd (sextW (lowW (s.x rs1) <<< (s.x rs2).extractLsb' 0 5)))

/-- R27: srlw. -/
def execSrlw (rd rs1 rs2 : BitVec 5) (s : State) : Host.Outcome State Fault Refusal :=
  s.straight 4 (fun s => s.writeX rd (sextW (lowW (s.x rs1) >>> (s.x rs2).extractLsb' 0 5)))

/-- R27: sraw. -/
def execSraw (rd rs1 rs2 : BitVec 5) (s : State) : Host.Outcome State Fault Refusal :=
  s.straight 4 (fun s => s.writeX rd (sextW ((lowW (s.x rs1)).sshiftRight (field (s.x rs2) 0 5))))

/-- R27: mulw. -/
def execMulw (rd rs1 rs2 : BitVec 5) (s : State) : Host.Outcome State Fault Refusal :=
  s.straight 4 (fun s => s.writeX rd (sextW (lowW (s.x rs1) * lowW (s.x rs2))))

/-- R27: divw. -/
def execDivw (rd rs1 rs2 : BitVec 5) (s : State) : Host.Outcome State Fault Refusal :=
  s.straight 4 (fun s => s.writeX rd (sextW (divS (lowW (s.x rs1)) (lowW (s.x rs2)))))

/-- R27: divuw. -/
def execDivuw (rd rs1 rs2 : BitVec 5) (s : State) : Host.Outcome State Fault Refusal :=
  s.straight 4 (fun s => s.writeX rd (sextW (divU (lowW (s.x rs1)) (lowW (s.x rs2)))))

/-- R27: remw. -/
def execRemw (rd rs1 rs2 : BitVec 5) (s : State) : Host.Outcome State Fault Refusal :=
  s.straight 4 (fun s => s.writeX rd (sextW (remS (lowW (s.x rs1)) (lowW (s.x rs2)))))

/-- R27: remuw. -/
def execRemuw (rd rs1 rs2 : BitVec 5) (s : State) : Host.Outcome State Fault Refusal :=
  s.straight 4 (fun s => s.writeX rd (sextW (remU (lowW (s.x rs1)) (lowW (s.x rs2)))))

/-- R34: c.addi4spn. -/
def execCAddi4spn (rd : BitVec 3) (imm : BitVec 8) (s : State) : Host.Outcome State Fault Refusal :=
  s.straight 2 (fun s => s.writeX (creg rd) (s.x sp + uoff4 imm))

/-- R34: c.nop, with its HINT encodings. -/
def execCNop (_imm : BitVec 6) (s : State) : Host.Outcome State Fault Refusal :=
  s.straight 2 (fun s => s)

/-- R34: c.addi. -/
def execCAddi (rd : BitVec 5) (imm : BitVec 6) (s : State) : Host.Outcome State Fault Refusal :=
  s.straight 2 (fun s => s.writeX rd (s.x rd + imm6 imm))

/-- R34: c.addiw. -/
def execCAddiw (rd : BitVec 5) (imm : BitVec 6) (s : State) : Host.Outcome State Fault Refusal :=
  s.straight 2 (fun s => s.writeX rd (sextW (lowW (s.x rd) + lowW (imm6 imm))))

/-- R34: c.li. -/
def execCLi (rd : BitVec 5) (imm : BitVec 6) (s : State) : Host.Outcome State Fault Refusal :=
  s.straight 2 (fun s => s.writeX rd (imm6 imm))

/-- R34: c.addi16sp. -/
def execCAddi16sp (imm : BitVec 6) (s : State) : Host.Outcome State Fault Refusal :=
  s.straight 2 (fun s => s.writeX sp (s.x sp + immC16sp imm))

/-- R34: c.lui. -/
def execCLui (rd : BitVec 5) (imm : BitVec 6) (s : State) : Host.Outcome State Fault Refusal :=
  s.straight 2 (fun s => s.writeX rd (immCLui imm))

/-- R34: c.srli. -/
def execCSrli (rd : BitVec 3) (shamt : BitVec 6) (s : State) : Host.Outcome State Fault Refusal :=
  s.straight 2 (fun s => s.writeX (creg rd) (s.x (creg rd) >>> shamt))

/-- R34: c.srai. -/
def execCSrai (rd : BitVec 3) (shamt : BitVec 6) (s : State) : Host.Outcome State Fault Refusal :=
  s.straight 2 (fun s => s.writeX (creg rd) ((s.x (creg rd)).sshiftRight shamt.toNat))

/-- R34: c.andi. -/
def execCAndi (rd : BitVec 3) (imm : BitVec 6) (s : State) : Host.Outcome State Fault Refusal :=
  s.straight 2 (fun s => s.writeX (creg rd) (s.x (creg rd) &&& imm6 imm))

/-- R34: c.sub. -/
def execCSub (rd rs2 : BitVec 3) (s : State) : Host.Outcome State Fault Refusal :=
  s.straight 2 (fun s => s.writeX (creg rd) (s.x (creg rd) - s.x (creg rs2)))

/-- R34: c.xor. -/
def execCXor (rd rs2 : BitVec 3) (s : State) : Host.Outcome State Fault Refusal :=
  s.straight 2 (fun s => s.writeX (creg rd) (s.x (creg rd) ^^^ s.x (creg rs2)))

/-- R34: c.or. -/
def execCOr (rd rs2 : BitVec 3) (s : State) : Host.Outcome State Fault Refusal :=
  s.straight 2 (fun s => s.writeX (creg rd) (s.x (creg rd) ||| s.x (creg rs2)))

/-- R34: c.and. -/
def execCAnd (rd rs2 : BitVec 3) (s : State) : Host.Outcome State Fault Refusal :=
  s.straight 2 (fun s => s.writeX (creg rd) (s.x (creg rd) &&& s.x (creg rs2)))

/-- R34: c.subw. -/
def execCSubw (rd rs2 : BitVec 3) (s : State) : Host.Outcome State Fault Refusal :=
  s.straight 2 (fun s => s.writeX (creg rd) (sextW (lowW (s.x (creg rd)) - lowW (s.x (creg rs2)))))

/-- R34: c.addw. -/
def execCAddw (rd rs2 : BitVec 3) (s : State) : Host.Outcome State Fault Refusal :=
  s.straight 2 (fun s => s.writeX (creg rd) (sextW (lowW (s.x (creg rd)) + lowW (s.x (creg rs2)))))

/-- R34: c.slli. -/
def execCSlli (rd : BitVec 5) (shamt : BitVec 6) (s : State) : Host.Outcome State Fault Refusal :=
  s.straight 2 (fun s => s.writeX rd (s.x rd <<< shamt))

/-- R34: c.mv. -/
def execCMv (rd rs2 : BitVec 5) (s : State) : Host.Outcome State Fault Refusal :=
  s.straight 2 (fun s => s.writeX rd (s.x rs2))

/-- R34: c.add. -/
def execCAdd (rd rs2 : BitVec 5) (s : State) : Host.Outcome State Fault Refusal :=
  s.straight 2 (fun s => s.writeX rd (s.x rd + s.x rs2))

end Sys2Proof.Machine
end

