-- ==== Sys2Proof/Machine/Permute.lean ====
section
/-! DEFINITION. The effect of each permute and predicate instruction, with its x operands as they were read at issue (R175). -/

namespace Sys2Proof.Machine

/-- R175: vbcast. -/
def effVbcast (vd _rs1 : BitVec 5) (w : BitVec 2) (xa _xb : Word) (t : Strand) : Strand :=
  let n := elemBytes w
  t.writeV vd (lineOfElems n (List.replicate (lanes n) xa.toNat))

/-- R175: vins. -/
def effVins (vd _rs1 _rs2 : BitVec 5) (w : BitVec 2) (xa xb : Word) (t : Strand) : Strand :=
  let n := elemBytes w
  let d := t.readV vd
  t.writeV vd (lineOfElems n ((List.range (lanes n)).map (fun i => if i = xb.toNat then xa.toNat else elemNat d n i)))

/-- R175: vperm. -/
def effVperm (vd vs1 vs2 : BitVec 5) (w : BitVec 2) (_xa _xb : Word) (t : Strand) : Strand :=
  let n := elemBytes w
  t.writeV vd (lineOfElems n ((List.range (lanes n)).map (fun i => let j := elemNat (t.readV vs2) n i; if j < lanes n then elemNat (t.readV vs1) n j else 0)))

/-- R175: vslideup. -/
def effVslideup (vd vs1 _rs2 : BitVec 5) (w : BitVec 2) (_xa xb : Word) (t : Strand) : Strand :=
  let n := elemBytes w
  t.writeV vd (lineOfElems n ((List.range (lanes n)).map (fun i => if xb.toNat ≤ i then elemNat (t.readV vs1) n (i - xb.toNat) else 0)))

/-- R175: vslidedn. -/
def effVslidedn (vd vs1 _rs2 : BitVec 5) (w : BitVec 2) (_xa xb : Word) (t : Strand) : Strand :=
  let n := elemBytes w
  t.writeV vd (lineOfElems n ((List.range (lanes n)).map (fun i => if i + xb.toNat < lanes n then elemNat (t.readV vs1) n (i + xb.toNat) else 0)))

/-- R175: vzip. -/
def effVzip (vd vs1 vs2 : BitVec 5) (w : BitVec 2) (_xa _xb : Word) (t : Strand) : Strand :=
  let n := elemBytes w
  t.writeV vd (lineOfElems n ((List.range (lanes n)).map (fun i => elemNat (t.readV (if i % 2 = 0 then vs1 else vs2)) n (i / 2))))

/-- R175: vunzip. -/
def effVunzip (vd vs1 : BitVec 5) (w : BitVec 2) (_xa _xb : Word) (t : Strand) : Strand :=
  let n := elemBytes w
  t.writeV vd (lineOfElems n ((List.range (lanes n)).map (fun i => if i < lanes n / 2 then elemNat (t.readV vs1) n (2 * i) else elemNat (t.readV vs1) n (2 * (i - lanes n / 2) + 1))))

/-- R175: vrev. -/
def effVrev (vd vs1 : BitVec 5) (w : BitVec 2) (_xa _xb : Word) (t : Strand) : Strand :=
  let n := elemBytes w
  t.writeV vd (lineOfElems n ((List.range (lanes n)).map (fun i => elemNat (t.readV vs1) n (lanes n - 1 - i))))

/-- R175: vcompress. -/
def effVcompress (vd vs1 : BitVec 5) (ps2 : BitVec 3) (w : BitVec 2) (_xa _xb : Word) (t : Strand) : Strand :=
  let n := elemBytes w
  t.writeV vd (lineOfElems n (activeElems n (t.readP ps2) (t.readV vs1)))

/-- R175: pand. -/
def effPand (pd ps1 ps2 : BitVec 3) (_xa _xb : Word) (t : Strand) : Strand :=
  t.writeP pd (t.readP ps1 &&& t.readP ps2)

/-- R175: por. -/
def effPor (pd ps1 ps2 : BitVec 3) (_xa _xb : Word) (t : Strand) : Strand :=
  t.writeP pd (t.readP ps1 ||| t.readP ps2)

/-- R175: pxor. -/
def effPxor (pd ps1 ps2 : BitVec 3) (_xa _xb : Word) (t : Strand) : Strand :=
  t.writeP pd (t.readP ps1 ^^^ t.readP ps2)

/-- R175: pnot. -/
def effPnot (pd ps1 : BitVec 3) (_xa _xb : Word) (t : Strand) : Strand :=
  t.writeP pd (~~~t.readP ps1)

/-- R175: pwhile. -/
def effPwhile (pd : BitVec 3) (_rs1 _rs2 : BitVec 5) (w : BitVec 2) (xa xb : Word) (t : Strand) : Strand :=
  t.writeP pd (predOf (elemBytes w) (fun i => xa.toNat + i < xb.toNat))

/-- R175: vmv. -/
def effVmv (vd vs1 : BitVec 5) (_w : BitVec 2) (_xa _xb : Word) (t : Strand) : Strand :=
  t.writeV vd (t.readV vs1)

/-- R175: vext. -/
def effVext (_rd vs1 _rs2 : BitVec 5) (w : BitVec 2) (_xa xb : Word) (t : Strand) : Word :=
  let n := elemBytes w
  if xb.toNat < lanes n then (BitVec.ofNat (8 * n) (elemNat (t.readV vs1) n xb.toNat)).signExtend 64 else 0

/-- R175: pcount. -/
def effPcount (_rd : BitVec 5) (ps1 : BitVec 3) (w : BitVec 2) (_xa _xb : Word) (t : Strand) : Word :=
  let n := elemBytes w
  BitVec.ofNat 64 ((List.range (lanes n)).countP (active (t.readP ps1) n))

/-- R175: pfirst. -/
def effPfirst (_rd : BitVec 5) (ps1 : BitVec 3) (w : BitVec 2) (_xa _xb : Word) (t : Strand) : Word :=
  let n := elemBytes w
  BitVec.ofNat 64 (((List.range (lanes n)).find? (active (t.readP ps1) n)).getD (lanes n))

end Sys2Proof.Machine
end

