-- ==== Sys2Proof/Machine/VectorFloat.lean ====
section
/-! DEFINITION. The effect of each floating instruction of custom-1 on its strand, under the rounding mode captured at issue
(R167-R173). -/

namespace Sys2Proof.Machine

/-- R167, R168: vfadd. -/
def effVfadd (vd vs1 vs2 : BitVec 5) (pg et : BitVec 2) (rm : Rm) (t : Strand) : Strand :=
  t.fpArith rm vd vs1 vs2 pg et (fun a b _ => a.add (rm == rdn) b)

/-- R167, R168: vfsub. -/
def effVfsub (vd vs1 vs2 : BitVec 5) (pg et : BitVec 2) (rm : Rm) (t : Strand) : Strand :=
  t.fpArith rm vd vs1 vs2 pg et (fun a b _ => a.add (rm == rdn) b.negate)

/-- R167, R168: vfmul. -/
def effVfmul (vd vs1 vs2 : BitVec 5) (pg et : BitVec 2) (rm : Rm) (t : Strand) : Strand :=
  t.fpArith rm vd vs1 vs2 pg et (fun a b _ => a.mul b)

/-- R167, R168: vfma. -/
def effVfma (vd vs1 vs2 : BitVec 5) (pg et : BitVec 2) (rm : Rm) (t : Strand) : Strand :=
  t.fpArith rm vd vs1 vs2 pg et (fun a b d => Fp.fma (rm == rdn) a b d)

/-- R167, R168: vfms. -/
def effVfms (vd vs1 vs2 : BitVec 5) (pg et : BitVec 2) (rm : Rm) (t : Strand) : Strand :=
  t.fpArith rm vd vs1 vs2 pg et (fun a b d => Fp.fma (rm == rdn) a b d.negate)

/-- R167, R168: vfdiv. -/
def effVfdiv (vd vs1 vs2 : BitVec 5) (pg et : BitVec 2) (rm : Rm) (t : Strand) : Strand :=
  t.fpArith rm vd vs1 vs2 pg et (fun a b _ => a.div b)

/-- R167, R168: vfsqrt. -/
def effVfsqrt (vd vs1 : BitVec 5) (pg et : BitVec 2) (rm : Rm) (t : Strand) : Strand :=
  t.fpArith rm vd vs1 vs1 pg et (fun a _ _ => a.sqrt)

/-- R167: vfmin. -/
def effVfmin (vd vs1 vs2 : BitVec 5) (pg et : BitVec 2) (_rm : Rm) (t : Strand) : Strand :=
  t.fpExact vd vs1 vs2 pg et Fp.minimum

/-- R167: vfmax. -/
def effVfmax (vd vs1 vs2 : BitVec 5) (pg et : BitVec 2) (_rm : Rm) (t : Strand) : Strand :=
  t.fpExact vd vs1 vs2 pg et Fp.maximum

/-- R167: vfabs. -/
def effVfabs (vd vs1 : BitVec 5) (pg et : BitVec 2) (_rm : Rm) (t : Strand) : Strand :=
  t.fpExact vd vs1 vs1 pg et (fun a _ => a.abs)

/-- R167: vfneg. -/
def effVfneg (vd vs1 : BitVec 5) (pg et : BitVec 2) (_rm : Rm) (t : Strand) : Strand :=
  t.fpExact vd vs1 vs1 pg et (fun a _ => a.negate)

/-- R167, R168: vfexp2. -/
def effVfexp2 (vd vs1 : BitVec 5) (pg et : BitVec 2) (rm : Rm) (t : Strand) : Strand :=
  t.fpArith rm vd vs1 vs1 pg et (fun a _ _ => a.exp2)

/-- R167, R168: vflog2. -/
def effVflog2 (vd vs1 : BitVec 5) (pg et : BitVec 2) (rm : Rm) (t : Strand) : Strand :=
  t.fpArith rm vd vs1 vs1 pg et (fun a _ _ => a.log2)

/-- R167, R168: vfrcp. -/
def effVfrcp (vd vs1 : BitVec 5) (pg et : BitVec 2) (rm : Rm) (t : Strand) : Strand :=
  t.fpArith rm vd vs1 vs1 pg et (fun a _ _ => a.rcp)

/-- R165, R167: vfcmpeq. -/
def effVfcmpeq (pd : BitVec 3) (vs1 vs2 : BitVec 5) (pg et : BitVec 2) (_rm : Rm) (t : Strand) : Strand :=
  t.fpCmp pd vs1 vs2 pg et Fp.eq

/-- R165, R167: vfcmplt. -/
def effVfcmplt (pd : BitVec 3) (vs1 vs2 : BitVec 5) (pg et : BitVec 2) (_rm : Rm) (t : Strand) : Strand :=
  t.fpCmp pd vs1 vs2 pg et Fp.lt

/-- R165, R167: vfcmple. -/
def effVfcmple (pd : BitVec 3) (vs1 vs2 : BitVec 5) (pg et : BitVec 2) (_rm : Rm) (t : Strand) : Strand :=
  t.fpCmp pd vs1 vs2 pg et (fun a b => a.lt b || a.eq b)

/-- R165, R167: vfcmpun. -/
def effVfcmpun (pd : BitVec 3) (vs1 vs2 : BitVec 5) (pg et : BitVec 2) (_rm : Rm) (t : Strand) : Strand :=
  t.fpCmp pd vs1 vs2 pg et (fun a b => a == .nan || b == .nan)

/-- R160, R170: vfredsum. -/
def effVfredsum (vd vs1 : BitVec 5) (pg et : BitVec 2) (rm : Rm) (t : Strand) : Strand :=
  let k := fmtOf et
  let n := k.bytes
  let leaves := (List.range (lanes n)).map (fun i =>
    (if active (t.governing pg) n i then elemNat (t.readV vs1) n i else 0, (0 : Flags)))
  let r := treeOf (0, 0) (k.addNode rm) 7 leaves
  (t.writeV vd (lineOfElems n [r.1])).accrue r.2

/-- R170: vfredmax. -/
def effVfredmax (vd vs1 : BitVec 5) (pg et : BitVec 2) (_rm : Rm) (t : Strand) : Strand :=
  t.fpRed vd vs1 pg et (.inf true) Fp.maximumNumber

/-- R170: vfredmin. -/
def effVfredmin (vd vs1 : BitVec 5) (pg et : BitVec 2) (_rm : Rm) (t : Strand) : Strand :=
  t.fpRed vd vs1 pg et (.inf false) Fp.minimumNumber

/-- R172, R173: vfcvt. -/
def effVfcvt (vd vs1 : BitVec 5) (pg : BitVec 2) (ty : BitVec 5) (et : BitVec 2) (rm : Rm) (t : Strand) : Strand :=
  let k := cvtFmt ty
  t.convert vd vs1 pg (fmtOf et).bytes k.width (fun w => k.deliver rm ((fmtOf et).decode w, 0))

/-- R172, R173: vfcvti. -/
def effVfcvti (vd vs1 : BitVec 5) (pg : BitVec 2) (ty : BitVec 5) (et : BitVec 2) (rm : Rm) (t : Strand) : Strand :=
  let d := cvtInt ty
  t.convert vd vs1 pg (fmtOf et).bytes d.1 (fun w => toInteger rm d.1 d.2 ((fmtOf et).decode w))

/-- R172, R173: vicvtf. -/
def effVicvtf (vd vs1 : BitVec 5) (pg : BitVec 2) (ty : BitVec 5) (et : BitVec 2) (rm : Rm) (t : Strand) : Strand :=
  let k := cvtFmt (ty &&& 15)
  let n := (fmtOf et).bytes
  t.convert vd vs1 pg n k.width (fun w => k.deliver rm (Fp.ofInt (if ty.getLsbD 4 then (w : Int) else signedOf n w) 0, 0))

/-- R171: vfwmacc. -/
def effVfwmacc (vd vs1 vs2 : BitVec 5) (pg et : BitVec 2) (rm : Rm) (t : Strand) : Strand :=
  let k := fmtOf et
  let w := widerFmt et
  let n := k.bytes
  let p := t.governing pg
  let a := fun (r : BitVec 5) (i : Nat) => k.decode (elemNat (t.readV r) n i)
  let r := (List.range (lanes (2 * n))).map (fun i =>
    if active p (2 * n) i then
      w.deliver rm (accumulatePair (rm == rdn) (w.decode (elemNat (t.readV vd) (2 * n) i)) (a vs1 (2 * i)) (a vs2 (2 * i))
        (a vs1 (2 * i + 1)) (a vs2 (2 * i + 1)))
    else (elemNat (t.readV vd) (2 * n) i, 0))
  (t.writeV vd (lineOfElems (2 * n) (r.map (·.1)))).accrue (orFlags (r.map (·.2)))

/-- R169: vfclass. -/
def effVfclass (vd vs1 : BitVec 5) (pg et : BitVec 2) (_rm : Rm) (t : Strand) : Strand :=
  t.fpMap vd vs1 vs1 pg et (fun k a _ _ => (k.classOf a, 0))

/-- R167, R168: vfround. -/
def effVfround (vd vs1 : BitVec 5) (pg et : BitVec 2) (rm : Rm) (t : Strand) : Strand :=
  t.fpExact vd vs1 vs1 pg et (fun a _ => a.integral rm)

/-- R167, R168: vfscale. -/
def effVfscale (vd vs1 vs2 : BitVec 5) (pg et : BitVec 2) (rm : Rm) (t : Strand) : Strand :=
  t.fpMap vd vs1 vs2 pg et (fun k a b _ => k.deliver rm ((k.decode a).scale (signedOf k.bytes b), 0))

/-- R167, R168: vfrsqrt. -/
def effVfrsqrt (vd vs1 : BitVec 5) (pg et : BitVec 2) (rm : Rm) (t : Strand) : Strand :=
  t.fpArith rm vd vs1 vs1 pg et (fun a _ _ => a.rsqrt)

/-- R167: vfmaxnum. -/
def effVfmaxnum (vd vs1 vs2 : BitVec 5) (pg et : BitVec 2) (_rm : Rm) (t : Strand) : Strand :=
  t.fpExact vd vs1 vs2 pg et Fp.maximumNumber

/-- R150, R167: vmovi of a floating type. -/
def effVmoviF (vd : BitVec 5) (pg : BitVec 2) (imm : BitVec 8) (et : BitVec 2) (_rm : Rm) (t : Strand) : Strand :=
  t.fpMap vd vd vd pg et (fun k _ _ _ => (k.encode (fimm8 imm), 0))

/-- R167: vfminnum. -/
def effVfminnum (vd vs1 vs2 : BitVec 5) (pg et : BitVec 2) (_rm : Rm) (t : Strand) : Strand :=
  t.fpExact vd vs1 vs2 pg et Fp.minimumNumber

end Sys2Proof.Machine
end

