-- ==== Sys2Proof/Machine/VectorInt.lean ====
section
/-! DEFINITION. The effect of each integer instruction of custom-1 on its strand (R164-R166). -/

namespace Sys2Proof.Machine

/-- R164: vadd. -/
def effVadd (vd vs1 vs2 : BitVec 5) (pg et : BitVec 2) (t : Strand) : Strand :=
  t.intMap vd vs1 vs2 pg et (fun _ a b _ => a + b)

/-- R164: vsub. -/
def effVsub (vd vs1 vs2 : BitVec 5) (pg et : BitVec 2) (t : Strand) : Strand :=
  t.intMap vd vs1 vs2 pg et (fun _ a b _ => a - b)

/-- R164: vmul. -/
def effVmul (vd vs1 vs2 : BitVec 5) (pg et : BitVec 2) (t : Strand) : Strand :=
  t.intMap vd vs1 vs2 pg et (fun _ a b _ => a * b)

/-- R164: vmulh. -/
def effVmulh (vd vs1 vs2 : BitVec 5) (pg et : BitVec 2) (t : Strand) : Strand :=
  t.intMap vd vs1 vs2 pg et (fun w a b _ => (a.signExtend (2 * w) * b.signExtend (2 * w)).extractLsb' w w)

/-- R164: vmulhn. -/
def effVmulhn (vd vs1 vs2 : BitVec 5) (pg et : BitVec 2) (t : Strand) : Strand :=
  t.intMap vd vs1 vs2 pg et (fun w a b _ => (a.setWidth (2 * w) * b.setWidth (2 * w)).extractLsb' w w)

/-- R164: vand. -/
def effVand (vd vs1 vs2 : BitVec 5) (pg et : BitVec 2) (t : Strand) : Strand :=
  t.intMap vd vs1 vs2 pg et (fun _ a b _ => a &&& b)

/-- R164: vor. -/
def effVor (vd vs1 vs2 : BitVec 5) (pg et : BitVec 2) (t : Strand) : Strand :=
  t.intMap vd vs1 vs2 pg et (fun _ a b _ => a ||| b)

/-- R164: vxor. -/
def effVxor (vd vs1 vs2 : BitVec 5) (pg et : BitVec 2) (t : Strand) : Strand :=
  t.intMap vd vs1 vs2 pg et (fun _ a b _ => a ^^^ b)

/-- R164: vshl. -/
def effVshl (vd vs1 vs2 : BitVec 5) (pg et : BitVec 2) (t : Strand) : Strand :=
  t.intMap vd vs1 vs2 pg et (fun w a b _ => if b.toNat < w then a <<< b.toNat else 0)

/-- R164: vshr. -/
def effVshr (vd vs1 vs2 : BitVec 5) (pg et : BitVec 2) (t : Strand) : Strand :=
  t.intMap vd vs1 vs2 pg et (fun w a b _ => if b.toNat < w then a >>> b.toNat else 0)

/-- R164: vsra. -/
def effVsra (vd vs1 vs2 : BitVec 5) (pg et : BitVec 2) (t : Strand) : Strand :=
  t.intMap vd vs1 vs2 pg et (fun w a b _ => a.sshiftRight (min b.toNat (w - 1)))

/-- R164: vmin. -/
def effVmin (vd vs1 vs2 : BitVec 5) (pg et : BitVec 2) (t : Strand) : Strand :=
  t.intMap vd vs1 vs2 pg et (fun _ a b _ => if a.slt b then a else b)

/-- R164: vmax. -/
def effVmax (vd vs1 vs2 : BitVec 5) (pg et : BitVec 2) (t : Strand) : Strand :=
  t.intMap vd vs1 vs2 pg et (fun _ a b _ => if a.slt b then b else a)

/-- R164: vminn. -/
def effVminn (vd vs1 vs2 : BitVec 5) (pg et : BitVec 2) (t : Strand) : Strand :=
  t.intMap vd vs1 vs2 pg et (fun _ a b _ => if a.ult b then a else b)

/-- R164: vmaxn. -/
def effVmaxn (vd vs1 vs2 : BitVec 5) (pg et : BitVec 2) (t : Strand) : Strand :=
  t.intMap vd vs1 vs2 pg et (fun _ a b _ => if a.ult b then b else a)

/-- R164: vadds. -/
def effVadds (vd vs1 vs2 : BitVec 5) (pg et : BitVec 2) (t : Strand) : Strand :=
  t.intMap vd vs1 vs2 pg et (fun w a b _ => saturate w (a.toInt + b.toInt))

/-- R164: vaddi. -/
def effVaddi (vd vs1 : BitVec 5) (pg : BitVec 2) (imm : BitVec 5) (et : BitVec 2) (t : Strand) : Strand :=
  t.intMap1 vd vs1 pg et (fun w a => a + imm.signExtend w)

/-- R164: vshli. -/
def effVshli (vd vs1 : BitVec 5) (pg : BitVec 2) (imm : BitVec 5) (et : BitVec 2) (t : Strand) : Strand :=
  t.intMap1 vd vs1 pg et (fun _ a => a <<< imm.toNat)

/-- R164: vshri. -/
def effVshri (vd vs1 : BitVec 5) (pg : BitVec 2) (imm : BitVec 5) (et : BitVec 2) (t : Strand) : Strand :=
  t.intMap1 vd vs1 pg et (fun _ a => a >>> imm.toNat)

/-- R164: vsrai. -/
def effVsrai (vd vs1 : BitVec 5) (pg : BitVec 2) (imm : BitVec 5) (et : BitVec 2) (t : Strand) : Strand :=
  t.intMap1 vd vs1 pg et (fun _ a => a.sshiftRight imm.toNat)

/-- R164, R165: vcmpeq. -/
def effVcmpeq (pd : BitVec 3) (vs1 vs2 : BitVec 5) (pg et : BitVec 2) (t : Strand) : Strand :=
  t.intCmp pd vs1 vs2 pg et (fun _ a b => a == b)

/-- R164, R165: vcmplt. -/
def effVcmplt (pd : BitVec 3) (vs1 vs2 : BitVec 5) (pg et : BitVec 2) (t : Strand) : Strand :=
  t.intCmp pd vs1 vs2 pg et (fun _ a b => a.slt b)

/-- R164, R165: vcmple. -/
def effVcmple (pd : BitVec 3) (vs1 vs2 : BitVec 5) (pg et : BitVec 2) (t : Strand) : Strand :=
  t.intCmp pd vs1 vs2 pg et (fun _ a b => a.sle b)

/-- R164, R165: vcmpltn. -/
def effVcmpltn (pd : BitVec 3) (vs1 vs2 : BitVec 5) (pg et : BitVec 2) (t : Strand) : Strand :=
  t.intCmp pd vs1 vs2 pg et (fun _ a b => a.ult b)

/-- R164: vcnt. -/
def effVcnt (vd vs1 : BitVec 5) (pg et : BitVec 2) (t : Strand) : Strand :=
  t.intMap1 vd vs1 pg et (fun _ a => popCount a)

/-- R164: vclz. -/
def effVclz (vd vs1 : BitVec 5) (pg et : BitVec 2) (t : Strand) : Strand :=
  t.intMap1 vd vs1 pg et (fun _ a => leadingZeros a)

/-- R166: vredsum. -/
def effVredsum (vd vs1 : BitVec 5) (pg et : BitVec 2) (t : Strand) : Strand :=
  t.intRed vd vs1 pg et (fun _ => 0) (fun a b => a + b)

/-- R166: vredmax. -/
def effVredmax (vd vs1 : BitVec 5) (pg et : BitVec 2) (t : Strand) : Strand :=
  t.intRed vd vs1 pg et (fun w => -(2 ^ (w - 1))) max

/-- R166: vredmin. -/
def effVredmin (vd vs1 : BitVec 5) (pg et : BitVec 2) (t : Strand) : Strand :=
  t.intRed vd vs1 pg et (fun w => 2 ^ (w - 1) - 1) min

/-- R164: vsel. -/
def effVsel (vd vs1 vs2 : BitVec 5) (pg et : BitVec 2) (t : Strand) : Strand :=
  let n := elemBytes et
  t.writeV vd (mapLine n (t.governing pg) (t.readV vs2) (elemNat (t.readV vs1) n))

/-- R150, R164: vmovi. -/
def effVmovi (vd : BitVec 5) (pg : BitVec 2) (imm : BitVec 10) (et : BitVec 2) (t : Strand) : Strand :=
  t.intMap1 vd vd pg et (fun w _ => imm.signExtend w)

/-- R164: vmacc. -/
def effVmacc (vd vs1 vs2 : BitVec 5) (pg et : BitVec 2) (t : Strand) : Strand :=
  t.intMap vd vs1 vs2 pg et (fun _ a b d => d + a * b)

end Sys2Proof.Machine
end

