-- ==== Sys2Proof/Machine/Vector.lean ====
section
/-! DEFINITION. Vector, predicate and permute instructions: the vector queue and their issue (R107, R163, R174-R178). -/

namespace Sys2Proof.Machine

/-- R107: what a queued entry that writes v or p registers does to its strand when it executes. -/
def vectorEffect (e : VEntry) (t : Strand) : Strand :=
  match e.instr with
  | .vadd vd vs1 vs2 pg et => effVadd vd vs1 vs2 pg et t
  | .vsub vd vs1 vs2 pg et => effVsub vd vs1 vs2 pg et t
  | .vmul vd vs1 vs2 pg et => effVmul vd vs1 vs2 pg et t
  | .vmulh vd vs1 vs2 pg et => effVmulh vd vs1 vs2 pg et t
  | .vmulhn vd vs1 vs2 pg et => effVmulhn vd vs1 vs2 pg et t
  | .vand vd vs1 vs2 pg et => effVand vd vs1 vs2 pg et t
  | .vor vd vs1 vs2 pg et => effVor vd vs1 vs2 pg et t
  | .vxor vd vs1 vs2 pg et => effVxor vd vs1 vs2 pg et t
  | .vshl vd vs1 vs2 pg et => effVshl vd vs1 vs2 pg et t
  | .vshr vd vs1 vs2 pg et => effVshr vd vs1 vs2 pg et t
  | .vsra vd vs1 vs2 pg et => effVsra vd vs1 vs2 pg et t
  | .vmin vd vs1 vs2 pg et => effVmin vd vs1 vs2 pg et t
  | .vmax vd vs1 vs2 pg et => effVmax vd vs1 vs2 pg et t
  | .vminn vd vs1 vs2 pg et => effVminn vd vs1 vs2 pg et t
  | .vmaxn vd vs1 vs2 pg et => effVmaxn vd vs1 vs2 pg et t
  | .vadds vd vs1 vs2 pg et => effVadds vd vs1 vs2 pg et t
  | .vaddi vd vs1 pg imm et => effVaddi vd vs1 pg imm et t
  | .vshli vd vs1 pg imm et => effVshli vd vs1 pg imm et t
  | .vshri vd vs1 pg imm et => effVshri vd vs1 pg imm et t
  | .vsrai vd vs1 pg imm et => effVsrai vd vs1 pg imm et t
  | .vcmpeq pd vs1 vs2 pg et => effVcmpeq pd vs1 vs2 pg et t
  | .vcmplt pd vs1 vs2 pg et => effVcmplt pd vs1 vs2 pg et t
  | .vcmple pd vs1 vs2 pg et => effVcmple pd vs1 vs2 pg et t
  | .vcmpltn pd vs1 vs2 pg et => effVcmpltn pd vs1 vs2 pg et t
  | .vcnt vd vs1 pg et => effVcnt vd vs1 pg et t
  | .vclz vd vs1 pg et => effVclz vd vs1 pg et t
  | .vredsum vd vs1 pg et => effVredsum vd vs1 pg et t
  | .vredmax vd vs1 pg et => effVredmax vd vs1 pg et t
  | .vredmin vd vs1 pg et => effVredmin vd vs1 pg et t
  | .vsel vd vs1 vs2 pg et => effVsel vd vs1 vs2 pg et t
  | .vmovi vd pg imm et => effVmovi vd pg imm et t
  | .vmacc vd vs1 vs2 pg et => effVmacc vd vs1 vs2 pg et t
  | .vfadd vd vs1 vs2 pg et => effVfadd vd vs1 vs2 pg et e.rm t
  | .vfsub vd vs1 vs2 pg et => effVfsub vd vs1 vs2 pg et e.rm t
  | .vfmul vd vs1 vs2 pg et => effVfmul vd vs1 vs2 pg et e.rm t
  | .vfma vd vs1 vs2 pg et => effVfma vd vs1 vs2 pg et e.rm t
  | .vfms vd vs1 vs2 pg et => effVfms vd vs1 vs2 pg et e.rm t
  | .vfdiv vd vs1 vs2 pg et => effVfdiv vd vs1 vs2 pg et e.rm t
  | .vfsqrt vd vs1 pg et => effVfsqrt vd vs1 pg et e.rm t
  | .vfmin vd vs1 vs2 pg et => effVfmin vd vs1 vs2 pg et e.rm t
  | .vfmax vd vs1 vs2 pg et => effVfmax vd vs1 vs2 pg et e.rm t
  | .vfabs vd vs1 pg et => effVfabs vd vs1 pg et e.rm t
  | .vfneg vd vs1 pg et => effVfneg vd vs1 pg et e.rm t
  | .vfexp2 vd vs1 pg et => effVfexp2 vd vs1 pg et e.rm t
  | .vflog2 vd vs1 pg et => effVflog2 vd vs1 pg et e.rm t
  | .vfrcp vd vs1 pg et => effVfrcp vd vs1 pg et e.rm t
  | .vfcmpeq pd vs1 vs2 pg et => effVfcmpeq pd vs1 vs2 pg et e.rm t
  | .vfcmplt pd vs1 vs2 pg et => effVfcmplt pd vs1 vs2 pg et e.rm t
  | .vfcmple pd vs1 vs2 pg et => effVfcmple pd vs1 vs2 pg et e.rm t
  | .vfcmpun pd vs1 vs2 pg et => effVfcmpun pd vs1 vs2 pg et e.rm t
  | .vfredsum vd vs1 pg et => effVfredsum vd vs1 pg et e.rm t
  | .vfredmax vd vs1 pg et => effVfredmax vd vs1 pg et e.rm t
  | .vfredmin vd vs1 pg et => effVfredmin vd vs1 pg et e.rm t
  | .vfcvt vd vs1 pg ty et => effVfcvt vd vs1 pg ty et e.rm t
  | .vfcvti vd vs1 pg ty et => effVfcvti vd vs1 pg ty et e.rm t
  | .vicvtf vd vs1 pg ty et => effVicvtf vd vs1 pg ty et e.rm t
  | .vfwmacc vd vs1 vs2 pg et => effVfwmacc vd vs1 vs2 pg et e.rm t
  | .vfclass vd vs1 pg et => effVfclass vd vs1 pg et e.rm t
  | .vfround vd vs1 pg et => effVfround vd vs1 pg et e.rm t
  | .vfscale vd vs1 vs2 pg et => effVfscale vd vs1 vs2 pg et e.rm t
  | .vfrsqrt vd vs1 pg et => effVfrsqrt vd vs1 pg et e.rm t
  | .vfmaxnum vd vs1 vs2 pg et => effVfmaxnum vd vs1 vs2 pg et e.rm t
  | .vmoviF vd pg imm et => effVmoviF vd pg imm et e.rm t
  | .vfminnum vd vs1 vs2 pg et => effVfminnum vd vs1 vs2 pg et e.rm t
  | .vbcast vd rs1 w => effVbcast vd rs1 w e.xa e.xb t
  | .vins vd rs1 rs2 w => effVins vd rs1 rs2 w e.xa e.xb t
  | .vperm vd vs1 vs2 w => effVperm vd vs1 vs2 w e.xa e.xb t
  | .vslideup vd vs1 rs2 w => effVslideup vd vs1 rs2 w e.xa e.xb t
  | .vslidedn vd vs1 rs2 w => effVslidedn vd vs1 rs2 w e.xa e.xb t
  | .vzip vd vs1 vs2 w => effVzip vd vs1 vs2 w e.xa e.xb t
  | .vunzip vd vs1 w => effVunzip vd vs1 w e.xa e.xb t
  | .vrev vd vs1 w => effVrev vd vs1 w e.xa e.xb t
  | .vcompress vd vs1 ps2 w => effVcompress vd vs1 ps2 w e.xa e.xb t
  | .pand pd ps1 ps2 => effPand pd ps1 ps2 e.xa e.xb t
  | .por pd ps1 ps2 => effPor pd ps1 ps2 e.xa e.xb t
  | .pxor pd ps1 ps2 => effPxor pd ps1 ps2 e.xa e.xb t
  | .pnot pd ps1 => effPnot pd ps1 e.xa e.xb t
  | .pwhile pd rs1 rs2 w => effPwhile pd rs1 rs2 w e.xa e.xb t
  | .vmv vd vs1 w => effVmv vd vs1 w e.xa e.xb t
  | _ => t

/-- R107: the x register that a queued entry writes, with its value. -/
def vectorResult (e : VEntry) (t : Strand) : Option (BitVec 5 × Word) :=
  match e.instr with
  | .vext rd vs1 rs2 w => some (rd, effVext rd vs1 rs2 w e.xa e.xb t)
  | .pcount rd ps1 w => some (rd, effPcount rd ps1 w e.xa e.xb t)
  | .pfirst rd ps1 w => some (rd, effPfirst rd ps1 w e.xa e.xb t)
  | _ => none

/-! ## Issue (R107, R163) -/

/-- R107: the entries of a vector queue. -/
def vectorQueueSize : Nat := 8

/-- R107: an instruction of the issuing strand as an entry of its core's vector queue. -/
def State.vectorEntry (s : State) (i : Instr) (xa xb : Word) : VEntry :=
  { strand := s.cur, instr := i, xa := xa, xb := xb, rm := s.me.vround, stamp := s.fresh }

/-- R107: an entry joins the queue of the issuing core, if it has room. -/
def State.enqueueVector (s : State) (e : VEntry) : Except Stop State :=
  if vectorQueueSize ≤ s.myCore.vqueue.length then .error (.wait .vectorQueue s)
  else
    .ok ({ (s.modMyCore (fun k => { k with vqueue := k.vqueue ++ [e] })) with fresh := s.fresh + 1 }.countEvent s.here
      evVector 1)

/-- R107, R176: outside the deferred mode, does a vqred that waits hold the head of the core's queue? -/
def State.vqredAhead (s : State) : Bool := !s.deferred && !s.myCore.vqueue.isEmpty

/-- R107: a vector instruction enters the queue, and a result for an x register is outstanding. -/
def State.queueVector (s : State) (e : VEntry) (rd : Option (BitVec 5)) : Except Stop State :=
  (s.enqueueVector e).map (fun s =>
    match rd with
    | some r => s.await { dst := .x r, todo := [], got := [], bits := 64, signed := false, window := 0, queued := true }
    | none => s)

/-- R107, R163: a vector instruction issues. In the deferred mode, and behind a vqred that waits, it enters the queue; else
it executes at once, on the v lines that it names. -/
def State.issueVector (s : State) (i : Instr) (lines : List (BitVec 5)) (xa xb : Word) (rd : Option (BitVec 5)) :
    Host.Outcome State Fault Refusal :=
  s.checked 4 (fun s =>
    let e := s.vectorEntry i xa xb
    if s.deferred then s.queueVector e rd
    else if s.vqredAhead then (s.useV lines).bind (fun s => s.queueVector e rd)
    else
      match rd with
      | some r =>
        (s.useV lines).map (fun s =>
          (match vectorResult e s.me with
          | some x => s.writeX r x.2
          | none => s).countEvent s.here evVector 1)
      | none => (s.useV lines).map (fun s => (s.modMe (vectorEffect e)).countEvent s.here evVector 1))

/-! ## The instructions -/

/-- R164: vadd. -/
def execVadd (vd vs1 vs2 : BitVec 5) (pg et : BitVec 2) (s : State) : Host.Outcome State Fault Refusal :=
  s.issueVector (.vadd vd vs1 vs2 pg et) [vd, vs1, vs2] (0) (0) none

/-- R164: vsub. -/
def execVsub (vd vs1 vs2 : BitVec 5) (pg et : BitVec 2) (s : State) : Host.Outcome State Fault Refusal :=
  s.issueVector (.vsub vd vs1 vs2 pg et) [vd, vs1, vs2] (0) (0) none

/-- R164: vmul. -/
def execVmul (vd vs1 vs2 : BitVec 5) (pg et : BitVec 2) (s : State) : Host.Outcome State Fault Refusal :=
  s.issueVector (.vmul vd vs1 vs2 pg et) [vd, vs1, vs2] (0) (0) none

/-- R164: vmulh. -/
def execVmulh (vd vs1 vs2 : BitVec 5) (pg et : BitVec 2) (s : State) : Host.Outcome State Fault Refusal :=
  s.issueVector (.vmulh vd vs1 vs2 pg et) [vd, vs1, vs2] (0) (0) none

/-- R164: vmulhn. -/
def execVmulhn (vd vs1 vs2 : BitVec 5) (pg et : BitVec 2) (s : State) : Host.Outcome State Fault Refusal :=
  s.issueVector (.vmulhn vd vs1 vs2 pg et) [vd, vs1, vs2] (0) (0) none

/-- R164: vand. -/
def execVand (vd vs1 vs2 : BitVec 5) (pg et : BitVec 2) (s : State) : Host.Outcome State Fault Refusal :=
  s.issueVector (.vand vd vs1 vs2 pg et) [vd, vs1, vs2] (0) (0) none

/-- R164: vor. -/
def execVor (vd vs1 vs2 : BitVec 5) (pg et : BitVec 2) (s : State) : Host.Outcome State Fault Refusal :=
  s.issueVector (.vor vd vs1 vs2 pg et) [vd, vs1, vs2] (0) (0) none

/-- R164: vxor. -/
def execVxor (vd vs1 vs2 : BitVec 5) (pg et : BitVec 2) (s : State) : Host.Outcome State Fault Refusal :=
  s.issueVector (.vxor vd vs1 vs2 pg et) [vd, vs1, vs2] (0) (0) none

/-- R164: vshl. -/
def execVshl (vd vs1 vs2 : BitVec 5) (pg et : BitVec 2) (s : State) : Host.Outcome State Fault Refusal :=
  s.issueVector (.vshl vd vs1 vs2 pg et) [vd, vs1, vs2] (0) (0) none

/-- R164: vshr. -/
def execVshr (vd vs1 vs2 : BitVec 5) (pg et : BitVec 2) (s : State) : Host.Outcome State Fault Refusal :=
  s.issueVector (.vshr vd vs1 vs2 pg et) [vd, vs1, vs2] (0) (0) none

/-- R164: vsra. -/
def execVsra (vd vs1 vs2 : BitVec 5) (pg et : BitVec 2) (s : State) : Host.Outcome State Fault Refusal :=
  s.issueVector (.vsra vd vs1 vs2 pg et) [vd, vs1, vs2] (0) (0) none

/-- R164: vmin. -/
def execVmin (vd vs1 vs2 : BitVec 5) (pg et : BitVec 2) (s : State) : Host.Outcome State Fault Refusal :=
  s.issueVector (.vmin vd vs1 vs2 pg et) [vd, vs1, vs2] (0) (0) none

/-- R164: vmax. -/
def execVmax (vd vs1 vs2 : BitVec 5) (pg et : BitVec 2) (s : State) : Host.Outcome State Fault Refusal :=
  s.issueVector (.vmax vd vs1 vs2 pg et) [vd, vs1, vs2] (0) (0) none

/-- R164: vminn. -/
def execVminn (vd vs1 vs2 : BitVec 5) (pg et : BitVec 2) (s : State) : Host.Outcome State Fault Refusal :=
  s.issueVector (.vminn vd vs1 vs2 pg et) [vd, vs1, vs2] (0) (0) none

/-- R164: vmaxn. -/
def execVmaxn (vd vs1 vs2 : BitVec 5) (pg et : BitVec 2) (s : State) : Host.Outcome State Fault Refusal :=
  s.issueVector (.vmaxn vd vs1 vs2 pg et) [vd, vs1, vs2] (0) (0) none

/-- R164: vadds. -/
def execVadds (vd vs1 vs2 : BitVec 5) (pg et : BitVec 2) (s : State) : Host.Outcome State Fault Refusal :=
  s.issueVector (.vadds vd vs1 vs2 pg et) [vd, vs1, vs2] (0) (0) none

/-- R164: vaddi. -/
def execVaddi (vd vs1 : BitVec 5) (pg : BitVec 2) (imm : BitVec 5) (et : BitVec 2) (s : State) : Host.Outcome State Fault Refusal :=
  s.issueVector (.vaddi vd vs1 pg imm et) [vd, vs1] (0) (0) none

/-- R164: vshli. -/
def execVshli (vd vs1 : BitVec 5) (pg : BitVec 2) (imm : BitVec 5) (et : BitVec 2) (s : State) : Host.Outcome State Fault Refusal :=
  s.issueVector (.vshli vd vs1 pg imm et) [vd, vs1] (0) (0) none

/-- R164: vshri. -/
def execVshri (vd vs1 : BitVec 5) (pg : BitVec 2) (imm : BitVec 5) (et : BitVec 2) (s : State) : Host.Outcome State Fault Refusal :=
  s.issueVector (.vshri vd vs1 pg imm et) [vd, vs1] (0) (0) none

/-- R164: vsrai. -/
def execVsrai (vd vs1 : BitVec 5) (pg : BitVec 2) (imm : BitVec 5) (et : BitVec 2) (s : State) : Host.Outcome State Fault Refusal :=
  s.issueVector (.vsrai vd vs1 pg imm et) [vd, vs1] (0) (0) none

/-- R164, R165: vcmpeq. -/
def execVcmpeq (pd : BitVec 3) (vs1 vs2 : BitVec 5) (pg et : BitVec 2) (s : State) : Host.Outcome State Fault Refusal :=
  s.issueVector (.vcmpeq pd vs1 vs2 pg et) [vs1, vs2] (0) (0) none

/-- R164, R165: vcmplt. -/
def execVcmplt (pd : BitVec 3) (vs1 vs2 : BitVec 5) (pg et : BitVec 2) (s : State) : Host.Outcome State Fault Refusal :=
  s.issueVector (.vcmplt pd vs1 vs2 pg et) [vs1, vs2] (0) (0) none

/-- R164, R165: vcmple. -/
def execVcmple (pd : BitVec 3) (vs1 vs2 : BitVec 5) (pg et : BitVec 2) (s : State) : Host.Outcome State Fault Refusal :=
  s.issueVector (.vcmple pd vs1 vs2 pg et) [vs1, vs2] (0) (0) none

/-- R164, R165: vcmpltn. -/
def execVcmpltn (pd : BitVec 3) (vs1 vs2 : BitVec 5) (pg et : BitVec 2) (s : State) : Host.Outcome State Fault Refusal :=
  s.issueVector (.vcmpltn pd vs1 vs2 pg et) [vs1, vs2] (0) (0) none

/-- R164: vcnt. -/
def execVcnt (vd vs1 : BitVec 5) (pg et : BitVec 2) (s : State) : Host.Outcome State Fault Refusal :=
  s.issueVector (.vcnt vd vs1 pg et) [vd, vs1] (0) (0) none

/-- R164: vclz. -/
def execVclz (vd vs1 : BitVec 5) (pg et : BitVec 2) (s : State) : Host.Outcome State Fault Refusal :=
  s.issueVector (.vclz vd vs1 pg et) [vd, vs1] (0) (0) none

/-- R166: vredsum. -/
def execVredsum (vd vs1 : BitVec 5) (pg et : BitVec 2) (s : State) : Host.Outcome State Fault Refusal :=
  s.issueVector (.vredsum vd vs1 pg et) [vd, vs1] (0) (0) none

/-- R166: vredmax. -/
def execVredmax (vd vs1 : BitVec 5) (pg et : BitVec 2) (s : State) : Host.Outcome State Fault Refusal :=
  s.issueVector (.vredmax vd vs1 pg et) [vd, vs1] (0) (0) none

/-- R166: vredmin. -/
def execVredmin (vd vs1 : BitVec 5) (pg et : BitVec 2) (s : State) : Host.Outcome State Fault Refusal :=
  s.issueVector (.vredmin vd vs1 pg et) [vd, vs1] (0) (0) none

/-- R164: vsel. -/
def execVsel (vd vs1 vs2 : BitVec 5) (pg et : BitVec 2) (s : State) : Host.Outcome State Fault Refusal :=
  s.issueVector (.vsel vd vs1 vs2 pg et) [vd, vs1, vs2] (0) (0) none

/-- R150, R164: vmovi. -/
def execVmovi (vd : BitVec 5) (pg : BitVec 2) (imm : BitVec 10) (et : BitVec 2) (s : State) : Host.Outcome State Fault Refusal :=
  s.issueVector (.vmovi vd pg imm et) [vd] (0) (0) none

/-- R164: vmacc. -/
def execVmacc (vd vs1 vs2 : BitVec 5) (pg et : BitVec 2) (s : State) : Host.Outcome State Fault Refusal :=
  s.issueVector (.vmacc vd vs1 vs2 pg et) [vd, vs1, vs2] (0) (0) none

/-- R167, R168: vfadd. -/
def execVfadd (vd vs1 vs2 : BitVec 5) (pg et : BitVec 2) (s : State) : Host.Outcome State Fault Refusal :=
  s.issueVector (.vfadd vd vs1 vs2 pg et) [vd, vs1, vs2] (0) (0) none

/-- R167, R168: vfsub. -/
def execVfsub (vd vs1 vs2 : BitVec 5) (pg et : BitVec 2) (s : State) : Host.Outcome State Fault Refusal :=
  s.issueVector (.vfsub vd vs1 vs2 pg et) [vd, vs1, vs2] (0) (0) none

/-- R167, R168: vfmul. -/
def execVfmul (vd vs1 vs2 : BitVec 5) (pg et : BitVec 2) (s : State) : Host.Outcome State Fault Refusal :=
  s.issueVector (.vfmul vd vs1 vs2 pg et) [vd, vs1, vs2] (0) (0) none

/-- R167, R168: vfma. -/
def execVfma (vd vs1 vs2 : BitVec 5) (pg et : BitVec 2) (s : State) : Host.Outcome State Fault Refusal :=
  s.issueVector (.vfma vd vs1 vs2 pg et) [vd, vs1, vs2] (0) (0) none

/-- R167, R168: vfms. -/
def execVfms (vd vs1 vs2 : BitVec 5) (pg et : BitVec 2) (s : State) : Host.Outcome State Fault Refusal :=
  s.issueVector (.vfms vd vs1 vs2 pg et) [vd, vs1, vs2] (0) (0) none

/-- R167, R168: vfdiv. -/
def execVfdiv (vd vs1 vs2 : BitVec 5) (pg et : BitVec 2) (s : State) : Host.Outcome State Fault Refusal :=
  s.issueVector (.vfdiv vd vs1 vs2 pg et) [vd, vs1, vs2] (0) (0) none

/-- R167, R168: vfsqrt. -/
def execVfsqrt (vd vs1 : BitVec 5) (pg et : BitVec 2) (s : State) : Host.Outcome State Fault Refusal :=
  s.issueVector (.vfsqrt vd vs1 pg et) [vd, vs1] (0) (0) none

/-- R167: vfmin. -/
def execVfmin (vd vs1 vs2 : BitVec 5) (pg et : BitVec 2) (s : State) : Host.Outcome State Fault Refusal :=
  s.issueVector (.vfmin vd vs1 vs2 pg et) [vd, vs1, vs2] (0) (0) none

/-- R167: vfmax. -/
def execVfmax (vd vs1 vs2 : BitVec 5) (pg et : BitVec 2) (s : State) : Host.Outcome State Fault Refusal :=
  s.issueVector (.vfmax vd vs1 vs2 pg et) [vd, vs1, vs2] (0) (0) none

/-- R167: vfabs. -/
def execVfabs (vd vs1 : BitVec 5) (pg et : BitVec 2) (s : State) : Host.Outcome State Fault Refusal :=
  s.issueVector (.vfabs vd vs1 pg et) [vd, vs1] (0) (0) none

/-- R167: vfneg. -/
def execVfneg (vd vs1 : BitVec 5) (pg et : BitVec 2) (s : State) : Host.Outcome State Fault Refusal :=
  s.issueVector (.vfneg vd vs1 pg et) [vd, vs1] (0) (0) none

/-- R167, R168: vfexp2. -/
def execVfexp2 (vd vs1 : BitVec 5) (pg et : BitVec 2) (s : State) : Host.Outcome State Fault Refusal :=
  s.issueVector (.vfexp2 vd vs1 pg et) [vd, vs1] (0) (0) none

/-- R167, R168: vflog2. -/
def execVflog2 (vd vs1 : BitVec 5) (pg et : BitVec 2) (s : State) : Host.Outcome State Fault Refusal :=
  s.issueVector (.vflog2 vd vs1 pg et) [vd, vs1] (0) (0) none

/-- R167, R168: vfrcp. -/
def execVfrcp (vd vs1 : BitVec 5) (pg et : BitVec 2) (s : State) : Host.Outcome State Fault Refusal :=
  s.issueVector (.vfrcp vd vs1 pg et) [vd, vs1] (0) (0) none

/-- R165, R167: vfcmpeq. -/
def execVfcmpeq (pd : BitVec 3) (vs1 vs2 : BitVec 5) (pg et : BitVec 2) (s : State) : Host.Outcome State Fault Refusal :=
  s.issueVector (.vfcmpeq pd vs1 vs2 pg et) [vs1, vs2] (0) (0) none

/-- R165, R167: vfcmplt. -/
def execVfcmplt (pd : BitVec 3) (vs1 vs2 : BitVec 5) (pg et : BitVec 2) (s : State) : Host.Outcome State Fault Refusal :=
  s.issueVector (.vfcmplt pd vs1 vs2 pg et) [vs1, vs2] (0) (0) none

/-- R165, R167: vfcmple. -/
def execVfcmple (pd : BitVec 3) (vs1 vs2 : BitVec 5) (pg et : BitVec 2) (s : State) : Host.Outcome State Fault Refusal :=
  s.issueVector (.vfcmple pd vs1 vs2 pg et) [vs1, vs2] (0) (0) none

/-- R165, R167: vfcmpun. -/
def execVfcmpun (pd : BitVec 3) (vs1 vs2 : BitVec 5) (pg et : BitVec 2) (s : State) : Host.Outcome State Fault Refusal :=
  s.issueVector (.vfcmpun pd vs1 vs2 pg et) [vs1, vs2] (0) (0) none

/-- R160, R170: vfredsum. -/
def execVfredsum (vd vs1 : BitVec 5) (pg et : BitVec 2) (s : State) : Host.Outcome State Fault Refusal :=
  s.issueVector (.vfredsum vd vs1 pg et) [vd, vs1] (0) (0) none

/-- R170: vfredmax. -/
def execVfredmax (vd vs1 : BitVec 5) (pg et : BitVec 2) (s : State) : Host.Outcome State Fault Refusal :=
  s.issueVector (.vfredmax vd vs1 pg et) [vd, vs1] (0) (0) none

/-- R170: vfredmin. -/
def execVfredmin (vd vs1 : BitVec 5) (pg et : BitVec 2) (s : State) : Host.Outcome State Fault Refusal :=
  s.issueVector (.vfredmin vd vs1 pg et) [vd, vs1] (0) (0) none

/-- R172, R173: vfcvt. -/
def execVfcvt (vd vs1 : BitVec 5) (pg : BitVec 2) (ty : BitVec 5) (et : BitVec 2) (s : State) : Host.Outcome State Fault Refusal :=
  s.issueVector (.vfcvt vd vs1 pg ty et) [vd, vs1] (0) (0) none

/-- R172, R173: vfcvti. -/
def execVfcvti (vd vs1 : BitVec 5) (pg : BitVec 2) (ty : BitVec 5) (et : BitVec 2) (s : State) : Host.Outcome State Fault Refusal :=
  s.issueVector (.vfcvti vd vs1 pg ty et) [vd, vs1] (0) (0) none

/-- R172, R173: vicvtf. -/
def execVicvtf (vd vs1 : BitVec 5) (pg : BitVec 2) (ty : BitVec 5) (et : BitVec 2) (s : State) : Host.Outcome State Fault Refusal :=
  s.issueVector (.vicvtf vd vs1 pg ty et) [vd, vs1] (0) (0) none

/-- R171: vfwmacc. -/
def execVfwmacc (vd vs1 vs2 : BitVec 5) (pg et : BitVec 2) (s : State) : Host.Outcome State Fault Refusal :=
  s.issueVector (.vfwmacc vd vs1 vs2 pg et) [vd, vs1, vs2] (0) (0) none

/-- R169: vfclass. -/
def execVfclass (vd vs1 : BitVec 5) (pg et : BitVec 2) (s : State) : Host.Outcome State Fault Refusal :=
  s.issueVector (.vfclass vd vs1 pg et) [vd, vs1] (0) (0) none

/-- R167, R168: vfround. -/
def execVfround (vd vs1 : BitVec 5) (pg et : BitVec 2) (s : State) : Host.Outcome State Fault Refusal :=
  s.issueVector (.vfround vd vs1 pg et) [vd, vs1] (0) (0) none

/-- R167, R168: vfscale. -/
def execVfscale (vd vs1 vs2 : BitVec 5) (pg et : BitVec 2) (s : State) : Host.Outcome State Fault Refusal :=
  s.issueVector (.vfscale vd vs1 vs2 pg et) [vd, vs1, vs2] (0) (0) none

/-- R167, R168: vfrsqrt. -/
def execVfrsqrt (vd vs1 : BitVec 5) (pg et : BitVec 2) (s : State) : Host.Outcome State Fault Refusal :=
  s.issueVector (.vfrsqrt vd vs1 pg et) [vd, vs1] (0) (0) none

/-- R167: vfmaxnum. -/
def execVfmaxnum (vd vs1 vs2 : BitVec 5) (pg et : BitVec 2) (s : State) : Host.Outcome State Fault Refusal :=
  s.issueVector (.vfmaxnum vd vs1 vs2 pg et) [vd, vs1, vs2] (0) (0) none

/-- R150, R167: vmovi of a floating type. -/
def execVmoviF (vd : BitVec 5) (pg : BitVec 2) (imm : BitVec 8) (et : BitVec 2) (s : State) : Host.Outcome State Fault Refusal :=
  s.issueVector (.vmoviF vd pg imm et) [vd] (0) (0) none

/-- R167: vfminnum. -/
def execVfminnum (vd vs1 vs2 : BitVec 5) (pg et : BitVec 2) (s : State) : Host.Outcome State Fault Refusal :=
  s.issueVector (.vfminnum vd vs1 vs2 pg et) [vd, vs1, vs2] (0) (0) none

/-- R175: vbcast. -/
def execVbcast (vd rs1 : BitVec 5) (w : BitVec 2) (s : State) : Host.Outcome State Fault Refusal :=
  s.issueVector (.vbcast vd rs1 w) [vd] (s.x rs1) (0) none

/-- R175: vext. -/
def execVext (rd vs1 rs2 : BitVec 5) (w : BitVec 2) (s : State) : Host.Outcome State Fault Refusal :=
  s.issueVector (.vext rd vs1 rs2 w) [vs1] (0) (s.x rs2) (some rd)

/-- R175: vins. -/
def execVins (vd rs1 rs2 : BitVec 5) (w : BitVec 2) (s : State) : Host.Outcome State Fault Refusal :=
  s.issueVector (.vins vd rs1 rs2 w) [vd] (s.x rs1) (s.x rs2) none

/-- R175: vperm. -/
def execVperm (vd vs1 vs2 : BitVec 5) (w : BitVec 2) (s : State) : Host.Outcome State Fault Refusal :=
  s.issueVector (.vperm vd vs1 vs2 w) [vd, vs1, vs2] (0) (0) none

/-- R175: vslideup. -/
def execVslideup (vd vs1 rs2 : BitVec 5) (w : BitVec 2) (s : State) : Host.Outcome State Fault Refusal :=
  s.issueVector (.vslideup vd vs1 rs2 w) [vd, vs1] (0) (s.x rs2) none

/-- R175: vslidedn. -/
def execVslidedn (vd vs1 rs2 : BitVec 5) (w : BitVec 2) (s : State) : Host.Outcome State Fault Refusal :=
  s.issueVector (.vslidedn vd vs1 rs2 w) [vd, vs1] (0) (s.x rs2) none

/-- R175: vzip. -/
def execVzip (vd vs1 vs2 : BitVec 5) (w : BitVec 2) (s : State) : Host.Outcome State Fault Refusal :=
  s.issueVector (.vzip vd vs1 vs2 w) [vd, vs1, vs2] (0) (0) none

/-- R175: vunzip. -/
def execVunzip (vd vs1 : BitVec 5) (w : BitVec 2) (s : State) : Host.Outcome State Fault Refusal :=
  s.issueVector (.vunzip vd vs1 w) [vd, vs1] (0) (0) none

/-- R175: vrev. -/
def execVrev (vd vs1 : BitVec 5) (w : BitVec 2) (s : State) : Host.Outcome State Fault Refusal :=
  s.issueVector (.vrev vd vs1 w) [vd, vs1] (0) (0) none

/-- R175: vcompress. -/
def execVcompress (vd vs1 : BitVec 5) (ps2 : BitVec 3) (w : BitVec 2) (s : State) : Host.Outcome State Fault Refusal :=
  s.issueVector (.vcompress vd vs1 ps2 w) [vd, vs1] (0) (0) none

/-- R175: pand. -/
def execPand (pd ps1 ps2 : BitVec 3) (s : State) : Host.Outcome State Fault Refusal :=
  s.issueVector (.pand pd ps1 ps2) [] (0) (0) none

/-- R175: por. -/
def execPor (pd ps1 ps2 : BitVec 3) (s : State) : Host.Outcome State Fault Refusal :=
  s.issueVector (.por pd ps1 ps2) [] (0) (0) none

/-- R175: pxor. -/
def execPxor (pd ps1 ps2 : BitVec 3) (s : State) : Host.Outcome State Fault Refusal :=
  s.issueVector (.pxor pd ps1 ps2) [] (0) (0) none

/-- R175: pnot. -/
def execPnot (pd ps1 : BitVec 3) (s : State) : Host.Outcome State Fault Refusal :=
  s.issueVector (.pnot pd ps1) [] (0) (0) none

/-- R175: pwhile. -/
def execPwhile (pd : BitVec 3) (rs1 rs2 : BitVec 5) (w : BitVec 2) (s : State) : Host.Outcome State Fault Refusal :=
  s.issueVector (.pwhile pd rs1 rs2 w) [] (s.x rs1) (s.x rs2) none

/-- R175: pcount. -/
def execPcount (rd : BitVec 5) (ps1 : BitVec 3) (w : BitVec 2) (s : State) : Host.Outcome State Fault Refusal :=
  s.issueVector (.pcount rd ps1 w) [] (0) (0) (some rd)

/-- R175: pfirst. -/
def execPfirst (rd : BitVec 5) (ps1 : BitVec 3) (w : BitVec 2) (s : State) : Host.Outcome State Fault Refusal :=
  s.issueVector (.pfirst rd ps1 w) [] (0) (0) (some rd)

/-- R175: vmv. -/
def execVmv (vd vs1 : BitVec 5) (w : BitVec 2) (s : State) : Host.Outcome State Fault Refusal :=
  s.issueVector (.vmv vd vs1 w) [vd, vs1] (0) (0) none

end Sys2Proof.Machine
end

