-- ==== Sys2Proof/Machine/VectorRun.lean ====
section
/-! DEFINITION. The queue-fed reduction, the bench arbiter and the completion of vector-queue entries (R107, R108, R110,
R176, R177). -/

namespace Sys2Proof.Machine

/-! ## vqred (R176, R177) -/

/-- R176: the element format of a width code, int8 apart. -/
def reduceFmt (w : BitVec 2) : Fmt := if w = 1#2 then fmtBf16 else if w = 2#2 then fmtF32 else fmtF64

/-- R176: one addition step: the entry added into vd, with rqprog. -/
def Strand.reduceStep (t : Strand) (vd : BitVec 5) (w : BitVec 2) (rm : Rm) (e : Line) : Strand :=
  let n := elemBytes w
  let r := (List.range (lanes n)).map (fun i =>
    let a := elemNat (t.readV vd) n i
    let b := elemNat e n i
    if w = 0 then (a + b, (0 : Flags)) else (reduceFmt w).addWords rm a b)
  { ((t.writeV vd (lineOfElems n (r.map (·.1)))).accrue (orFlags (r.map (·.2)))) with rqprog := t.rqprog + 1 }

/-- The entries that a sink holds. -/
def Core.sinkLength (k : Core) : Sink → Nat
  | .unbound => 0
  | .fifo i => (k.fifo i).length
  | .receive q => (k.receive q).entries.length
  | .engine => k.engineStream.length

/-- R176: the issuing strand's additions, as far as the queue's entries reach. -/
def State.reduceAll (vd : BitVec 5) (w : BitVec 2) (k : Sink) (n : Nat) : Nat → State → State
  | 0, s => s
  | fuel + 1, s =>
    if n ≤ s.me.rqprog.toNat then s
    else
      match s.takeEntry s.here k with
      | none => s
      | some (s1, e) => State.reduceAll vd w k n fuel (s1.modMe (fun t => t.reduceStep vd w t.vround e.asVector))

/-- R107: what an entry that executes does to its strand: its effect on v and p registers, or its x result. -/
def VEntry.run (e : VEntry) (t : Strand) : Strand :=
  match vectorResult e t with
  | some x => t.settleQueued (.x x.1) (leBytes 8 x.2.toNat)
  | none => vectorEffect e t

/-- R107, R176: outside the deferred mode the entries at the head of a core's queue execute, up to a vqred. -/
def State.runQueue (c : Nat) : List VEntry → State → State
  | [], s => s.modCore c (fun k => { k with vqueue := [] })
  | e :: es, s =>
    if e.isReduce then s.modCore c (fun k => { k with vqueue := e :: es })
    else State.runQueue c es (s.modStrand c e.strand e.run)

/-- R176: the issuing strand's vqred stands at the head of its core's queue. -/
def State.vqredHead (s : State) : Bool :=
  match s.myCore.vqueue with
  | e :: _ => e.isReduce && e.strand == s.cur
  | [] => false

/-- R176: the issuing strand's vqred, which holds the head of the queue or finds the queue empty, adds what its queue
holds; it completes, or it waits at the head. `entered` says that it stands in the queue. -/
def State.reduceNow (s : State) (e : VEntry) (vd : BitVec 5) (w : BitVec 2) (k : Sink) (n : Nat) (entered : Bool) :
    Except Stop State :=
  let s1 := State.reduceAll vd w k n (s.myCore.sinkLength k) s
  if n ≤ s1.me.rqprog.toNat then
    let s2 := s1.modMe (fun t => { t with rqprog := 0 })
    .ok (if entered then State.runQueue s2.here s2.myCore.vqueue.tail s2 else s2.countEvent s2.here evVector 1)
  else if entered then .error (.wait .vqred s1)
  else (s1.enqueueVector e).bind (fun s => .error (.wait .vqred s))

/-- R176: vqred. -/
def execVqred (vd : BitVec 5) (qs1 : BitVec 3) (rs2 : BitVec 5) (w : BitVec 2) (s : State) :
    Host.Outcome State Fault Refusal :=
  s.checked 4 (fun s =>
    let k := s.me.sink qs1
    let n := (s.x rs2).toNat
    let e := s.vectorEntry (.vqred vd qs1 rs2 w) 0 (s.x rs2)
    let entered := s.me.park == some .vqred
    if k = .unbound then .error (queueFault qs1 s)
    else if s.deferred then (s.enqueueVector e).bind (fun s => .error (.wait .vqred s))
    else
      (s.useV [vd]).bind (fun s =>
        if entered && !s.vqredHead then .error (.wait .vqred s)
        else if !entered && s.vqredAhead then (s.enqueueVector e).bind (fun s => .error (.wait .vqred s))
        else s.reduceNow e vd w k n entered))

/-- R107: the v lines of an entry are in the register cache. -/
def State.linesFilled (s : State) (c : Nat) (e : VEntry) : Bool :=
  (linesNamed e.instr).all (fun r => !(s.strand c e.strand).vAbsent.getLsbD r.toNat)

/-- R107, R380: no earlier entry of the strand, bound or in the matrix queue, touches the entry's v and p registers. -/
def State.entryFree (s : State) (c : Nat) (e : VEntry) : Bool :=
  ((s.bench (benchOf c)).groups.toList.all (fun g => match g with
    | some b => !(b.core == c && b.entry.strand == e.strand && conflicts b.entry.instr e.instr)
    | none => true)) &&
    (s.matrixEntries c e.strand).all (fun m => !(m.stamp < e.stamp && conflicts m.instr e.instr))

/-- R107: is the head of a core's queue ready? -/
def State.entryReady (s : State) (c : Nat) (e : VEntry) : Bool := s.linesFilled c e && s.entryFree c e

/-- R176: has the vqred an entry to add, and its queue the entry? -/
def State.vqredMayAdd (s : State) (c : Nat) (e : VEntry) : Bool :=
  match e.instr with
  | .vqred _ qs1 _ _ =>
    let t := s.strand c e.strand
    t.rqprog.toNat < e.xb.toNat && (s.takeEntry c (t.sink qs1)).isSome
  | _ => false

/-- A lane group becomes free. -/
def State.freeGroup (s : State) (b g : Nat) : State :=
  s.modBench b (fun h => { h with groups := h.groups.setIfInBounds g none })

/-- R176: the addition step of a core's vqred that is bound to lane group `g` is made: pop, add and increment. -/
def State.vqredAdds (s : State) (c g : Nat) (e : VEntry) : State :=
  let s1 := s.freeGroup (benchOf c) g
  match e.instr with
  | .vqred vd qs1 _ w =>
    match s1.takeEntry c ((s1.strand c e.strand).sink qs1) with
    | none => s1
    | some (s2, q) => s2.modStrand c e.strand (fun t => t.reduceStep vd w e.rm q.asVector)
  | _ => s1

/-- R176: the vqred at the head of a core's queue has added all its entries: it completes. -/
def State.vqredEnds (s : State) (c : Nat) (e : VEntry) : State :=
  ((s.modCore c (fun k => { k with vqueue := k.vqueue.tail })).modStrand c e.strand (fun t =>
    { t with rqprog := 0, fpc := t.fpc + 4, instret := t.instret + 1, park := none })).countEvent c evRetired 1

/-- R176: one step of the vqred at the head of a core's queue in the deferred mode: the addition step that is bound to a
lane group is made, or the vqred, with nothing left to add, completes. -/
def execVqredStep (core : Nat) (s : State) : Host.Outcome State Fault Refusal :=
  .next (
    match (s.core core).vqueue with
    | [] => s
    | e :: _ =>
      if !e.isReduce || !s.deferred then s
      else
        match s.vqredGroup core with
        | some g => s.vqredAdds core g e
        | none =>
          if s.entryReady core e && e.xb.toNat ≤ (s.strand core e.strand).rqprog.toNat then s.vqredEnds core e else s)

/-! ## The bench arbiter (R108) -/

/-- R108: the queue head of core `c`, when it can be bound. -/
def State.boundable (s : State) (c : Nat) : Option VEntry :=
  match (s.core c).vqueue.head? with
  | some e =>
    if !s.entryReady c e then none
    else if !e.isReduce then some e
    else if (s.vqredGroup c).isNone && s.vqredMayAdd c e then some e
    else none
  | none => none

/-- R108: vshare of core `i` of a bench. -/
def State.weight (s : State) (b i : Nat) : Nat := (s.core (4 * b + i)).vshare.toNat

/-- R108: the cores of a bench that may bind. -/
def State.eligible (s : State) (b : Nat) : List Nat :=
  let e := (List.range 4).filter (fun i => (s.boundable (4 * b + i)).isSome)
  if (List.range 4).any (fun i => s.weight b i != 0 && !(s.core (4 * b + i)).vqueue.isEmpty) then
    e.filter (fun i => s.weight b i != 0)
  else e

/-- R107, R108, R176: the head of core `i`'s queue is bound to lane group `g`, and leaves its slot; a vqred, of which one
addition step is bound, keeps its slot. -/
def State.bind (s : State) (b i g : Nat) : State :=
  match s.boundable (4 * b + i) with
  | none => s
  | some e =>
    ((linesNamed e.instr).foldl (fun s r => match s.touchReg (4 * b + i) e.strand r with
      | .ok s1 => s1
      | .error _ => s) s |>.modCore (4 * b + i) (fun k => { k with vqueue := if e.isReduce then k.vqueue else k.vqueue.tail })).modBench b (fun h =>
      { h with
        groups := h.groups.setIfInBounds g (some { core := 4 * b + i, entry := e })
        deficit := h.deficit.setIfInBounds i ((h.deficit[i]?.getD 0) - 4) })

/-- R108: the arbiter's turns until lane group `g` is bound, or no core may bind. -/
def State.arbitrate (b g : Nat) : Nat → State → State
  | 0, s => s
  | fuel + 1, s =>
    let e := s.eligible b
    if e = [] then s
    else
      let h := s.bench b
      let c := h.ptr
      let d := h.deficit[c]?.getD 0
      if e.contains c && 4 ≤ d then s.bind b c g
      else if e.contains c && !(h.credited[c]?.getD false) then
        State.arbitrate b g fuel (s.modBench b (fun h =>
          { h with
            deficit := h.deficit.setIfInBounds c (min (d + 4 * (max 1 (s.weight b c))) 64)
            credited := h.credited.setIfInBounds c true }))
      else
        State.arbitrate b g fuel (s.modBench b (fun h =>
          { h with
            credited := h.credited.setIfInBounds c false
            deficit := if (s.core (4 * b + c)).vqueue.isEmpty then h.deficit.setIfInBounds c 0 else h.deficit
            ptr := (c + 1) % 4 }))

/-- R108: one arithmetic cycle of the arbiter: its free lane groups, in ascending order. -/
def execVectorBind (bench : Nat) (s : State) : Host.Outcome State Fault Refusal :=
  .next ((List.range 4).foldl (fun s g =>
    if ((s.bench bench).groups[g]?.getD none).isSome then s else State.arbitrate bench g 16 s) s)

/-- R107, R176: a bound entry completes: its effect on its strand, and its x result; or a vqred's addition. -/
def execVectorEntryComplete (bench group : Nat) (s : State) : Host.Outcome State Fault Refusal :=
  .next (
    match (s.bench bench).groups[group]?.getD none with
    | none => s
    | some b =>
      if b.entry.isReduce then s.vqredAdds b.core group b.entry
      else (s.freeGroup bench group).modStrand b.core b.entry.strand b.entry.run)

/-- R110: a v register of a strand is filled from its image; a strand that waits for it goes on. -/
def execRegisterCacheFill (core strand : Nat) (reg : BitVec 5) (s : State) : Host.Outcome State Fault Refusal :=
  .next (
    if !(s.strand core strand).vAbsent.getLsbD reg.toNat then s
    else
      match s.fillReg core strand reg with
      | .ok s1 =>
        s1.modStrand core strand (fun t => if t.park = some (.fill reg) then { t with park := none } else t)
      | .error (.trap cause tval s1) => (s1.modCore core (·.withdraw strand)).takeTrap core strand cause tval
      | .error (.wait _ s1) => s1)

end Sys2Proof.Machine
end

