-- ==== Sys2Proof/Machine/Dispatch.lean ====
section
/-! DEFINITION. The meaning of every instruction: one arm for each constructor. -/

namespace Sys2Proof.Machine

/-- What an instruction, or a step of another agent, does. -/
def exec (i : Instr) (s : State) : Host.Outcome State Fault Refusal :=
  match i with
  | .vadd vd vs1 vs2 pg et => Sys2Proof.Machine.execVadd vd vs1 vs2 pg et s
  | .vsub vd vs1 vs2 pg et => Sys2Proof.Machine.execVsub vd vs1 vs2 pg et s
  | .vmul vd vs1 vs2 pg et => Sys2Proof.Machine.execVmul vd vs1 vs2 pg et s
  | .vmulh vd vs1 vs2 pg et => Sys2Proof.Machine.execVmulh vd vs1 vs2 pg et s
  | .vmulhn vd vs1 vs2 pg et => Sys2Proof.Machine.execVmulhn vd vs1 vs2 pg et s
  | .vand vd vs1 vs2 pg et => Sys2Proof.Machine.execVand vd vs1 vs2 pg et s
  | .vor vd vs1 vs2 pg et => Sys2Proof.Machine.execVor vd vs1 vs2 pg et s
  | .vxor vd vs1 vs2 pg et => Sys2Proof.Machine.execVxor vd vs1 vs2 pg et s
  | .vshl vd vs1 vs2 pg et => Sys2Proof.Machine.execVshl vd vs1 vs2 pg et s
  | .vshr vd vs1 vs2 pg et => Sys2Proof.Machine.execVshr vd vs1 vs2 pg et s
  | .vsra vd vs1 vs2 pg et => Sys2Proof.Machine.execVsra vd vs1 vs2 pg et s
  | .vmin vd vs1 vs2 pg et => Sys2Proof.Machine.execVmin vd vs1 vs2 pg et s
  | .vmax vd vs1 vs2 pg et => Sys2Proof.Machine.execVmax vd vs1 vs2 pg et s
  | .vminn vd vs1 vs2 pg et => Sys2Proof.Machine.execVminn vd vs1 vs2 pg et s
  | .vmaxn vd vs1 vs2 pg et => Sys2Proof.Machine.execVmaxn vd vs1 vs2 pg et s
  | .vadds vd vs1 vs2 pg et => Sys2Proof.Machine.execVadds vd vs1 vs2 pg et s
  | .vaddi vd vs1 pg imm et => Sys2Proof.Machine.execVaddi vd vs1 pg imm et s
  | .vshli vd vs1 pg imm et => Sys2Proof.Machine.execVshli vd vs1 pg imm et s
  | .vshri vd vs1 pg imm et => Sys2Proof.Machine.execVshri vd vs1 pg imm et s
  | .vsrai vd vs1 pg imm et => Sys2Proof.Machine.execVsrai vd vs1 pg imm et s
  | .vcmpeq pd vs1 vs2 pg et => Sys2Proof.Machine.execVcmpeq pd vs1 vs2 pg et s
  | .vcmplt pd vs1 vs2 pg et => Sys2Proof.Machine.execVcmplt pd vs1 vs2 pg et s
  | .vcmple pd vs1 vs2 pg et => Sys2Proof.Machine.execVcmple pd vs1 vs2 pg et s
  | .vcmpltn pd vs1 vs2 pg et => Sys2Proof.Machine.execVcmpltn pd vs1 vs2 pg et s
  | .vcnt vd vs1 pg et => Sys2Proof.Machine.execVcnt vd vs1 pg et s
  | .vclz vd vs1 pg et => Sys2Proof.Machine.execVclz vd vs1 pg et s
  | .vredsum vd vs1 pg et => Sys2Proof.Machine.execVredsum vd vs1 pg et s
  | .vredmax vd vs1 pg et => Sys2Proof.Machine.execVredmax vd vs1 pg et s
  | .vredmin vd vs1 pg et => Sys2Proof.Machine.execVredmin vd vs1 pg et s
  | .vsel vd vs1 vs2 pg et => Sys2Proof.Machine.execVsel vd vs1 vs2 pg et s
  | .vmovi vd pg imm et => Sys2Proof.Machine.execVmovi vd pg imm et s
  | .vmacc vd vs1 vs2 pg et => Sys2Proof.Machine.execVmacc vd vs1 vs2 pg et s
  | .vfadd vd vs1 vs2 pg et => Sys2Proof.Machine.execVfadd vd vs1 vs2 pg et s
  | .vfsub vd vs1 vs2 pg et => Sys2Proof.Machine.execVfsub vd vs1 vs2 pg et s
  | .vfmul vd vs1 vs2 pg et => Sys2Proof.Machine.execVfmul vd vs1 vs2 pg et s
  | .vfma vd vs1 vs2 pg et => Sys2Proof.Machine.execVfma vd vs1 vs2 pg et s
  | .vfms vd vs1 vs2 pg et => Sys2Proof.Machine.execVfms vd vs1 vs2 pg et s
  | .vfdiv vd vs1 vs2 pg et => Sys2Proof.Machine.execVfdiv vd vs1 vs2 pg et s
  | .vfsqrt vd vs1 pg et => Sys2Proof.Machine.execVfsqrt vd vs1 pg et s
  | .vfmin vd vs1 vs2 pg et => Sys2Proof.Machine.execVfmin vd vs1 vs2 pg et s
  | .vfmax vd vs1 vs2 pg et => Sys2Proof.Machine.execVfmax vd vs1 vs2 pg et s
  | .vfabs vd vs1 pg et => Sys2Proof.Machine.execVfabs vd vs1 pg et s
  | .vfneg vd vs1 pg et => Sys2Proof.Machine.execVfneg vd vs1 pg et s
  | .vfexp2 vd vs1 pg et => Sys2Proof.Machine.execVfexp2 vd vs1 pg et s
  | .vflog2 vd vs1 pg et => Sys2Proof.Machine.execVflog2 vd vs1 pg et s
  | .vfrcp vd vs1 pg et => Sys2Proof.Machine.execVfrcp vd vs1 pg et s
  | .vfcmpeq pd vs1 vs2 pg et => Sys2Proof.Machine.execVfcmpeq pd vs1 vs2 pg et s
  | .vfcmplt pd vs1 vs2 pg et => Sys2Proof.Machine.execVfcmplt pd vs1 vs2 pg et s
  | .vfcmple pd vs1 vs2 pg et => Sys2Proof.Machine.execVfcmple pd vs1 vs2 pg et s
  | .vfcmpun pd vs1 vs2 pg et => Sys2Proof.Machine.execVfcmpun pd vs1 vs2 pg et s
  | .vfredsum vd vs1 pg et => Sys2Proof.Machine.execVfredsum vd vs1 pg et s
  | .vfredmax vd vs1 pg et => Sys2Proof.Machine.execVfredmax vd vs1 pg et s
  | .vfredmin vd vs1 pg et => Sys2Proof.Machine.execVfredmin vd vs1 pg et s
  | .vfcvt vd vs1 pg ty et => Sys2Proof.Machine.execVfcvt vd vs1 pg ty et s
  | .vfcvti vd vs1 pg ty et => Sys2Proof.Machine.execVfcvti vd vs1 pg ty et s
  | .vicvtf vd vs1 pg ty et => Sys2Proof.Machine.execVicvtf vd vs1 pg ty et s
  | .vfwmacc vd vs1 vs2 pg et => Sys2Proof.Machine.execVfwmacc vd vs1 vs2 pg et s
  | .vfclass vd vs1 pg et => Sys2Proof.Machine.execVfclass vd vs1 pg et s
  | .vfround vd vs1 pg et => Sys2Proof.Machine.execVfround vd vs1 pg et s
  | .vfscale vd vs1 vs2 pg et => Sys2Proof.Machine.execVfscale vd vs1 vs2 pg et s
  | .vfrsqrt vd vs1 pg et => Sys2Proof.Machine.execVfrsqrt vd vs1 pg et s
  | .vfmaxnum vd vs1 vs2 pg et => Sys2Proof.Machine.execVfmaxnum vd vs1 vs2 pg et s
  | .vmoviF vd pg imm et => Sys2Proof.Machine.execVmoviF vd pg imm et s
  | .vfminnum vd vs1 vs2 pg et => Sys2Proof.Machine.execVfminnum vd vs1 vs2 pg et s
  | .vbcast vd rs1 w => Sys2Proof.Machine.execVbcast vd rs1 w s
  | .vext rd vs1 rs2 w => Sys2Proof.Machine.execVext rd vs1 rs2 w s
  | .vins vd rs1 rs2 w => Sys2Proof.Machine.execVins vd rs1 rs2 w s
  | .vperm vd vs1 vs2 w => Sys2Proof.Machine.execVperm vd vs1 vs2 w s
  | .vslideup vd vs1 rs2 w => Sys2Proof.Machine.execVslideup vd vs1 rs2 w s
  | .vslidedn vd vs1 rs2 w => Sys2Proof.Machine.execVslidedn vd vs1 rs2 w s
  | .vzip vd vs1 vs2 w => Sys2Proof.Machine.execVzip vd vs1 vs2 w s
  | .vunzip vd vs1 w => Sys2Proof.Machine.execVunzip vd vs1 w s
  | .vrev vd vs1 w => Sys2Proof.Machine.execVrev vd vs1 w s
  | .vcompress vd vs1 ps2 w => Sys2Proof.Machine.execVcompress vd vs1 ps2 w s
  | .pand pd ps1 ps2 => Sys2Proof.Machine.execPand pd ps1 ps2 s
  | .por pd ps1 ps2 => Sys2Proof.Machine.execPor pd ps1 ps2 s
  | .pxor pd ps1 ps2 => Sys2Proof.Machine.execPxor pd ps1 ps2 s
  | .pnot pd ps1 => Sys2Proof.Machine.execPnot pd ps1 s
  | .pwhile pd rs1 rs2 w => Sys2Proof.Machine.execPwhile pd rs1 rs2 w s
  | .pcount rd ps1 w => Sys2Proof.Machine.execPcount rd ps1 w s
  | .pfirst rd ps1 w => Sys2Proof.Machine.execPfirst rd ps1 w s
  | .vqred vd qs1 rs2 w => Sys2Proof.Machine.execVqred vd qs1 rs2 w s
  | .vmv vd vs1 w => Sys2Proof.Machine.execVmv vd vs1 w s
  | .mcfg rd rs1 la => Sys2Proof.Machine.execMcfg rd rs1 la s
  | .mma kd rs1 rs2 la => Sys2Proof.Machine.execMma kd rs1 rs2 la s
  | .mmas kd rs1 rs2 la => Sys2Proof.Machine.execMmas kd rs1 rs2 la s
  | .mzero kd la => Sys2Proof.Machine.execMzero kd la s
  | .mst kd rs1 rs2 la => Sys2Proof.Machine.execMst kd rs1 rs2 la s
  | .mld kd rs1 rs2 la => Sys2Proof.Machine.execMld kd rs1 rs2 la s
  | .mrd vd ks1 rs2 la => Sys2Proof.Machine.execMrd vd ks1 rs2 la s
  | .mrec kd rs1 rs2 la => Sys2Proof.Machine.execMrec kd rs1 rs2 la s
  | .mprog rd rs1 => Sys2Proof.Machine.execMprog rd rs1 s
  | .mwr kd vs1 rs2 => Sys2Proof.Machine.execMwr kd vs1 rs2 s
  | .cvinit sa rs1 rs2 => Sys2Proof.Machine.execCvinit sa rs1 rs2 s
  | .cvprobe kd vs1 rs2 => Sys2Proof.Machine.execCvprobe kd vs1 rs2 s
  | .cvcommit kd rs1 rs2 => Sys2Proof.Machine.execCvcommit kd rs1 rs2 s
  | .cvgain vd sa => Sys2Proof.Machine.execCvgain vd sa s
  | .cvclr sa => Sys2Proof.Machine.execCvclr sa s
  | .cvsel rd sa vs2 => Sys2Proof.Machine.execCvsel rd sa vs2 s
  | .cvsave sa rs1 => Sys2Proof.Machine.execCvsave sa rs1 s
  | .cvrest sa rs1 => Sys2Proof.Machine.execCvrest sa rs1 s
  | .erun rd rs1 rs2 => Sys2Proof.Machine.execErun rd rs1 rs2 s
  | .ewait rd rs1 => Sys2Proof.Machine.execEwait rd rs1 s
  | .estat rd rs1 => Sys2Proof.Machine.execEstat rd rs1 s
  | .qpush qd rs1 => Sys2Proof.Machine.execQpush qd rs1 s
  | .qpop rd qs1 => Sys2Proof.Machine.execQpop rd qs1 s
  | .qpushv qd rs1 => Sys2Proof.Machine.execQpushv qd rs1 s
  | .qpopv rd qs1 => Sys2Proof.Machine.execQpopv rd qs1 s
  | .qstat rd qs1 => Sys2Proof.Machine.execQstat rd qs1 s
  | .qbind qd rs1 => Sys2Proof.Machine.execQbind qd rs1 s
  | .vld vd rs1 rs2 la w => Sys2Proof.Machine.execVld vd rs1 rs2 la w s
  | .vst vd rs1 rs2 la w => Sys2Proof.Machine.execVst vd rs1 rs2 la w s
  | .vldx vd rs1 rs2 la w => Sys2Proof.Machine.execVldx vd rs1 rs2 la w s
  | .vstx vd rs1 rs2 la w => Sys2Proof.Machine.execVstx vd rs1 rs2 la w s
  | .vldl vd rs1 rs2 la w => Sys2Proof.Machine.execVldl vd rs1 rs2 la w s
  | .vstl vd rs1 rs2 la w => Sys2Proof.Machine.execVstl vd rs1 rs2 la w s
  | .vldk vd rs1 rs2 la w => Sys2Proof.Machine.execVldk vd rs1 rs2 la w s
  | .vldt vd rs1 rs2 la w => Sys2Proof.Machine.execVldt vd rs1 rs2 la w s
  | .ldk rd rs1 rs2 la => Sys2Proof.Machine.execLdk rd rs1 rs2 la s
  | .ldt rd rs1 rs2 la => Sys2Proof.Machine.execLdt rd rs1 rs2 la s
  | .rld qd rs1 rs2 la => Sys2Proof.Machine.execRld qd rs1 rs2 la s
  | .rst rd rs1 rs2 la => Sys2Proof.Machine.execRst rd rs1 rs2 la s
  | .gst rd rs1 rs2 la => Sys2Proof.Machine.execGst rd rs1 rs2 la s
  | .ksend rd rs1 rs2 la => Sys2Proof.Machine.execKsend rd rs1 rs2 la s
  | .famoAddBf16x2 rd rs1 rs2 use => Sys2Proof.Machine.execFamoAddBf16x2 rd rs1 rs2 use s
  | .famoAddF16x2 rd rs1 rs2 use => Sys2Proof.Machine.execFamoAddF16x2 rd rs1 rs2 use s
  | .famoAddF32 rd rs1 rs2 use => Sys2Proof.Machine.execFamoAddF32 rd rs1 rs2 use s
  | .famoAddF64 rd rs1 rs2 use => Sys2Proof.Machine.execFamoAddF64 rd rs1 rs2 use s
  | .famoMinBf16x2 rd rs1 rs2 use => Sys2Proof.Machine.execFamoMinBf16x2 rd rs1 rs2 use s
  | .famoMinF16x2 rd rs1 rs2 use => Sys2Proof.Machine.execFamoMinF16x2 rd rs1 rs2 use s
  | .famoMinF32 rd rs1 rs2 use => Sys2Proof.Machine.execFamoMinF32 rd rs1 rs2 use s
  | .famoMinF64 rd rs1 rs2 use => Sys2Proof.Machine.execFamoMinF64 rd rs1 rs2 use s
  | .famoMaxBf16x2 rd rs1 rs2 use => Sys2Proof.Machine.execFamoMaxBf16x2 rd rs1 rs2 use s
  | .famoMaxF16x2 rd rs1 rs2 use => Sys2Proof.Machine.execFamoMaxF16x2 rd rs1 rs2 use s
  | .famoMaxF32 rd rs1 rs2 use => Sys2Proof.Machine.execFamoMaxF32 rd rs1 rs2 use s
  | .famoMaxF64 rd rs1 rs2 use => Sys2Proof.Machine.execFamoMaxF64 rd rs1 rs2 use s
  | .cas128 rd rs1 rs2 use => Sys2Proof.Machine.execCas128 rd rs1 rs2 use s
  | .iaddD rd rs1 rs2 use => Sys2Proof.Machine.execIaddD rd rs1 rs2 use s
  | .iaddW rd rs1 rs2 use => Sys2Proof.Machine.execIaddW rd rs1 rs2 use s
  | .iorD rd rs1 rs2 use => Sys2Proof.Machine.execIorD rd rs1 rs2 use s
  | .iandD rd rs1 rs2 use => Sys2Proof.Machine.execIandD rd rs1 rs2 use s
  | .fenceS scope => Sys2Proof.Machine.execFenceS scope s
  | .sldAcq rd rs1 scope => Sys2Proof.Machine.execSldAcq rd rs1 scope s
  | .sstRel rs1 rs2 scope => Sys2Proof.Machine.execSstRel rs1 rs2 scope s
  | .barr sel => Sys2Proof.Machine.execBarr sel s
  | .bwait sel => Sys2Proof.Machine.execBwait sel s
  | .bmask rd rs1 rs2 => Sys2Proof.Machine.execBmask rd rs1 rs2 s
  | .tickrd rd => Sys2Proof.Machine.execTickrd rd s
  | .tickw rd rs1 => Sys2Proof.Machine.execTickw rd rs1 s
  | .sstep sel => Sys2Proof.Machine.execSstep sel s
  | .abarr rd rs1 rs2 => Sys2Proof.Machine.execAbarr rd rs1 rs2 s
  | .abwait rd rs1 => Sys2Proof.Machine.execAbwait rd rs1 s
  | .abinit rd rs1 rs2 => Sys2Proof.Machine.execAbinit rd rs1 rs2 s
  | .gopen rd => Sys2Proof.Machine.execGopen rd s
  | .gsel rd rs1 => Sys2Proof.Machine.execGsel rd rs1 s
  | .gcommit rd rs1 rs2 => Sys2Proof.Machine.execGcommit rd rs1 rs2 s
  | .gabort rd rs1 => Sys2Proof.Machine.execGabort rd rs1 s
  | .gstat rd rs1 rs2 => Sys2Proof.Machine.execGstat rd rs1 rs2 s
  | .tset rd rs1 rs2 => Sys2Proof.Machine.execTset rd rs1 rs2 s
  | .tmode rd rs1 rs2 => Sys2Proof.Machine.execTmode rd rs1 rs2 s
  | .kbin rd rs1 rs2 => Sys2Proof.Machine.execKbin rd rs1 rs2 s
  | .jrnl rd rs1 rs2 => Sys2Proof.Machine.execJrnl rd rs1 rs2 s
  | .calld imm => Sys2Proof.Machine.execCalld imm s
  | .tcalld imm => Sys2Proof.Machine.execTcalld imm s
  | .callh rs1 => Sys2Proof.Machine.execCallh rs1 s
  | .tcallh rs1 => Sys2Proof.Machine.execTcallh rs1 s
  | .reth rs1 => Sys2Proof.Machine.execReth rs1 s
  | .start rd rs1 rs2 => Sys2Proof.Machine.execStart rd rs1 rs2 s
  | .hend => Sys2Proof.Machine.execHend s
  | .hjoin rd rs1 => Sys2Proof.Machine.execHjoin rd rs1 s
  | .hpoll rd => Sys2Proof.Machine.execHpoll rd s
  | .pfx fmt1 fmt2 n smode sreg => Sys2Proof.Machine.execPfx fmt1 fmt2 n smode sreg s
  | .launch rd rs1 => Sys2Proof.Machine.execLaunch rd rs1 s
  | .lpoll rd rs1 => Sys2Proof.Machine.execLpoll rd rs1 s
  | .sysc rd rs1 dep => Sys2Proof.Machine.execSysc rd rs1 dep s
  | .sysw rd rs1 => Sys2Proof.Machine.execSysw rd rs1 s
  | .nfy rd rs1 rs2 => Sys2Proof.Machine.execNfy rd rs1 rs2 s
  | .fhand rd imm => Sys2Proof.Machine.execFhand rd imm s
  | .cprobe rd rs1 rs2 => Sys2Proof.Machine.execCprobe rd rs1 rs2 s
  | .cpin rd rs1 => Sys2Proof.Machine.execCpin rd rs1 s
  | .cunpin rd rs1 => Sys2Proof.Machine.execCunpin rd rs1 s
  | .cevict rd rs1 => Sys2Proof.Machine.execCevict rd rs1 s
  | .ctxflush rd rs1 => Sys2Proof.Machine.execCtxflush rd rs1 s
  | .ctxload rd rs1 => Sys2Proof.Machine.execCtxload rd rs1 s
  | .wsw rd rs1 rs2 => Sys2Proof.Machine.execWsw rd rs1 rs2 s
  | .waitev rd rs1 rs2 => Sys2Proof.Machine.execWaitev rd rs1 rs2 s
  | .mark rs1 => Sys2Proof.Machine.execMark rs1 s
  | .lui rd imm => Sys2Proof.Machine.execLui rd imm s
  | .auipc rd imm => Sys2Proof.Machine.execAuipc rd imm s
  | .jal rd imm => Sys2Proof.Machine.execJal rd imm s
  | .jalr rd rs1 imm => Sys2Proof.Machine.execJalr rd rs1 imm s
  | .beq rs1 rs2 imm => Sys2Proof.Machine.execBeq rs1 rs2 imm s
  | .bne rs1 rs2 imm => Sys2Proof.Machine.execBne rs1 rs2 imm s
  | .blt rs1 rs2 imm => Sys2Proof.Machine.execBlt rs1 rs2 imm s
  | .bge rs1 rs2 imm => Sys2Proof.Machine.execBge rs1 rs2 imm s
  | .bltu rs1 rs2 imm => Sys2Proof.Machine.execBltu rs1 rs2 imm s
  | .bgeu rs1 rs2 imm => Sys2Proof.Machine.execBgeu rs1 rs2 imm s
  | .lb rd rs1 imm => Sys2Proof.Machine.execLb rd rs1 imm s
  | .lh rd rs1 imm => Sys2Proof.Machine.execLh rd rs1 imm s
  | .lw rd rs1 imm => Sys2Proof.Machine.execLw rd rs1 imm s
  | .ld rd rs1 imm => Sys2Proof.Machine.execLd rd rs1 imm s
  | .lbu rd rs1 imm => Sys2Proof.Machine.execLbu rd rs1 imm s
  | .lhu rd rs1 imm => Sys2Proof.Machine.execLhu rd rs1 imm s
  | .lwu rd rs1 imm => Sys2Proof.Machine.execLwu rd rs1 imm s
  | .sb rs1 rs2 imm => Sys2Proof.Machine.execSb rs1 rs2 imm s
  | .sh rs1 rs2 imm => Sys2Proof.Machine.execSh rs1 rs2 imm s
  | .sw rs1 rs2 imm => Sys2Proof.Machine.execSw rs1 rs2 imm s
  | .sd rs1 rs2 imm => Sys2Proof.Machine.execSd rs1 rs2 imm s
  | .addi rd rs1 imm => Sys2Proof.Machine.execAddi rd rs1 imm s
  | .slti rd rs1 imm => Sys2Proof.Machine.execSlti rd rs1 imm s
  | .sltiu rd rs1 imm => Sys2Proof.Machine.execSltiu rd rs1 imm s
  | .xori rd rs1 imm => Sys2Proof.Machine.execXori rd rs1 imm s
  | .ori rd rs1 imm => Sys2Proof.Machine.execOri rd rs1 imm s
  | .andi rd rs1 imm => Sys2Proof.Machine.execAndi rd rs1 imm s
  | .slli rd rs1 shamt => Sys2Proof.Machine.execSlli rd rs1 shamt s
  | .srli rd rs1 shamt => Sys2Proof.Machine.execSrli rd rs1 shamt s
  | .srai rd rs1 shamt => Sys2Proof.Machine.execSrai rd rs1 shamt s
  | .addiw rd rs1 imm => Sys2Proof.Machine.execAddiw rd rs1 imm s
  | .slliw rd rs1 shamt => Sys2Proof.Machine.execSlliw rd rs1 shamt s
  | .srliw rd rs1 shamt => Sys2Proof.Machine.execSrliw rd rs1 shamt s
  | .sraiw rd rs1 shamt => Sys2Proof.Machine.execSraiw rd rs1 shamt s
  | .add rd rs1 rs2 => Sys2Proof.Machine.execAdd rd rs1 rs2 s
  | .sll rd rs1 rs2 => Sys2Proof.Machine.execSll rd rs1 rs2 s
  | .slt rd rs1 rs2 => Sys2Proof.Machine.execSlt rd rs1 rs2 s
  | .sltu rd rs1 rs2 => Sys2Proof.Machine.execSltu rd rs1 rs2 s
  | .xor rd rs1 rs2 => Sys2Proof.Machine.execXor rd rs1 rs2 s
  | .srl rd rs1 rs2 => Sys2Proof.Machine.execSrl rd rs1 rs2 s
  | .or rd rs1 rs2 => Sys2Proof.Machine.execOr rd rs1 rs2 s
  | .and rd rs1 rs2 => Sys2Proof.Machine.execAnd rd rs1 rs2 s
  | .sub rd rs1 rs2 => Sys2Proof.Machine.execSub rd rs1 rs2 s
  | .sra rd rs1 rs2 => Sys2Proof.Machine.execSra rd rs1 rs2 s
  | .mul rd rs1 rs2 => Sys2Proof.Machine.execMul rd rs1 rs2 s
  | .mulh rd rs1 rs2 => Sys2Proof.Machine.execMulh rd rs1 rs2 s
  | .mulhsu rd rs1 rs2 => Sys2Proof.Machine.execMulhsu rd rs1 rs2 s
  | .mulhu rd rs1 rs2 => Sys2Proof.Machine.execMulhu rd rs1 rs2 s
  | .div rd rs1 rs2 => Sys2Proof.Machine.execDiv rd rs1 rs2 s
  | .divu rd rs1 rs2 => Sys2Proof.Machine.execDivu rd rs1 rs2 s
  | .rem rd rs1 rs2 => Sys2Proof.Machine.execRem rd rs1 rs2 s
  | .remu rd rs1 rs2 => Sys2Proof.Machine.execRemu rd rs1 rs2 s
  | .addw rd rs1 rs2 => Sys2Proof.Machine.execAddw rd rs1 rs2 s
  | .sllw rd rs1 rs2 => Sys2Proof.Machine.execSllw rd rs1 rs2 s
  | .srlw rd rs1 rs2 => Sys2Proof.Machine.execSrlw rd rs1 rs2 s
  | .subw rd rs1 rs2 => Sys2Proof.Machine.execSubw rd rs1 rs2 s
  | .sraw rd rs1 rs2 => Sys2Proof.Machine.execSraw rd rs1 rs2 s
  | .mulw rd rs1 rs2 => Sys2Proof.Machine.execMulw rd rs1 rs2 s
  | .divw rd rs1 rs2 => Sys2Proof.Machine.execDivw rd rs1 rs2 s
  | .divuw rd rs1 rs2 => Sys2Proof.Machine.execDivuw rd rs1 rs2 s
  | .remw rd rs1 rs2 => Sys2Proof.Machine.execRemw rd rs1 rs2 s
  | .remuw rd rs1 rs2 => Sys2Proof.Machine.execRemuw rd rs1 rs2 s
  | .fence rd rs1 fm pred succ => Sys2Proof.Machine.execFence rd rs1 fm pred succ s
  | .lrW rd rs1 aq rl => Sys2Proof.Machine.execLrW rd rs1 aq rl s
  | .lrD rd rs1 aq rl => Sys2Proof.Machine.execLrD rd rs1 aq rl s
  | .scW rd rs1 rs2 aq rl => Sys2Proof.Machine.execScW rd rs1 rs2 aq rl s
  | .scD rd rs1 rs2 aq rl => Sys2Proof.Machine.execScD rd rs1 rs2 aq rl s
  | .amoswapW rd rs1 rs2 aq rl => Sys2Proof.Machine.execAmoswapW rd rs1 rs2 aq rl s
  | .amoswapD rd rs1 rs2 aq rl => Sys2Proof.Machine.execAmoswapD rd rs1 rs2 aq rl s
  | .amoaddW rd rs1 rs2 aq rl => Sys2Proof.Machine.execAmoaddW rd rs1 rs2 aq rl s
  | .amoaddD rd rs1 rs2 aq rl => Sys2Proof.Machine.execAmoaddD rd rs1 rs2 aq rl s
  | .amoxorW rd rs1 rs2 aq rl => Sys2Proof.Machine.execAmoxorW rd rs1 rs2 aq rl s
  | .amoxorD rd rs1 rs2 aq rl => Sys2Proof.Machine.execAmoxorD rd rs1 rs2 aq rl s
  | .amoandW rd rs1 rs2 aq rl => Sys2Proof.Machine.execAmoandW rd rs1 rs2 aq rl s
  | .amoandD rd rs1 rs2 aq rl => Sys2Proof.Machine.execAmoandD rd rs1 rs2 aq rl s
  | .amoorW rd rs1 rs2 aq rl => Sys2Proof.Machine.execAmoorW rd rs1 rs2 aq rl s
  | .amoorD rd rs1 rs2 aq rl => Sys2Proof.Machine.execAmoorD rd rs1 rs2 aq rl s
  | .amominW rd rs1 rs2 aq rl => Sys2Proof.Machine.execAmominW rd rs1 rs2 aq rl s
  | .amominD rd rs1 rs2 aq rl => Sys2Proof.Machine.execAmominD rd rs1 rs2 aq rl s
  | .amomaxW rd rs1 rs2 aq rl => Sys2Proof.Machine.execAmomaxW rd rs1 rs2 aq rl s
  | .amomaxD rd rs1 rs2 aq rl => Sys2Proof.Machine.execAmomaxD rd rs1 rs2 aq rl s
  | .amominuW rd rs1 rs2 aq rl => Sys2Proof.Machine.execAmominuW rd rs1 rs2 aq rl s
  | .amominuD rd rs1 rs2 aq rl => Sys2Proof.Machine.execAmominuD rd rs1 rs2 aq rl s
  | .amomaxuW rd rs1 rs2 aq rl => Sys2Proof.Machine.execAmomaxuW rd rs1 rs2 aq rl s
  | .amomaxuD rd rs1 rs2 aq rl => Sys2Proof.Machine.execAmomaxuD rd rs1 rs2 aq rl s
  | .csrrw rd rs1 csr => Sys2Proof.Machine.execCsrrw rd rs1 csr s
  | .csrrs rd rs1 csr => Sys2Proof.Machine.execCsrrs rd rs1 csr s
  | .csrrc rd rs1 csr => Sys2Proof.Machine.execCsrrc rd rs1 csr s
  | .csrrwi rd csr uimm => Sys2Proof.Machine.execCsrrwi rd csr uimm s
  | .csrrsi rd csr uimm => Sys2Proof.Machine.execCsrrsi rd csr uimm s
  | .csrrci rd csr uimm => Sys2Proof.Machine.execCsrrci rd csr uimm s
  | .sret => Sys2Proof.Machine.execSret s
  | .mret => Sys2Proof.Machine.execMret s
  | .wfi => Sys2Proof.Machine.execWfi s
  | .sfenceVma rs1 rs2 => Sys2Proof.Machine.execSfenceVma rs1 rs2 s
  | .cAddi4spn rd imm => Sys2Proof.Machine.execCAddi4spn rd imm s
  | .cLw rd rs1 imm => Sys2Proof.Machine.execCLw rd rs1 imm s
  | .cLd rd rs1 imm => Sys2Proof.Machine.execCLd rd rs1 imm s
  | .cSw rs2 rs1 imm => Sys2Proof.Machine.execCSw rs2 rs1 imm s
  | .cSd rs2 rs1 imm => Sys2Proof.Machine.execCSd rs2 rs1 imm s
  | .cNop imm => Sys2Proof.Machine.execCNop imm s
  | .cAddi rd imm => Sys2Proof.Machine.execCAddi rd imm s
  | .cAddiw rd imm => Sys2Proof.Machine.execCAddiw rd imm s
  | .cLi rd imm => Sys2Proof.Machine.execCLi rd imm s
  | .cAddi16sp imm => Sys2Proof.Machine.execCAddi16sp imm s
  | .cLui rd imm => Sys2Proof.Machine.execCLui rd imm s
  | .cSrli rd shamt => Sys2Proof.Machine.execCSrli rd shamt s
  | .cSrai rd shamt => Sys2Proof.Machine.execCSrai rd shamt s
  | .cAndi rd imm => Sys2Proof.Machine.execCAndi rd imm s
  | .cSub rd rs2 => Sys2Proof.Machine.execCSub rd rs2 s
  | .cXor rd rs2 => Sys2Proof.Machine.execCXor rd rs2 s
  | .cOr rd rs2 => Sys2Proof.Machine.execCOr rd rs2 s
  | .cAnd rd rs2 => Sys2Proof.Machine.execCAnd rd rs2 s
  | .cSubw rd rs2 => Sys2Proof.Machine.execCSubw rd rs2 s
  | .cAddw rd rs2 => Sys2Proof.Machine.execCAddw rd rs2 s
  | .cJ imm => Sys2Proof.Machine.execCJ imm s
  | .cBeqz rs1 imm => Sys2Proof.Machine.execCBeqz rs1 imm s
  | .cBnez rs1 imm => Sys2Proof.Machine.execCBnez rs1 imm s
  | .cSlli rd shamt => Sys2Proof.Machine.execCSlli rd shamt s
  | .cLwsp rd imm => Sys2Proof.Machine.execCLwsp rd imm s
  | .cLdsp rd imm => Sys2Proof.Machine.execCLdsp rd imm s
  | .cJr rs1 => Sys2Proof.Machine.execCJr rs1 s
  | .cMv rd rs2 => Sys2Proof.Machine.execCMv rd rs2 s
  | .cJalr rs1 => Sys2Proof.Machine.execCJalr rs1 s
  | .cAdd rd rs2 => Sys2Proof.Machine.execCAdd rd rs2 s
  | .cSwsp rs2 imm => Sys2Proof.Machine.execCSwsp rs2 imm s
  | .cSdsp rs2 imm => Sys2Proof.Machine.execCSdsp rs2 imm s
  | .coldReset b => Sys2Proof.Machine.execColdReset b s
  | .tickLock podTick => Sys2Proof.Machine.execTickLock podTick s
  | .throttle => Sys2Proof.Machine.execThrottle s
  | .throttleRestore => Sys2Proof.Machine.execThrottleRestore s
  | .podcfgWrite value => Sys2Proof.Machine.execPodcfgWrite value s
  | .dvsecAcceptWrite ld a => Sys2Proof.Machine.execDvsecAcceptWrite ld a s
  | .registerWrite core strand csr value => Sys2Proof.Machine.execRegisterWrite core strand csr value s
  | .bindVppb ld hdmBase hdmSize => Sys2Proof.Machine.execBindVppb ld hdmBase hdmSize s
  | .unbindVppb ld => Sys2Proof.Machine.execUnbindVppb ld s
  | .hostWarmRestart ld => Sys2Proof.Machine.execHostWarmRestart ld s
  | .cxlMemRequest ld write offset len data => Sys2Proof.Machine.execCxlMemRequest ld write offset len data s
  | .getVersion ep req => Sys2Proof.Machine.execGetVersion ep req s
  | .getCapabilities ep req => Sys2Proof.Machine.execGetCapabilities ep req s
  | .negotiateAlgorithms ep req => Sys2Proof.Machine.execNegotiateAlgorithms ep req s
  | .getDigests ep req => Sys2Proof.Machine.execGetDigests ep req s
  | .getCertificate ep req => Sys2Proof.Machine.execGetCertificate ep req s
  | .challenge ep req => Sys2Proof.Machine.execChallenge ep req s
  | .getMeasurements ep req => Sys2Proof.Machine.execGetMeasurements ep req s
  | .spdmUnsupportedRequest ep req => Sys2Proof.Machine.execSpdmUnsupportedRequest ep req s
  | .setWeight e => Sys2Proof.Machine.execSetWeight e s
  | .setPartition e => Sys2Proof.Machine.execSetPartition e s
  | .setTrust e => Sys2Proof.Machine.execSetTrust e s
  | .setModstore e => Sys2Proof.Machine.execSetModstore e s
  | .setSpad e => Sys2Proof.Machine.execSetSpad e s
  | .setRamap e => Sys2Proof.Machine.execSetRamap e s
  | .setWindow e => Sys2Proof.Machine.execSetWindow e s
  | .setQueues e => Sys2Proof.Machine.execSetQueues e s
  | .shootdown e => Sys2Proof.Machine.execShootdown e s
  | .preempt e => Sys2Proof.Machine.execPreempt e s
  | .debugStop e => Sys2Proof.Machine.execDebugStop e s
  | .debugResume e => Sys2Proof.Machine.execDebugResume e s
  | .setCdlim e => Sys2Proof.Machine.execSetCdlim e s
  | .counterReply e => Sys2Proof.Machine.execCounterReply e s
  | .loadKey e => Sys2Proof.Machine.execLoadKey e s
  | .engineReply e => Sys2Proof.Machine.execEngineReply e s
  | .controlUnknownOp e => Sys2Proof.Machine.execControlUnknownOp e s
  | .launchRequest core strand ld queue => Sys2Proof.Machine.execLaunchRequest core strand ld queue s
  | .nop core ticket => Sys2Proof.Machine.execNop core ticket s
  | .map core ticket frames => Sys2Proof.Machine.execMap core ticket frames s
  | .unmap core ticket => Sys2Proof.Machine.execUnmap core ticket s
  | .ethSend core p => Sys2Proof.Machine.execEthSend core p s
  | .ethRecv core ticket => Sys2Proof.Machine.execEthRecv core ticket s
  | .storeRead core p data => Sys2Proof.Machine.execStoreRead core p data s
  | .storeWrite core p written => Sys2Proof.Machine.execStoreWrite core p written s
  | .syscallUnknown core ticket => Sys2Proof.Machine.execSyscallUnknown core ticket s
  | .syscallComplete core ticket status => Sys2Proof.Machine.execSyscallComplete core ticket status s
  | .rdmaSendReceived ld qp payload imm => Sys2Proof.Machine.execRdmaSendReceived ld qp payload imm s
  | .rdmaInvalidRequest ld qp => Sys2Proof.Machine.execRdmaInvalidRequest ld qp s
  | .ethSendCompletion ld qp cookie status => Sys2Proof.Machine.execEthSendCompletion ld qp cookie status s
  | .launchRound => Sys2Proof.Machine.execLaunchRound s
  | .prereqRecheck => Sys2Proof.Machine.execPrereqRecheck s
  | .claimMessage m => Sys2Proof.Machine.execClaimMessage m s
  | .claimReport lid chip report => Sys2Proof.Machine.execClaimReport lid chip report s
  | .wakeMessage lid => Sys2Proof.Machine.execWakeMessage lid s
  | .endedMessage lid chip => Sys2Proof.Machine.execEndedMessage lid chip s
  | .coreDebugStopped c => Sys2Proof.Machine.execCoreDebugStopped c s
  | .sourceAnswer cluster digest vf source offers => Sys2Proof.Machine.execSourceAnswer cluster digest vf source offers s
  | .codeRequest fromChip digest model => Sys2Proof.Machine.execCodeRequest fromChip digest model s
  | .fetchRetry cluster => Sys2Proof.Machine.execFetchRetry cluster s
  | .lastAging cluster => Sys2Proof.Machine.execLastAging cluster s
  | .formEndReached => Sys2Proof.Machine.execFormEndReached s
  | .illegalWord word => Sys2Proof.Machine.execIllegalWord word s
  | .resultArrival core strand index => Sys2Proof.Machine.execResultArrival core strand index s
  | .helperFree core strand => Sys2Proof.Machine.execHelperFree core strand s
  | .vectorBind bench => Sys2Proof.Machine.execVectorBind bench s
  | .vectorEntryComplete bench group => Sys2Proof.Machine.execVectorEntryComplete bench group s
  | .registerCacheFill core strand reg => Sys2Proof.Machine.execRegisterCacheFill core strand reg s
  | .vqredStep core => Sys2Proof.Machine.execVqredStep core s
  | .matrixEntryRetire core => Sys2Proof.Machine.execMatrixEntryRetire core s
  | .matrixEntryComplete core => Sys2Proof.Machine.execMatrixEntryComplete core s
  | .timerInterrupt core strand machine => Sys2Proof.Machine.execTimerInterrupt core strand machine s
  | .externalInterrupt core strand => Sys2Proof.Machine.execExternalInterrupt core strand s
  | .counterOverflowInterrupt core => Sys2Proof.Machine.execCounterOverflowInterrupt core s
  | .remoteRefusalInterrupt core index => Sys2Proof.Machine.execRemoteRefusalInterrupt core index s
  | .preemptionRequest core strand => Sys2Proof.Machine.execPreemptionRequest core strand s
  | .eccError double dirty loc => Sys2Proof.Machine.execEccError double dirty loc s
  | .pageWalk core strand va store => Sys2Proof.Machine.execPageWalk core strand va store s
  | .shootdownAck c => Sys2Proof.Machine.execShootdownAck c s
  | .drain core strand => Sys2Proof.Machine.execDrain core strand s
  | .evict core line => Sys2Proof.Machine.execEvict core line s
  | .hostWriteBack index => Sys2Proof.Machine.execHostWriteBack index s
  | .performLoad core strand index part => Sys2Proof.Machine.execPerformLoad core strand index part s
  | .takeOwnership bench => Sys2Proof.Machine.execTakeOwnership bench s
  | .writeLine m => Sys2Proof.Machine.execWriteLine m s
  | .writeScratchpadSector m => Sys2Proof.Machine.execWriteScratchpadSector m s
  | .entryComplete m => Sys2Proof.Machine.execEntryComplete m s
  | .ksendArrival core strand bench => Sys2Proof.Machine.execKsendArrival core strand bench s
  | .depart core => Sys2Proof.Machine.execDepart core s
  | .routerForward msg => Sys2Proof.Machine.execRouterForward msg s
  | .malformedMessage msg => Sys2Proof.Machine.execMalformedMessage msg s
  | .rstMessage msg => Sys2Proof.Machine.execRstMessage msg s
  | .rstAck msg => Sys2Proof.Machine.execRstAck msg s
  | .rstRefuse msg => Sys2Proof.Machine.execRstRefuse msg s
  | .rldMessage msg => Sys2Proof.Machine.execRldMessage msg s
  | .rldReply msg => Sys2Proof.Machine.execRldReply msg s
  | .gstMessage msg => Sys2Proof.Machine.execGstMessage msg s
  | .prepare group n => Sys2Proof.Machine.execPrepare group n s
  | .ready group chip => Sys2Proof.Machine.execReady group chip s
  | .groupRefuse group chip reason => Sys2Proof.Machine.execGroupRefuse group chip reason s
  | .abort group => Sys2Proof.Machine.execAbort group s
  | .publish group atTick => Sys2Proof.Machine.execPublish group atTick s
  | .groupApply group => Sys2Proof.Machine.execGroupApply group s
  | .publishAck group chip => Sys2Proof.Machine.execPublishAck group chip s
  | .abortAck group chip => Sys2Proof.Machine.execAbortAck group chip s
  | .groupTimeout group => Sys2Proof.Machine.execGroupTimeout group s
  | .routeMessage lid route port firing payload => Sys2Proof.Machine.execRouteMessage lid route port firing payload s
  | .routeRecordTick lid index => Sys2Proof.Machine.execRouteRecordTick lid index s
  | .barrierRelease core ch => Sys2Proof.Machine.execBarrierRelease core ch s
  | .tickwExpiry core strand => Sys2Proof.Machine.execTickwExpiry core strand s
  | .waitevWake core strand => Sys2Proof.Machine.execWaitevWake core strand s
  | .counterOverflow core index => Sys2Proof.Machine.execCounterOverflow core index s
  | .counterRecordRetry core => Sys2Proof.Machine.execCounterRecordRetry core s
  | .launchDiscardMessage lid code detail => Sys2Proof.Machine.execLaunchDiscardMessage lid code detail s
  | .launchEndByExecutive lid code detail => Sys2Proof.Machine.execLaunchEndByExecutive lid code detail s

end Sys2Proof.Machine
end

