-- ==== Sys2Proof/Machine/Issue.lean ====
section
/-! DEFINITION. The issue of instructions by a core, the executive's control queue, the passing of a tick, and the moves of
the schedule (R17, R23, R25, R28, R104-R106, R274, R327, R341). -/

namespace Sys2Proof.Machine

/-! ## Which strand issues (R104-R106) -/

/-- R105: the strands of a core in the order in which the core considers them. -/
def Core.issueOrder (k : Core) : List Nat := allStrands.map (fun j => (k.last + 1 + j) % 11)

/-- R232, R250, R359: the waits that end only by the step of another agent. -/
def Park.elsewhere : Park → Bool
  | .matrixEntry => true
  | .counterReply _ _ _ _ _ => true
  | .walk _ _ => true
  | .fetch _ _ => true
  | _ => false

/-- R104: may a strand that waits try its instruction again? In the deferred mode a vqred ends by its own steps. -/
def Park.retries (deferred : Bool) : Park → Bool
  | .vqred => !deferred
  | p => !p.elsewhere

/-- R106: has a lookahead window of the strand expired with its result outstanding? -/
def Strand.windowExpired (t : Strand) : Bool := t.pending.any (fun p => p.window == 0)

/-- R104, R106, R134: may the strand be considered: LIVE, not held, in a form, at its first look-up or on its way into a
handler, with no expired window? -/
def Strand.mayIssue (t : Strand) : Bool :=
  t.status == .live && !t.windowExpired && !t.onHold &&
    (match t.pos with
    | .inForm _ => true
    | .first _ => true
    | .entering _ _ _ => true
    | _ => false)

/-- R105-R107: has the instruction for which a strand waits issued already? A full vector or matrix queue, absent v lines and
results that have not arrived are waited for before it issues; every other wait follows its issue (DESIGN CHOICE, log
entry 67). -/
def Park.issued : Park → Bool
  | .vectorQueue => false
  | .matrixQueue => false
  | .fill _ => false
  | .results => false
  | _ => true

/-! ## One instruction -/

/-- R189: does the instruction enter the matrix queue? -/
def isMatrixEntry (i : Instr) : Bool :=
  match i with
  | .mcfg _ _ _ => true
  | .mma _ _ _ _ => true
  | .mmas _ _ _ _ => true
  | .mzero _ _ => true
  | .mst _ _ _ _ => true
  | .mld _ _ _ _ => true
  | .mrd _ _ _ _ => true
  | .mrec _ _ _ _ => true
  | .mprog _ _ => true
  | .mwr _ _ _ => true
  | .cvinit _ _ _ => true
  | .cvprobe _ _ _ => true
  | .cvcommit _ _ _ => true
  | .cvgain _ _ => true
  | .cvclr _ => true
  | .cvsel _ _ _ => true
  | .cvsave _ _ => true
  | .cvrest _ _ => true
  | _ => false

/-- R109: does the pending prefix read a register whose result is outstanding? -/
def Strand.prefixWaits (t : Strand) : Bool :=
  match t.prefix? with
  | some p => p.sreg != 0 && t.pending.any (fun q => q.dst == .x p.sreg)
  | none => false

/-- R106: does the strand's next instruction, which has not issued, depend on an outstanding result? -/
def State.mustStall (s : State) (c i : Nat) (j : Instr) : Bool :=
  !((s.strand c i).park.any Park.issued) &&
    (s.dependent c i j (isVectorEntry j || isMatrixEntry j) || (s.strand c i).prefixWaits)

/-- R106: the instruction counts toward the windows that were open before it. -/
def Strand.countWindows (t : Strand) (n : Nat) : Strand :=
  { t with
    pending := (t.pending.take n).map (fun p => { p with window := p.window - 1 }) ++ t.pending.drop n }

/-- R354: the counter that a CSR instruction writes. -/
def counterWritten (i : Instr) : Option Nat :=
  let at' := fun (writes : Bool) (a : BitVec 12) => if writes && isEvcnt a then some (counterIndex a) else none
  match i with
  | .csrrw _ _ a => at' true a
  | .csrrs _ rs1 a => at' (rs1 != 0) a
  | .csrrc _ rs1 a => at' (rs1 != 0) a
  | .csrrwi _ a _ => at' true a
  | .csrrsi _ a uimm => at' (uimm != 0) a
  | .csrrci _ a uimm => at' (uimm != 0) a
  | _ => none

/-- R105, R106: has the strand's instruction issued between two states: it had not before, and does not wait to issue? -/
def State.issuedBetween (before after : State) (c i : Nat) : Bool :=
  !((before.strand c i).park.any Park.issued) && (after.strand c i).park.all Park.issued

/-- R105, R106, R353: what the issue of an instruction leaves beside the instruction's own effect: the order and the
windows, where it has issued, and the count of instructions retired. -/
def State.closeIssue (before after : State) (c i : Nat) (j : Instr) : State :=
  let s :=
    if before.issuedBetween after c i then
      (after.modCore c (fun k => { k with last := i })).modStrand c i (fun t =>
        t.countWindows (before.strand c i).pending.length)
    else after
  s.countEventBut (counterWritten j) c evRetired (after.retired - before.retired)

/-- R106: is the instruction long-latency: does it leave a result outstanding? -/
def longLatency (i : Instr) : Bool :=
  isMatrixEntry i ||
    (match i with
    | .vld _ _ _ _ _ | .vldx _ _ _ _ _ | .vldl _ _ _ _ _ | .vldk _ _ _ _ _ | .vldt _ _ _ _ _ => true
    | .ldk _ _ _ _ | .ldt _ _ _ _ | .ksend _ _ _ _ => true
    | .lb _ _ _ | .lh _ _ _ | .lw _ _ _ | .ld _ _ _ | .lbu _ _ _ | .lhu _ _ _ | .lwu _ _ _ => true
    | .cLw _ _ _ | .cLd _ _ _ | .cLwsp _ _ | .cLdsp _ _ => true
    | .lrW _ _ _ _ | .lrD _ _ _ _ | .scW _ _ _ _ _ | .scD _ _ _ _ _ => true
    | .amoswapW _ _ _ _ _ | .amoswapD _ _ _ _ _ | .amoaddW _ _ _ _ _ | .amoaddD _ _ _ _ _ => true
    | .amoxorW _ _ _ _ _ | .amoxorD _ _ _ _ _ | .amoandW _ _ _ _ _ | .amoandD _ _ _ _ _ => true
    | .amoorW _ _ _ _ _ | .amoorD _ _ _ _ _ | .amominW _ _ _ _ _ | .amominD _ _ _ _ _ => true
    | .amomaxW _ _ _ _ _ | .amomaxD _ _ _ _ _ | .amominuW _ _ _ _ _ | .amominuD _ _ _ _ _ => true
    | .amomaxuW _ _ _ _ _ | .amomaxuD _ _ _ _ _ => true
    | .famoAddBf16x2 _ _ _ _ | .famoAddF16x2 _ _ _ _ | .famoAddF32 _ _ _ _ | .famoAddF64 _ _ _ _ => true
    | .famoMinBf16x2 _ _ _ _ | .famoMinF16x2 _ _ _ _ | .famoMinF32 _ _ _ _ | .famoMinF64 _ _ _ _ => true
    | .famoMaxBf16x2 _ _ _ _ | .famoMaxF16x2 _ _ _ _ | .famoMaxF32 _ _ _ _ | .famoMaxF64 _ _ _ _ => true
    | .cas128 _ _ _ _ | .iaddD _ _ _ _ | .iaddW _ _ _ _ | .iorD _ _ _ _ | .iandD _ _ _ _ => true
    | .qpop _ _ | .qpopv _ _ | .abwait _ _ | .vqred _ _ _ _ | .vext _ _ _ _ | .pcount _ _ _ | .pfirst _ _ _ => true
    | .gopen _ | .gsel _ _ | .gcommit _ _ _ | .gabort _ _ | .gstat _ _ _ => true
    | _ => false)

/-- R106: a strand that holds eight outstanding results issues no long-latency instruction. -/
def State.tooMany (s : State) (c i : Nat) (j : Instr) : Bool :=
  8 ≤ (s.strand c i).pending.length && longLatency j && !((s.strand c i).park.any Park.issued)

/-- R25: the instruction of the issuing strand has been found illegal. -/
def State.foundIllegal (s : State) (r : Host.Outcome State Fault Refusal) : Bool :=
  let trap := fun (s : State) => s.takeTrap s.here s.cur causeIllegal s.currentWord
  match r with
  | .next s1 => s1 == trap s || s1 == trap (s.modMe (fun t => { t with pp := false }))
  | _ => false

/-- R23, R25, R28: the instruction at the strand's FPC: the end of its form and a word that is no instruction are steps of
their own. -/
noncomputable def State.nextInstr (s : State) (c i : Nat) : Instr :=
  match decode (s.bytesAt c i) with
  | .ok (j, _) => j
  | .error .tooShort => .formEndReached
  | .error _ => .illegalWord (s.currentWord.setWidth 32)

/-- R229: are the bytes of the strand's next instruction poisoned in the code shelf? -/
def State.codePoisoned (s : State) (c i : Nat) : Bool :=
  !s.poisoned.isEmpty && (s.strand c i).park.isNone &&
    (match (s.strand c i).pos with
    | .inForm e => s.poisonedAt ((s.cluster (clusterOf c)).shelfLocs (clusterOf c) e (s.strand c i).fpc.toNat
        (s.bytesAt c i).length)
    | _ => false)

/-- R229: the place, in the strand's image, of the first poisoned line of the register cache that an instruction reads; a line
that an earlier instruction still writes is none. -/
def State.linePoison (s : State) (c i : Nat) (j : Instr) : Option Word :=
  let t := s.strand c i
  if t.vPoison = 0 then none
  else
    ((readsOf j).filterMap (fun r => match r with
      | .v n =>
        if t.vPoison.getLsbD n.toNat && !t.pending.any (fun p => p.dst == .v n) &&
            !(s.vectorEntries c i).any (fun e => (writesOf e.instr).contains (.v n)) then
          some (t.ctxbase + BitVec.ofNat 64 (0x800 + 256 * n.toNat))
        else none
      | _ => none)).head?

/-- What a strand makes of its turn: nothing; its core stalls; or it uses the core cycle, with the counter that its
instruction writes (R354). -/
inductive Turn where
  | passes
  | stalls
  | takes (written : Option Nat) (r : Host.Outcome State Fault Refusal)

/-- R25, R105, R106: the strand's next instruction, in a state in which `here` and `cur` name it. An illegal instruction faults
whatever it depends on. Poisoned data of the code shelf or of the register cache trap their consumer (R229, log entry 145). -/
noncomputable def State.issueAt (s : State) (c i : Nat) : Turn :=
  let j := s.nextInstr c i
  let r := exec j s
  if s.codePoisoned c i then .takes none (.next (s.takeTrap c i causeMemory ((s.strand c i).fpc.setWidth 64)))
  else if (s.tooMany c i j || s.mustStall c i j) && !s.foundIllegal r then
    if !s.tooMany c i j then .stalls
    else if (s.strand c i).park = some .results then .passes
    else .takes none (.next (s.modStrand c i (fun t => { t with park := some .results })))
  else
    match r with
    | .next s1 =>
      if (s.strand c i).park.isSome && s1 == s then .passes
      else
        match (if s.foundIllegal r then none else s.linePoison c i j) with
        | some va => .takes none (.next (s.takeTrap c i causeMemory va))
        | none => .takes (counterWritten j) (.next (s.closeIssue s1 c i j))
    | _ => .takes none r

/-- R104, R105, R327: a strand's turn: it takes an interrupt at its boundary, makes its first look-up, enters the handler of
its trap, or issues. -/
noncomputable def State.turn (s : State) (c i : Nat) : Turn :=
  let t := s.strand c i
  if !t.mayIssue then .passes
  else
    let s1 := { s with here := c, cur := i }
    match (if t.atBoundary && s1.vqredBetween c i then s1.interruptFor c i else none) with
    | some n => .takes none (.next (s1.takeInterrupt c i n))
    | none =>
      match t.pos with
      | .first r => .takes none (.next (s1.firstLookup c i r))
      | .entering m cause saved =>
        let s2 := s1.retryHandler c i m cause saved
        if s2 == s1 then .passes else .takes none (.next s2)
      | _ =>
        match t.park with
        | none => s1.issueAt c i
        | some p => if p.retries s.deferred then s1.issueAt c i else .passes

/-- R105, R106: the first strand of a list that may issue does; one whose instruction depends on an outstanding result
stalls the core. -/
noncomputable def State.issueFrom (s : State) (c : Nat) : List Nat → Option Nat × Host.Outcome State Fault Refusal
  | [] => (none, .next (s.modCore c (fun k => { k with stall := none })))
  | i :: is =>
    match s.turn c i with
    | .passes => s.issueFrom c is
    | .stalls => (none, .next ((s.modCore c (fun k => { k with stall := some i })).countEvent c evStall 1))
    | .takes w (.next s1) => (w, .next (s1.modCore c (fun k => { k with stall := none })))
    | .takes w r => (w, r)

/-- R105, R106: the strands in the order of a core cycle: a strand that stalls the core issues before any other. -/
def Core.cycleOrder (k : Core) : List Nat := k.stall.toList ++ k.issueOrder

/-- R107, R176: outside the deferred mode the entries behind a vqred that was withdrawn execute. -/
def State.settleQueue (s : State) (c : Nat) : State :=
  if s.deferred || (s.core c).vqueue.isEmpty then s else State.runQueue c (s.core c).vqueue s

/-- R102, R105, R137, R337, R354, R365: one core cycle of a core: an instruction issues, then the cycle and its events are
counted. -/
noncomputable def State.issue (s : State) (c : Nat) : Host.Outcome State Fault Refusal :=
  if !coreThere c then .fault .noSuchAgent
  else if (s.core c).debugStopped || (s.core c).stopping then .next ((s.coreCycle none c).endAging c)
  else
    match (s.settleQueue c).issueFrom c (s.core c).cycleOrder with
    | (w, .next s1) => .next ((s1.coreCycle w c).endAging c)
    | (_, r) => r

/-! ## The control queue (R341) -/

/-- R341: the command of an entry. -/
noncomputable def controlCommand (op : Nat) (e : CtlArgs) : Instr :=
  match op with
  | 0x01 => .setWeight e
  | 0x02 => .setPartition e
  | 0x03 => .setTrust e
  | 0x04 => .setModstore e
  | 0x05 => .setSpad e
  | 0x06 => .setRamap e
  | 0x07 => .setWindow e
  | 0x08 => .setQueues e
  | 0x09 => .shootdown ⟨none, e⟩
  | 0x0A => .preempt e
  | 0x0B => .debugStop ⟨none, e⟩
  | 0x0C => .debugResume ⟨none, e⟩
  | 0x0D => .setCdlim e
  | 0x0E => .counterReply e
  | 0x0F => .loadKey e
  | 0x10 => .engineReply e
  | _ => .controlUnknownOp e

/-- R341: the operands of an entry. -/
def controlArgs (b : List Byte) : CtlArgs where
  ld := BitVec.ofNat 8 (recNat b 2 1)
  vf := BitVec.ofNat 8 (recNat b 3 1)
  a0 := recWord b 8
  a1 := recWord b 16
  a2 := recWord b 24
  a3 := recWord b 32
  a4 := recWord b 40
  a5 := recWord b 48
  a6 := recWord b 56

/-- R341: the launch unit executes the entry at CI, one entry at a time. -/
noncomputable def State.control (s : State) : Host.Outcome State Fault Refusal :=
  if s.ctlPending && s.shootdown.isNone then
    let b := s.readBytes .device s.ctlEntry 64
    exec (controlCommand (recNat b 0 2) (controlArgs b)) s
  else .next s

/-! ## The schedule -/

/-- R76: at the end of a period of 1,024 ticks its examination of the prerequisites has been made. -/
def State.endPeriod (s : State) : State := if (s.tick.toNat + 1) % 1024 = 0 then s.recheck else s

/-- R78: the round at the start of a tick, if some bound logical device has a READY launch. No other round runs in the tick. -/
def State.startRound (s : State) : State := { s.runRound with roundTick := some s.tick }

/-- R17, R78, R87, R274, R296, R298: a tick passes. At its end the ports send the dynamic messages for which there are flits,
and the records of the launches that ended in it are posted; the count rises once the chip has locked; then the groups due
at the new tick apply, the counter-access records are offered that are due (R359), and its round runs. -/
def State.passTick (s : State) : State :=
  if s.chip.locked then
    let s1 := s.endPeriod.fillPorts.flushEnded
    (({ s1 with chip := { s1.chip with tick := s1.chip.tick + 1 } } : State).applyDue.follow.retryRecords).startRound
  else s.flushEnded

/-- One move of the schedule. -/
noncomputable def State.move (s : State) (m : Move) : Host.Outcome State Fault Refusal :=
  match m with
  | .event i =>
    if eventThere i then exec i s else .fault .noSuchAgent
  | .openPair q => .next (s.openPair q)
  | .control => s.control
  | .core c => s.issue c
  | .tick => .next s.passTick

/-- R378: the moves of the security core and of the I3C target. -/
def Move.ofSecurityCore (m : Move) : Bool :=
  match m with
  | .event (.coldReset _) => true
  | .event (.podcfgWrite _) => true
  | .event (.getVersion _ _) => true
  | .event (.getCapabilities _ _) => true
  | .event (.negotiateAlgorithms _ _) => true
  | .event (.getDigests _ _) => true
  | .event (.getCertificate _ _) => true
  | .event (.challenge _ _) => true
  | .event (.getMeasurements _ _) => true
  | .event (.spdmUnsupportedRequest _ _) => true
  | _ => false

/-- The next move of the schedule; where it is exhausted the core `here` has a cycle. When start has stopped, only the security
core and the I3C target run (R368, R378). -/
noncomputable def State.nextMove (s : State) : Host.Outcome State Fault Refusal :=
  match s.moves with
  | [] => if s.chip.stop = 0 then s.issue s.here else .next s
  | m :: ms =>
    if s.chip.stop = 0 || m.ofSecurityCore then ({ s with moves := ms } : State).move m else .next { s with moves := ms }

/-- R363: one step: the next move, after which the barrier releases of its core cycle are recorded. -/
noncomputable def State.advance (s : State) : Host.Outcome State Fault Refusal :=
  match s.nextMove with
  | .next s1 => .next s1.serveCaches.writeReleases
  | r => r

/-! ## A program placed from outside -/

/-- The bytes of an instruction of `nbits` bits, as code holds them, up to the longest instruction. -/
def placedBytes (nbits w : Nat) : List Byte := leBytes 4 (w % 2 ^ nbits)

/-- The portable form that holds an instruction. -/
def placedEntry (nbits w : Nat) : DirEntry where
  digest := 0
  vf := 0
  kind := .portable
  pinned := false
  hold := false
  isOver := false
  nwp := 0
  src := 0
  last := 0
  firstPage := 0
  content := 0
  keyId := 0
  wptab := []
  code := placedBytes nbits w

/-- Strand 0 as a server core starts it (R340), at offset 0 of the form in entry 0. -/
def Strand.placed (t : Strand) : Strand :=
  { t with status := .live, priv := .machine, fpc := 0, pos := .inForm 0, park := none, pending := [] }

/-- A form is resident in entry 0 of cluster 0, strand 0 of core 0 stands at its start, and core 0 has the next cycle. -/
def State.place (s : State) (nbits w : Nat) : State :=
  let s1 := s.modCluster 0 (fun k => { k with
    dir := mapPut k.dir 0 (placedEntry nbits w), pages := mapSet freeRow k.pages 0 0x00FE#16 })
  let s2 := s1.modCore 0 (fun k => { (k.setStrand 0 (k.strand 0).placed) with last := 10, stall := none, debugStopped := false })
  { s2 with here := 0, cur := 0, moves := [] }

end Sys2Proof.Machine
end

