-- ==== Sys2Proof/Machine/Step.lean ====
section
/-! DEFINITION. One step of the module, and the placing of an instruction where the next step fetches. -/

namespace Sys2Proof.Machine

/-- One step: the next move of the schedule. -/
noncomputable def step (s : State) : Host.Outcome State Fault Refusal := s.advance

/-- The state with the instruction of `nbits` bits, whose bits are `w`, placed where the next step fetches. -/
def State.withFetchWord (s : State) (nbits w : Nat) : State := s.place nbits w

end Sys2Proof.Machine
end

