-- ==== Sys2Proof/Safety.lean ====
section
/-! DEFINITION. The words that claims use: what it is to complete, to retire, to be ready to issue, and to leave the rest of
the machine as it was. -/

namespace Sys2Proof.Machine

/-- The step, or the instruction, answered a next state. -/
def answers (o : Host.Outcome State Fault Refusal) : Bool :=
  match o with
  | .next _ => true
  | .fault _ => false
  | .refused _ => false

/-- The state is well formed: its memory keeps the canonical form. -/
def State.wf (s : State) : Prop := Memory.wf s.mem = true

/-- The instruction answers a next state, and `P` holds of it. -/
def Completes (i : Instr) (s : State) (P : State → Prop) : Prop := ∃ t, exec i s = .next t ∧ P t

/-- The issuing strand is one of its core's eleven, and no prefix is pending for it (R104, R109). -/
def State.ready (s : State) : Prop := s.cur < 11 ∧ s.me.pp = false

/-- The issuing strand has retired an instruction of `n` bytes: FPC has passed it, and it is counted (R28, R45). -/
def Retired (s t : State) (n : Nat) : Prop :=
  t.me.fpc = s.me.fpc + BitVec.ofNat 24 n ∧ t.me.instret = s.me.instret + 1 ∧ t.me.park = none

/-- Of the whole machine, nothing but the issuing strand has changed, and the model's own count of retired instructions. -/
def OnlyStrand (s t : State) : Prop := t = { s.setMe t.me with retired := t.retired }

/-- Of the issuing strand, nothing has changed but x registers, FPC, the count of its instructions, its park and the walks that
failed for it (R258). -/
def OnlyX (s t : State) : Prop :=
  ({ t.me with
    x := s.me.x, fpc := s.me.fpc, instret := s.me.instret, park := s.me.park, failedWalks := s.me.failedWalks } :
    Strand) = s.me

/-- Every byte of memory reads as it did, to every agent. -/
def MemoryKept (s t : State) : Prop := ∀ a loc, t.readByte a loc = s.readByte a loc

end Sys2Proof.Machine
end

