-- ==== Sys2Proof/Certificates/Slice0/Obligations.lean ====
section
/-! DEFINITION. The statements about the model, from the numbered rules of the manual. -/

open Sys2Proof Sys2Proof.Machine

/-! ## Integer registers (R27, R34, R43) -/

/-- R27: the register-register forms of RV64I and M, their results written as integer arithmetic. -/
def RegisterArithmetic : Prop :=
  ∀ (s : State), s.me.pp = false → ∀ (rd rs1 rs2 : BitVec 5),
    let a := s.x rs1
    let b := s.x rs2
    let gives := fun (i : Instr) (v : Word) => exec i s = .next ((s.writeX rd v).retire 4)
    gives (.add rd rs1 rs2) (BitVec.ofInt 64 (a.toInt + b.toInt)) ∧
    gives (.sub rd rs1 rs2) (BitVec.ofInt 64 (a.toInt - b.toInt)) ∧
    gives (.sll rd rs1 rs2) (BitVec.ofNat 64 (a.toNat * 2 ^ (b.toNat % 64))) ∧
    gives (.slt rd rs1 rs2) (if a.toInt < b.toInt then 1 else 0) ∧
    gives (.sltu rd rs1 rs2) (if a.toNat < b.toNat then 1 else 0) ∧
    gives (.xor rd rs1 rs2) (a ^^^ b) ∧
    gives (.srl rd rs1 rs2) (BitVec.ofNat 64 (a.toNat / 2 ^ (b.toNat % 64))) ∧
    gives (.sra rd rs1 rs2) (BitVec.ofInt 64 (a.toInt / 2 ^ (b.toNat % 64))) ∧
    gives (.or rd rs1 rs2) (a ||| b) ∧
    gives (.and rd rs1 rs2) (a &&& b) ∧
    gives (.mul rd rs1 rs2) (BitVec.ofInt 64 (a.toInt * b.toInt)) ∧
    gives (.mulh rd rs1 rs2) (BitVec.ofInt 64 (a.toInt * b.toInt / 2 ^ 64)) ∧
    gives (.mulhsu rd rs1 rs2) (BitVec.ofInt 64 (a.toInt * (b.toNat : Int) / 2 ^ 64)) ∧
    gives (.mulhu rd rs1 rs2) (BitVec.ofNat 64 (a.toNat * b.toNat / 2 ^ 64)) ∧
    gives (.div rd rs1 rs2) (BitVec.ofInt 64 (if b.toInt = 0 then -1 else a.toInt.tdiv b.toInt)) ∧
    gives (.divu rd rs1 rs2) (if b.toNat = 0 then BitVec.ofInt 64 (-1) else BitVec.ofNat 64 (a.toNat / b.toNat)) ∧
    gives (.rem rd rs1 rs2) (BitVec.ofInt 64 (if b.toInt = 0 then a.toInt else a.toInt.tmod b.toInt)) ∧
    gives (.remu rd rs1 rs2) (BitVec.ofNat 64 (if b.toNat = 0 then a.toNat else a.toNat % b.toNat))

/-- R27: the forms of OP-32: the low words' result, sign-extended. -/
def WordArithmetic : Prop :=
  ∀ (s : State), s.me.pp = false → ∀ (rd rs1 rs2 : BitVec 5),
    let a := (s.x rs1).toInt.bmod (2 ^ 32)
    let b := (s.x rs2).toInt.bmod (2 ^ 32)
    let ua : Nat := (s.x rs1).toNat % 2 ^ 32
    let ub : Nat := (s.x rs2).toNat % 2 ^ 32
    let gives := fun (i : Instr) (v : Int) => exec i s = .next ((s.writeX rd (BitVec.ofInt 64 (v.bmod (2 ^ 32)))).retire 4)
    gives (.addw rd rs1 rs2) (a + b) ∧
    gives (.subw rd rs1 rs2) (a - b) ∧
    gives (.sllw rd rs1 rs2) (a * 2 ^ (ub % 32)) ∧
    gives (.srlw rd rs1 rs2) ((ua : Int) / 2 ^ (ub % 32)) ∧
    gives (.sraw rd rs1 rs2) (a / 2 ^ (ub % 32)) ∧
    gives (.mulw rd rs1 rs2) (a * b) ∧
    gives (.divw rd rs1 rs2) (if b = 0 then -1 else a.tdiv b) ∧
    gives (.divuw rd rs1 rs2) (if ub = 0 then -1 else ((ua / ub : Nat) : Int)) ∧
    gives (.remw rd rs1 rs2) (if b = 0 then a else a.tmod b) ∧
    gives (.remuw rd rs1 rs2) (if ub = 0 then (ua : Int) else ((ua % ub : Nat) : Int))

/-- R27, R28: the forms with an immediate, lui and auipc. -/
def ImmediateArithmetic : Prop :=
  ∀ (s : State), s.me.pp = false → ∀ (rd rs1 : BitVec 5) (imm : BitVec 12) (up : BitVec 20) (sh : BitVec 6) (shw : BitVec 5),
    let a := s.x rs1
    let gives := fun (i : Instr) (v : Word) => exec i s = .next ((s.writeX rd v).retire 4)
    gives (.lui rd up) (BitVec.ofInt 64 (up.toInt * 4096)) ∧
    gives (.auipc rd up) (BitVec.ofInt 64 ((s.me.fpc.toNat : Int) + up.toInt * 4096)) ∧
    gives (.addi rd rs1 imm) (BitVec.ofInt 64 (a.toInt + imm.toInt)) ∧
    gives (.slti rd rs1 imm) (if a.toInt < imm.toInt then 1 else 0) ∧
    gives (.sltiu rd rs1 imm) (if a.toNat < (BitVec.ofInt 64 imm.toInt).toNat then 1 else 0) ∧
    gives (.xori rd rs1 imm) (a ^^^ BitVec.ofInt 64 imm.toInt) ∧
    gives (.ori rd rs1 imm) (a ||| BitVec.ofInt 64 imm.toInt) ∧
    gives (.andi rd rs1 imm) (a &&& BitVec.ofInt 64 imm.toInt) ∧
    gives (.slli rd rs1 sh) (BitVec.ofNat 64 (a.toNat * 2 ^ sh.toNat)) ∧
    gives (.srli rd rs1 sh) (BitVec.ofNat 64 (a.toNat / 2 ^ sh.toNat)) ∧
    gives (.srai rd rs1 sh) (BitVec.ofInt 64 (a.toInt / 2 ^ sh.toNat)) ∧
    gives (.addiw rd rs1 imm) (BitVec.ofInt 64 ((a.toInt + imm.toInt).bmod (2 ^ 32))) ∧
    gives (.slliw rd rs1 shw) (BitVec.ofInt 64 ((a.toInt * 2 ^ shw.toNat).bmod (2 ^ 32))) ∧
    gives (.srliw rd rs1 shw) (BitVec.ofInt 64 (((a.toNat % 2 ^ 32 / 2 ^ shw.toNat : Nat) : Int).bmod (2 ^ 32))) ∧
    gives (.sraiw rd rs1 shw) (BitVec.ofInt 64 (a.toInt.bmod (2 ^ 32) / 2 ^ shw.toNat))

/-- A compressed arithmetic form, with the register it writes and its expansion (R34). -/
def expansionOf : Instr → Option Instr
  | .cAddi4spn rd imm => some (.addi (creg rd) 2 ((imm ++ 0#2).setWidth 12))
  | .cNop imm => some (.addi 0 0 (imm.signExtend 12))
  | .cAddi rd imm => some (.addi rd rd (imm.signExtend 12))
  | .cAddiw rd imm => some (.addiw rd rd (imm.signExtend 12))
  | .cLi rd imm => some (.addi rd 0 (imm.signExtend 12))
  | .cAddi16sp imm => some (.addi 2 2 ((imm ++ 0#4).signExtend 12))
  | .cLui rd imm => some (.lui rd (imm.signExtend 20))
  | .cSrli rd sh => some (.srli (creg rd) (creg rd) sh)
  | .cSrai rd sh => some (.srai (creg rd) (creg rd) sh)
  | .cAndi rd imm => some (.andi (creg rd) (creg rd) (imm.signExtend 12))
  | .cSub rd rs2 => some (.sub (creg rd) (creg rd) (creg rs2))
  | .cXor rd rs2 => some (.xor (creg rd) (creg rd) (creg rs2))
  | .cOr rd rs2 => some (.or (creg rd) (creg rd) (creg rs2))
  | .cAnd rd rs2 => some (.and (creg rd) (creg rd) (creg rs2))
  | .cSubw rd rs2 => some (.subw (creg rd) (creg rd) (creg rs2))
  | .cAddw rd rs2 => some (.addw (creg rd) (creg rd) (creg rs2))
  | .cSlli rd sh => some (.slli rd rd sh)
  | .cMv rd rs2 => some (.add rd 0 rs2)
  | .cAdd rd rs2 => some (.add rd rd rs2)
  | _ => none

/-- R34: a compressed arithmetic form has exactly the effect of its expansion, with FPC 2 further on and not 4. Where no
prefix is pending it completes; where one is, both take the same exception. -/
def CompressedArithmetic : Prop :=
  ∀ (c i : Instr), expansionOf c = some i → ∀ (s : State), s.cur < 11 →
    if s.me.pp then exec c s = exec i s
    else ∃ t, exec i s = .next t ∧ exec c s = .next (t.modMe (fun u => { u with fpc := s.me.fpc + 2 })) ∧
      t.me.fpc = s.me.fpc + 4

/-- The register that a form of the integer arithmetic writes, and the length of the form (R27, R34). -/
def integerForm : Instr → Option (BitVec 5 × Nat)
  | .add rd _ _ | .sub rd _ _ | .sll rd _ _ | .slt rd _ _ | .sltu rd _ _ | .xor rd _ _ | .srl rd _ _ | .sra rd _ _
  | .or rd _ _ | .and rd _ _ | .mul rd _ _ | .mulh rd _ _ | .mulhsu rd _ _ | .mulhu rd _ _ | .div rd _ _ | .divu rd _ _
  | .rem rd _ _ | .remu rd _ _ | .addw rd _ _ | .subw rd _ _ | .sllw rd _ _ | .srlw rd _ _ | .sraw rd _ _ | .mulw rd _ _
  | .divw rd _ _ | .divuw rd _ _ | .remw rd _ _ | .remuw rd _ _ | .lui rd _ | .auipc rd _ | .addi rd _ _ | .slti rd _ _
  | .sltiu rd _ _ | .xori rd _ _ | .ori rd _ _ | .andi rd _ _ | .slli rd _ _ | .srli rd _ _ | .srai rd _ _ | .addiw rd _ _
  | .slliw rd _ _ | .srliw rd _ _ | .sraiw rd _ _ => some (rd, 4)
  | .cAddi4spn rd _ | .cSrli rd _ | .cSrai rd _ | .cAndi rd _ | .cSub rd _ | .cXor rd _ | .cOr rd _ | .cAnd rd _
  | .cSubw rd _ | .cAddw rd _ => some (creg rd, 2)
  | .cAddi rd _ | .cAddiw rd _ | .cLi rd _ | .cLui rd _ | .cSlli rd _ | .cMv rd _ | .cAdd rd _ => some (rd, 2)
  | .cAddi16sp _ => some (2, 2)
  | .cNop _ => some (0, 2)
  | _ => none

/-- R27, R28, R34, R43: the frame of the integer arithmetic: only rd changes among the x registers, and never x0; FPC
passes the instruction; nothing else of the strand or of the machine changes, no byte of memory among it. -/
def Obligations.IntegerFrame : Prop :=
  ∀ (i : Instr) (rd : BitVec 5) (n : Nat), integerForm i = some (rd, n) → ∀ (s : State), s.ready →
    Completes i s (fun t =>
      (∀ r, r ≠ rd ∨ r = 0 → t.x r = s.x r) ∧ Retired s t n ∧ OnlyX s t ∧ OnlyStrand s t ∧ MemoryKept s t)

/-! ## Transfers within a form (R28) -/

/-- The condition and the offset of a conditional branch, and its length. -/
def branchForm (s : State) : Instr → Option (Bool × Int × Nat)
  | .beq a b o => some (s.x a == s.x b, 2 * o.toInt, 4)
  | .bne a b o => some (s.x a != s.x b, 2 * o.toInt, 4)
  | .blt a b o => some (decide ((s.x a).toInt < (s.x b).toInt), 2 * o.toInt, 4)
  | .bge a b o => some (decide ((s.x b).toInt ≤ (s.x a).toInt), 2 * o.toInt, 4)
  | .bltu a b o => some (decide ((s.x a).toNat < (s.x b).toNat), 2 * o.toInt, 4)
  | .bgeu a b o => some (decide ((s.x b).toNat ≤ (s.x a).toNat), 2 * o.toInt, 4)
  | .cBeqz a o => some (s.x (creg a) == 0, 2 * o.toInt, 2)
  | .cBnez a o => some (s.x (creg a) != 0, 2 * o.toInt, 2)
  | _ => none

/-- R28, R34: a branch that is not taken goes on with the next instruction and checks nothing; one that is taken goes to
its target, when that lies in the form; else it raises the code-bound exception on the target, with rd and FPC unchanged. -/
def Branches : Prop :=
  ∀ (s : State) (i : Instr) (taken : Bool) (off : Int) (n : Nat), branchForm s i = some (taken, off, n) →
    s.me.pp = false →
    let target : Int := (s.me.fpc.toNat : Int) + off
    (taken = false → exec i s = .next (s.retire n)) ∧
    (taken = true → 0 ≤ target → target < s.funcLength → exec i s = .next (s.retireAt (BitVec.ofInt 24 target))) ∧
    (taken = true → target < 0 ∨ (s.funcLength : Int) ≤ target →
      exec i s = .next (s.takeTrap s.here s.cur causeCodeBound (BitVec.ofInt 64 target)))

/-- The target of a jump, the register that it links, and its length. -/
def jumpForm (s : State) : Instr → Option (Word × BitVec 5 × Nat)
  | .jal rd o => some (BitVec.ofInt 64 ((s.me.fpc.toNat : Int) + 2 * o.toInt), rd, 4)
  | .jalr rd a o => some (BitVec.ofInt 64 ((s.x a).toInt + o.toInt) &&& ~~~1#64, rd, 4)
  | .cJ o => some (BitVec.ofInt 64 ((s.me.fpc.toNat : Int) + 2 * o.toInt), 0, 2)
  | .cJr a => some (s.x a &&& ~~~1#64, 0, 2)
  | .cJalr a => some (s.x a &&& ~~~1#64, 1, 2)
  | _ => none

/-- R28, R34: a jump into the form links the offset of the next instruction, unless its link register is x0, and goes to
its target; outside the form it raises the code-bound exception on the target and changes neither rd nor FPC before it. -/
def Jumps : Prop :=
  ∀ (s : State) (i : Instr) (target : Word) (rd : BitVec 5) (n : Nat), jumpForm s i = some (target, rd, n) →
    s.ready →
    (0 ≤ target.toInt → target.toInt < s.funcLength → Completes i s (fun t =>
      t.me.fpc = target.setWidth 24 ∧ t.me.instret = s.me.instret + 1 ∧ t.me.park = none ∧
      t.x rd = (if rd = 0 then 0 else BitVec.ofNat 64 (s.me.fpc.toNat + n)) ∧ (∀ r, r ≠ rd → t.x r = s.x r) ∧
      OnlyX s t ∧ OnlyStrand s t ∧ MemoryKept s t)) ∧
    (target.toInt < 0 ∨ (s.funcLength : Int) ≤ target.toInt →
      exec i s = .next (s.takeTrap s.here s.cur causeCodeBound target))

/-! ## Scalar loads and stores (R32, R34) -/

/-- The register that a scalar load writes, its address, its bytes, whether it is sign-extended, and its length. -/
def loadForm (s : State) : Instr → Option (BitVec 5 × Word × Nat × Bool × Nat)
  | .lb rd a o => some (rd, s.x a + o.signExtend 64, 1, true, 4)
  | .lh rd a o => some (rd, s.x a + o.signExtend 64, 2, true, 4)
  | .lw rd a o => some (rd, s.x a + o.signExtend 64, 4, true, 4)
  | .ld rd a o => some (rd, s.x a + o.signExtend 64, 8, true, 4)
  | .lbu rd a o => some (rd, s.x a + o.signExtend 64, 1, false, 4)
  | .lhu rd a o => some (rd, s.x a + o.signExtend 64, 2, false, 4)
  | .lwu rd a o => some (rd, s.x a + o.signExtend 64, 4, false, 4)
  | .cLw rd a o => some (creg rd, s.x (creg a) + 4 * o.setWidth 64, 4, true, 2)
  | .cLd rd a o => some (creg rd, s.x (creg a) + 8 * o.setWidth 64, 8, true, 2)
  | .cLwsp rd o => some (rd, s.x 2 + 4 * o.setWidth 64, 4, true, 2)
  | .cLdsp rd o => some (rd, s.x 2 + 8 * o.setWidth 64, 8, true, 2)
  | _ => none

/-- R4, R32, R263: a scalar load whose bytes are reached gives rd their little-endian value, extended, as the issuing
strand sees them; x0 stays 0, whatever the alignment of the address; nothing else of the state that the access left
changes but FPC and the count. -/
def ScalarLoads : Prop :=
  ∀ (s s1 : State) (i : Instr) (rd : BitVec 5) (va : Word) (n : Nat) (signed : Bool) (len : Nat) (locs : List Nat),
    loadForm s i = some (rd, va, n, signed, len) → s.me.pp = false → s1.deferred = false →
    s.loadLocs va n = .ok (s1, locs) →
    exec i s = .next ((s1.writeX rd
      (if signed then BitVec.ofInt 64 ((leNat (s1.bytesOf locs) : Int).bmod (2 ^ (8 * n)))
        else BitVec.ofNat 64 (leNat (s1.bytesOf locs) % 2 ^ (8 * n)))).retire len)

/-- The address of a scalar store, its bytes and its length. -/
def storeForm (s : State) : Instr → Option (Word × List Byte × Nat)
  | .sb a b o => some (s.x a + o.signExtend 64, leBytes 1 (s.x b).toNat, 4)
  | .sh a b o => some (s.x a + o.signExtend 64, leBytes 2 (s.x b).toNat, 4)
  | .sw a b o => some (s.x a + o.signExtend 64, leBytes 4 (s.x b).toNat, 4)
  | .sd a b o => some (s.x a + o.signExtend 64, leBytes 8 (s.x b).toNat, 4)
  | .cSw b a o => some (s.x (creg a) + 4 * o.setWidth 64, leBytes 4 (s.x (creg b)).toNat, 2)
  | .cSd b a o => some (s.x (creg a) + 8 * o.setWidth 64, leBytes 8 (s.x (creg b)).toNat, 2)
  | .cSwsp b o => some (s.x 2 + 4 * o.setWidth 64, leBytes 4 (s.x b).toNat, 2)
  | .cSdsp b o => some (s.x 2 + 8 * o.setWidth 64, leBytes 8 (s.x b).toNat, 2)
  | _ => none

/-- R32, R261-R264: a scalar store whose bytes are reached joins the strand's store buffer, and retires: no register
changes; the issuing strand reads the stored bytes at their locations (at one that the access names twice, the first byte)
and every other location as before; every other agent reads every byte of memory as before. -/
def ScalarStores : Prop :=
  ∀ (s s1 : State) (i : Instr) (va : Word) (bs : List Byte) (len : Nat) (locs : List Nat),
    storeForm s i = some (va, bs, len) → s.ready → s.access .store va bs.length = .ok (s1, locs) →
    Completes i s (fun t =>
      Retired s1 t len ∧ t.me.storeBuf = s1.me.storeBuf ++ [{ cells := locs.zip bs }] ∧
      (∀ r, t.x r = s1.x r) ∧ OnlyStrand s1 t ∧
      (∀ k, k < locs.length → k < bs.length → locs.getD k 0 ∉ locs.take k →
        t.readByte (.strand s.here s.cur) (locs.getD k 0) = bs.getD k 0) ∧
      (∀ loc, loc ∉ locs → t.readByte (.strand s.here s.cur) loc = s1.readByte (.strand s.here s.cur) loc) ∧
      (∀ a loc, a ≠ .strand s.here s.cur → t.readByte a loc = s1.readByte a loc))

/-- R28, R34: branches and jumps. -/
def Obligations.Transfers : Prop := Branches ∧ Jumps

/-- R27, R32, R34: scalar loads and stores.
Where it rests on the model's own readings and choices: log entries 5, 103 and 104. -/
def Obligations.ScalarMemory : Prop := ScalarLoads ∧ ScalarStores

/-- R27: the integer instructions of two registers. -/
def Obligations.RegisterOperations : Prop := RegisterArithmetic ∧ WordArithmetic

/-- R27, R28, R34: the integer instructions with an immediate, and the compressed forms. -/
def Obligations.ImmediateOperations : Prop := ImmediateArithmetic ∧ CompressedArithmetic

/-! ## Atomics (R31, R241-R244) -/

/-- The value of `n` low bytes, as a signed number. -/
def asSigned (n v : Nat) : Int := (v : Int).bmod (2 ^ (8 * n))

/-- The smaller or larger of two values of `n` bytes, signed. -/
def signedMin (n a b : Nat) : Nat := if asSigned n a ≤ asSigned n b then a else b
def signedMax (n a b : Nat) : Nat := if asSigned n a ≤ asSigned n b then b else a

/-- An integer atomic: the register it writes, its address, its bytes, whether it releases at scope 4, and the value it
stores for an old value, of which the low bytes count. -/
def atomicForm (s : State) : Instr → Option (BitVec 5 × Word × Nat × Bool × (Nat → Nat))
  | .amoswapW rd a b _ rl => some (rd, s.x a, 4, rl == 1, fun _ => (s.x b).toNat)
  | .amoswapD rd a b _ rl => some (rd, s.x a, 8, rl == 1, fun _ => (s.x b).toNat)
  | .amoaddW rd a b _ rl => some (rd, s.x a, 4, rl == 1, fun old => old + (s.x b).toNat)
  | .amoaddD rd a b _ rl => some (rd, s.x a, 8, rl == 1, fun old => old + (s.x b).toNat)
  | .amoxorW rd a b _ rl => some (rd, s.x a, 4, rl == 1, fun old => old ^^^ (s.x b).toNat)
  | .amoxorD rd a b _ rl => some (rd, s.x a, 8, rl == 1, fun old => old ^^^ (s.x b).toNat)
  | .amoandW rd a b _ rl => some (rd, s.x a, 4, rl == 1, fun old => old &&& (s.x b).toNat)
  | .amoandD rd a b _ rl => some (rd, s.x a, 8, rl == 1, fun old => old &&& (s.x b).toNat)
  | .amoorW rd a b _ rl => some (rd, s.x a, 4, rl == 1, fun old => old ||| (s.x b).toNat)
  | .amoorD rd a b _ rl => some (rd, s.x a, 8, rl == 1, fun old => old ||| (s.x b).toNat)
  | .amominW rd a b _ rl => some (rd, s.x a, 4, rl == 1, fun old => signedMin 4 old (s.x b).toNat)
  | .amominD rd a b _ rl => some (rd, s.x a, 8, rl == 1, fun old => signedMin 8 old (s.x b).toNat)
  | .amomaxW rd a b _ rl => some (rd, s.x a, 4, rl == 1, fun old => signedMax 4 old (s.x b).toNat)
  | .amomaxD rd a b _ rl => some (rd, s.x a, 8, rl == 1, fun old => signedMax 8 old (s.x b).toNat)
  | .amominuW rd a b _ rl => some (rd, s.x a, 4, rl == 1, fun old => min old ((s.x b).toNat % 2 ^ 32))
  | .amominuD rd a b _ rl => some (rd, s.x a, 8, rl == 1, fun old => min old (s.x b).toNat)
  | .amomaxuW rd a b _ rl => some (rd, s.x a, 4, rl == 1, fun old => max old ((s.x b).toNat % 2 ^ 32))
  | .amomaxuD rd a b _ rl => some (rd, s.x a, 8, rl == 1, fun old => max old (s.x b).toNat)
  | .iaddD rd a b _ => some (rd, s.x a, 8, false, fun old => old + (s.x b).toNat)
  | .iaddW rd a b _ => some (rd, s.x a, 4, false, fun old => old + (s.x b).toNat)
  | .iorD rd a b _ => some (rd, s.x a, 8, false, fun old => old ||| (s.x b).toNat)
  | .iandD rd a b _ => some (rd, s.x a, 8, false, fun old => old &&& (s.x b).toNat)
  | _ => none

/-- A floating-point atomic, with the operation on its lanes (R242). -/
def floatAtomicForm (s : State) : Instr → Option (BitVec 5 × Word × Nat × Bool × (Nat → Nat))
  | .famoAddBf16x2 rd a b _ => some (rd, s.x a, 4, false, fun old => laneOp fmtBf16 2 addExact old (s.x b).toNat)
  | .famoAddF16x2 rd a b _ => some (rd, s.x a, 4, false, fun old => laneOp fmtF16 2 addExact old (s.x b).toNat)
  | .famoAddF32 rd a b _ => some (rd, s.x a, 4, false, fun old => laneOp fmtF32 1 addExact old (s.x b).toNat)
  | .famoAddF64 rd a b _ => some (rd, s.x a, 8, false, fun old => laneOp fmtF64 1 addExact old (s.x b).toNat)
  | .famoMinBf16x2 rd a b _ => some (rd, s.x a, 4, false, fun old => laneOp fmtBf16 2 Fp.minimumNumber old (s.x b).toNat)
  | .famoMinF16x2 rd a b _ => some (rd, s.x a, 4, false, fun old => laneOp fmtF16 2 Fp.minimumNumber old (s.x b).toNat)
  | .famoMinF32 rd a b _ => some (rd, s.x a, 4, false, fun old => laneOp fmtF32 1 Fp.minimumNumber old (s.x b).toNat)
  | .famoMinF64 rd a b _ => some (rd, s.x a, 8, false, fun old => laneOp fmtF64 1 Fp.minimumNumber old (s.x b).toNat)
  | .famoMaxBf16x2 rd a b _ => some (rd, s.x a, 4, false, fun old => laneOp fmtBf16 2 Fp.maximumNumber old (s.x b).toNat)
  | .famoMaxF16x2 rd a b _ => some (rd, s.x a, 4, false, fun old => laneOp fmtF16 2 Fp.maximumNumber old (s.x b).toNat)
  | .famoMaxF32 rd a b _ => some (rd, s.x a, 4, false, fun old => laneOp fmtF32 1 Fp.maximumNumber old (s.x b).toNat)
  | .famoMaxF64 rd a b _ => some (rd, s.x a, 8, false, fun old => laneOp fmtF64 1 Fp.maximumNumber old (s.x b).toNat)
  | _ => none

/-- R31, R241, R268: an atomic of `n` bytes at `va` may be performed as it issues: it is aligned, its bytes are reached,
atomics may reach them, none is poisoned, no outstanding load comes first, the strand's own stores to them drain (every store,
as a release at scope 4, when it is one), and no unit owns one of the lines. `s2` is the state that then holds, in which the
stores of others to the bytes have become visible. -/
structure AtomicReady (s : State) (a : Access) (va : Word) (n : Nat) (rl : Bool) (s2 : State) (locs : List Nat) : Prop where
  ready : s.ready
  now : s.deferred = false
  aligned : va.toNat % n = 0
  reached : ∃ s1 s3, s.reach a va n = .ok (s1, locs) ∧ atomicPlace va locs = true ∧ s1.poisonedAt locs = false ∧
    s1.comesFirst a locs = false ∧ (if rl then s1.fence 4 else s1.drainTo locs) = .ok s3 ∧
    s3.storeHeld s3.here s3.cur locs = none ∧ s2 = s3.raiseSeen s3.here locs

/-- The old value that an atomic reads: what its core reads at the bytes. -/
def oldAt (s : State) (locs : List Nat) : Nat := leNat (locs.map (s.readByte (.core s.here)))

/-- R31, R241: the effect of an atomic that stores: its core reads the new value's bytes at the locations, every agent
reads every other location as before, and the strand retires. -/
def StoredAt (s s2 t : State) (locs : List Nat) (n v : Nat) : Prop :=
  (∀ k, k < n → locs.getD k 0 ∉ locs.take k →
    t.readByte (.core s.here) (locs.getD k 0) = BitVec.ofNat 8 (v / 256 ^ k)) ∧
  (∀ a loc, loc ∉ locs → t.readByte a loc = s2.readByte a loc) ∧ Retired s t 4

/-- R31, R241, R244: an integer atomic reads the old value, stores the new one, and gives rd the old one, a word
sign-extended; in one step. -/
def IntegerAtomics : Prop :=
  ∀ (s s2 : State) (i : Instr) (rd : BitVec 5) (va : Word) (n : Nat) (rl : Bool) (f : Nat → Nat) (locs : List Nat),
    atomicForm s i = some (rd, va, n, rl, f) → AtomicReady s .store va n rl s2 locs →
    Completes i s (fun t =>
      t.x rd = (if rd = 0 then 0 else BitVec.ofInt 64 (asSigned n (oldAt s2 locs))) ∧ (∀ r, r ≠ rd → t.x r = s.x r) ∧
      StoredAt s s2 t locs n (f (oldAt s2 locs)))

/-- R242, R244: a floating-point atomic does the same with the sum, minimumNumber or maximumNumber of each lane, rounded to
nearest with ties to even; vround and vfflags do not change.
Where it rests on the model's own readings and choices: log entries 27 and 48. -/
def Obligations.FloatAtomics : Prop :=
  ∀ (s s2 : State) (i : Instr) (rd : BitVec 5) (va : Word) (n : Nat) (rl : Bool) (f : Nat → Nat) (locs : List Nat),
    floatAtomicForm s i = some (rd, va, n, rl, f) → AtomicReady s .store va n rl s2 locs →
    Completes i s (fun t =>
      t.x rd = (if rd = 0 then 0 else BitVec.ofInt 64 (asSigned n (oldAt s2 locs))) ∧ (∀ r, r ≠ rd → t.x r = s.x r) ∧
      StoredAt s s2 t locs n (f (oldAt s2 locs)) ∧ t.me.vround = s.me.vround ∧ t.me.vfflags = s.me.vfflags)

/-- R243: cas128 reads 16 bytes into the pair rd; they become the pair rs2 where they equalled the pair rd, and stay as they
were otherwise. With use 01 it is illegal. -/
def CompareAndSwap : Prop :=
  ∀ (s s2 : State) (rd rs2 : BitVec 4) (rs1 : BitVec 5) (use : BitVec 2) (locs : List Nat),
    AtomicReady s .store (s.x rs1) 16 false s2 locs →
    (use = 1 → exec (.cas128 rd rs1 rs2 use) s = .next (s.takeTrap s.here s.cur causeIllegal s.currentWord)) ∧
    (use ≠ 1 → Completes (.cas128 rd rs1 rs2 use) s (fun t =>
      let old := oldAt s2 locs
      (rd ≠ 0 → t.x (pairLo rd) = BitVec.ofNat 64 old) ∧ t.x (pairHi rd) = BitVec.ofNat 64 (old / 2 ^ 64) ∧ t.x 0 = 0 ∧
      (∀ r, r ≠ pairLo rd → r ≠ pairHi rd → t.x r = s.x r) ∧
      (old = s.pair rd → StoredAt s s2 t locs 16 (s.pair rs2)) ∧
      (old ≠ s.pair rd → Retired s t 4 ∧ ∀ a loc, t.readByte a loc = s2.readByte a loc)))

/-- A load-reserved: the register it writes, its address, its bytes, and whether it releases. -/
def reserveForm (s : State) : Instr → Option (BitVec 5 × Word × Nat × Bool)
  | .lrW rd a _ rl => some (rd, s.x a, 4, rl == 1)
  | .lrD rd a _ rl => some (rd, s.x a, 8, rl == 1)
  | _ => none

/-- A store-conditional: the register it writes, its address, its bytes, whether it releases, and the value. -/
def conditionalForm (s : State) : Instr → Option (BitVec 5 × Word × Nat × Bool × Nat)
  | .scW rd a b _ rl => some (rd, s.x a, 4, rl == 1, (s.x b).toNat)
  | .scD rd a b _ rl => some (rd, s.x a, 8, rl == 1, (s.x b).toNat)
  | _ => none

/-- R31: a load-reserved reads its bytes and gives the strand the one reservation, on the line of the address; memory stays
as it was. -/
def LoadReserved : Prop :=
  ∀ (s s2 : State) (i : Instr) (rd : BitVec 5) (va : Word) (n : Nat) (rl : Bool) (locs : List Nat),
    reserveForm s i = some (rd, va, n, rl) → AtomicReady s .load va n rl s2 locs →
    Completes i s (fun t =>
      t.x rd = (if rd = 0 then 0 else BitVec.ofInt 64 (asSigned n (oldAt s2 locs))) ∧ (∀ r, r ≠ rd → t.x r = s.x r) ∧
      t.reservation s.here s.cur = some (locs.headD 0 / 256) ∧
      (∀ c j, ¬(c = s.here ∧ j = s.cur) → t.reservation c j = s2.reservation c j) ∧
      Retired s t 4 ∧ ∀ a loc, t.readByte a loc = s2.readByte a loc)

/-- R31: a store-conditional stores and gives rd 0 where the strand's reservation stands on the line, and else gives rd 1
and stores nothing; the reservation is gone in either case. -/
def StoreConditional : Prop :=
  ∀ (s s2 : State) (i : Instr) (rd : BitVec 5) (va : Word) (n : Nat) (rl : Bool) (v : Nat) (locs : List Nat),
    conditionalForm s i = some (rd, va, n, rl, v) → AtomicReady s .store va n rl s2 locs →
    Completes i s (fun t =>
      t.reservation s.here s.cur = none ∧ (∀ r, r ≠ rd → t.x r = s.x r) ∧
      (s2.reservation s.here s.cur = some (locs.headD 0 / 256) →
        t.x rd = 0 ∧ StoredAt s s2 t locs n v) ∧
      (s2.reservation s.here s.cur ≠ some (locs.headD 0 / 256) →
        t.x rd = (if rd = 0 then 0 else 1) ∧ Retired s t 4 ∧ ∀ a loc, t.readByte a loc = s2.readByte a loc))

/-- The alignment that an atomic, load-reserved or store-conditional needs, its address, and the exception it raises
without it (R31, R241, R243). -/
def atomicAlignment (s : State) (i : Instr) : Option (Word × Nat × Word) :=
  match atomicForm s i, floatAtomicForm s i, reserveForm s i, conditionalForm s i with
  | some (_, va, n, _, _), _, _, _ => some (va, n, 6)
  | _, some (_, va, n, _, _), _, _ => some (va, n, 6)
  | _, _, some (_, va, n, _), _ => some (va, n, 4)
  | _, _, _, some (_, va, n, _, _) => some (va, n, 6)
  | _, _, _, _ =>
    match i with
    | .cas128 _ a _ use => if use = 1 then none else some (s.x a, 16, 6)
    | _ => none

/-- R31, R241, R243, R326: an atomic whose address is not naturally aligned raises the misaligned exception of a store (of
a load, for a load-reserved) and does nothing else. -/
def MisalignedAtomics : Prop :=
  ∀ (s : State) (i : Instr) (va : Word) (n : Nat) (cause : Word), atomicAlignment s i = some (va, n, cause) →
    s.me.pp = false → va.toNat % n ≠ 0 → exec i s = .next (s.takeTrap s.here s.cur cause va)

/-! ## Control and status registers (R44-R49, R183, R328) -/

/-- A CSR instruction: rd, the register, whether it writes, and the value it writes for an old one (R46). -/
def csrForm (s : State) : Instr → Option (BitVec 5 × BitVec 12 × Bool × (Word → Word))
  | .csrrw rd rs1 a => some (rd, a, true, fun _ => s.x rs1)
  | .csrrs rd rs1 a => some (rd, a, rs1 != 0, fun old => old ||| s.x rs1)
  | .csrrc rd rs1 a => some (rd, a, rs1 != 0, fun old => old &&& ~~~s.x rs1)
  | .csrrwi rd a u => some (rd, a, true, fun _ => BitVec.ofNat 64 u.toNat)
  | .csrrsi rd a u => some (rd, a, u != 0, fun old => old ||| BitVec.ofNat 64 u.toNat)
  | .csrrci rd a u => some (rd, a, u != 0, fun old => old &&& ~~~BitVec.ofNat 64 u.toNat)
  | _ => none

/-- R46, R358: a CSR instruction that the strand may execute, and whose access the counters' rule performs, gives rd the old
value and the register the new one, and retires; no byte of memory changes. -/
def CsrInstructions : Prop :=
  ∀ (s : State) (i : Instr) (rd : BitVec 5) (a : BitVec 12) (writes : Bool) (f : Word → Word),
    csrForm s i = some (rd, a, writes, f) → s.ready → s.csrAllowed s.here s.cur a writes = true →
    let old := s.readCsr s.here s.cur a
    s.counterFate s.here s.cur a (if writes then some (f old) else none) = .performed →
    Completes i s (fun t =>
      t = ((if writes then s.writeCsr s.here s.cur a (f old) else s).writeX rd old).retire 4 ∧
      t.x rd = (if rd = 0 then 0 else old) ∧ (∀ r, r ≠ rd → t.x r = s.x r) ∧ MemoryKept s t)

/-- R25, R46: a CSR instruction that names a register the core does not have, one of a higher privilege, a read-only
register that it would write, or a counter that is not enabled for the strand, is illegal. -/
def CsrIllegal : Prop :=
  ∀ (s : State) (i : Instr) (rd : BitVec 5) (a : BitVec 12) (writes : Bool) (f : Word → Word),
    csrForm s i = some (rd, a, writes, f) → s.me.pp = false →
    s.csrExists s.here a = false ∨ s.me.priv.rank < a.toNat / 256 % 4 ∨ (writes = true ∧ a.toNat / 1024 = 3) ∨
      (a.toNat = 0xC00 ∧ s.me.priv = .user ∧ s.myCore.scounteren.getLsbD 0 = false) ∨
      (a.toNat = 0xC01 ∧ s.me.priv = .user ∧ s.myCore.scounteren.getLsbD 1 = false) ∨
      (a.toNat = 0xC02 ∧ s.me.priv = .user ∧ s.myCore.scounteren.getLsbD 2 = false) →
    exec i s = .next (s.takeTrap s.here s.cur causeIllegal s.currentWord)

/-- What a register of the strand, the core or the cluster reads after a write of `v` over a reading `old`: its writable
fields hold the value (R44, R45, R48, R49, R183, R232, R328, R361). On a server core a write of sie reaches the delegated
bits of mie. -/
def csrAfter (server : Bool) (mideleg : Word) (a : Nat) (old v : Word) : Option Word :=
  match a with
  | 0x800 => some (if v.toNat % 8 ≤ 4 then v &&& 7 else old)
  | 0x801 => some (v &&& 0x1F)
  | 0x802 => some (v &&& 0xFFFF3FF30F)
  | 0x803 => some v
  | 0x804 => some v
  | 0x805 => some v
  | 0x806 => some v
  | 0x807 => some v
  | 0x808 => some v
  | 0x5C0 => some (v &&& 1)
  | 0x5C1 => some ((v &&& 0xFFFF8F80) ||| 0x300B)
  | 0x5C2 => some (v &&& 0xF)
  | 0x5C3 => some (if v = 0 then 1 else if 64 < v.toNat then 64 else v)
  | 0x5C4 => some v
  | 0x7C0 => some v
  | 0x7C1 => some v
  | 0x7C2 => some v
  | 0x7C3 => some v
  | 0x7C4 => some (v &&& 0xFFFFFFFFFFFFFF03)
  | 0x5C5 => some (v &&& 0x1FF)
  | 0x5C6 => some (v &&& 0x1FF)
  | 0x5C7 => some (v &&& 0x1FF)
  | 0x5C8 => some (v &&& 0x1FF)
  | 0x100 => some (v &&& 0xC0122)
  | 0x104 => some (if server then (old &&& ~~~0x70220#64) ||| (v &&& 0x70220 &&& mideleg) else v &&& 0x70220)
  | 0x105 => some v
  | 0x106 => some (v &&& 7)
  | 0x140 => some v
  | 0x141 => some (v &&& 0xFFFFFF0001FFFFFF)
  | 0x142 => some v
  | 0x143 => some v
  | 0x180 => some (if v.toNat / 2 ^ 60 = 0 ∨ v.toNat / 2 ^ 60 = 9 then v else old)
  | 0x302 => some (v &&& 0x000F0000FF00A0F4)
  | 0x303 => some (v &&& 0x70220)
  | 0x304 => some (v &&& 0x702A0)
  | 0x305 => some v
  | 0x306 => some (v &&& 7)
  | 0x340 => some v
  | 0x341 => some (v &&& 0xFFFFFF0001FFFFFF)
  | 0x342 => some v
  | 0x343 => some v
  | _ => none

/-- R44, R45, R49, R183, R232, R328: a register that the core has takes a write, by an agent other than an instruction too:
it then reads as its writable fields say, and no x register, no other strand and no byte of memory changes. -/
def RegisterWrites : Prop :=
  ∀ (s : State) (c j : Nat) (a : BitVec 12) (v w : Word), j < 11 → s.csrExists c a = true →
    csrAfter (s.isServer c) (s.strand c j).mideleg a.toNat (s.readCsr c j a) v = some w →
    Completes (.registerWrite c j a v) s (fun t =>
      t.readCsr c j a = w ∧ (∀ d k r, (t.strand d k).readX r = (s.strand d k).readX r) ∧
      (∀ d k, ¬(d = c ∧ k = j) → t.strand d k = s.strand d k) ∧ MemoryKept s t)

/-- R31, R241, R243, R244: the integer atomics, cas128, and what a misaligned address comes to.
Where it rests on the model's own readings and choices: log entries 20, 26 and 27. -/
def Obligations.Atomics : Prop := IntegerAtomics ∧ CompareAndSwap ∧ MisalignedAtomics

/-- R31: lr and sc.
Where it rests on the model's own readings and choices: log entries 26 and 30. -/
def Obligations.Reservations : Prop := LoadReserved ∧ StoreConditional

/-- R44-R48, R328, R358: reading and writing the registers, and the accesses that are illegal.
Where it rests on the model's own readings and choices: log entries 17, 18 and 118. -/
def Obligations.Registers : Prop := CsrInstructions ∧ CsrIllegal ∧ RegisterWrites

/-! ## Traps, returns and interrupts (R24-R28, R33, R326-R330, R336, R360) -/

/-- R328: what a strand holds after it has entered a handler of level machine or supervisor: the interrupted position, the
cause and the value, its privilege and interrupt enable in the status, the interrupts of the level off, no pending prefix, the
handler's data base in gp, and its place, the start of the function of directory index `dir`. -/
def EnteredLevel (s : State) (c i : Nat) (machine : Bool) (cause tval gp : Word) (dir : Nat) (t : Strand) : Prop :=
  let u := s.strand c i
  let pos : Word := BitVec.ofNat 64
    (u.curdir.toNat * 2 ^ 40 + (if (s.formDig c i).1 = some .native then 2 ^ 24 else 0) + u.fpc.toNat)
  t.pp = false ∧ t.park = none ∧ t.readX 3 = gp ∧ (∀ r, r ≠ 3 → t.readX r = u.readX r) ∧ t.v = u.v ∧ t.p = u.p ∧
  t.kpfx = u.kpfx ∧ t.curdir = BitVec.ofNat 24 dir ∧ t.fpc = 0 ∧
  (if machine then
    t.priv = .machine ∧ t.mepc = pos ∧ t.mcause = cause ∧ t.mtval = tval ∧
    field t.mstatus 11 2 = u.priv.code ∧ t.mstatus.getLsbD 7 = u.mstatus.getLsbD 3 ∧ t.mstatus.getLsbD 3 = false ∧
    (∀ b, b ≠ 3 → b ≠ 7 → b ≠ 11 → b ≠ 12 → t.mstatus.getLsbD b = u.mstatus.getLsbD b) ∧
    t.sepc = u.sepc ∧ t.scause = u.scause ∧ t.stval = u.stval
  else
    t.priv = .supervisor ∧ t.sepc = pos ∧ t.scause = cause ∧ t.stval = tval ∧
    field t.mstatus 8 1 = u.priv.code % 2 ∧ t.mstatus.getLsbD 5 = u.mstatus.getLsbD 1 ∧ t.mstatus.getLsbD 1 = false ∧
    (∀ b, b ≠ 1 → b ≠ 5 → b ≠ 8 → t.mstatus.getLsbD b = u.mstatus.getLsbD b) ∧
    t.mepc = u.mepc ∧ t.mcause = u.mcause ∧ t.mtval = u.mtval)

/-- R328, R332: a trap, other than one below the mapped part of a stack (R70), goes to machine mode only on a server core and
where it is not delegated. When its trap line is written and the handler's record passes its checks, the strand has entered the
level at the start of the handler, its form's line (kstat.PP, kpfx, the form's digest and gp) has joined its store buffer, and gp
is the data base of the handler's module: it stands in the handler's form when the shelf holds it, and else on the miss of a
fetch, which the handler's record starts. When the fetch is not permitted, the vector is 0 or the line cannot be translated, the
launch is discarded.
Where it rests on the model's own readings and choices: log entries 15 and 68. -/
def Obligations.TrapEntry : Prop :=
  ∀ (s : State) (c i : Nat) (cause tval : Word), i < 11 → s.stackFault c cause tval = none →
    let q := s.disarm c i
    let u := s.strand c i
    let machine := s.isServer c &&
      (u.priv == .machine ||
        !(if cause.getLsbD 63 then u.mideleg else u.medeleg).getLsbD (cause.toNat % 64))
    let line := u.ctxbase + (if machine then 0x740 else 0x700)
    let tvec := if machine then u.mtvec else u.stvec
    (∀ s1 s2 locs, q.translate (q.deviceCtx c) .store line 56 = .ok (s1, locs) → s1.onDie locs = .ok s2 →
      let cells := locs.zip
        (leBytes 8 u.pp.toNat ++ leBytes 8 u.kpfx.toNat ++ leBytes 32 (s.formDig c i).2.toNat ++ leBytes 8 (u.readX 3).toNat)
      let s3 := (s2.levelEntered c i machine cause tval).modStrand c i (fun t => (t.pushStore cells).closeWindows)
      (tvec = 0 → s.takeTrap c i cause tval = s3.discardFor c i cause) ∧
      (∀ s4 s5 r gp, tvec ≠ 0 → s3.checkHandle (s3.xctx c i) i tvec = .ok (s4, r) →
        s4.dataBase (s3.xctx c i) i r = .ok (s5, gp) →
        let entered := fun (t : State) => s.takeTrap c i cause tval = t ∧
          EnteredLevel s c i machine cause tval gp (recDirIdx r) (t.strand c i) ∧
          (t.strand c i).storeBuf = u.storeBuf ++ [Store.mk cells false]
        match (s5.cluster (clusterOf c)).lookup (recDigest r) (s5.core c).vfNow with
        | some (e, _) => ∃ t, entered t ∧ (t.strand c i).pos = .inForm e
        | none =>
          match (s5.modStrand c i (·.writeX 3 gp)).startFetch c (recDigest r) (recPortOnly r) none with
          | .ok _ => ∃ t, entered t ∧ (t.strand c i).pos =
              .miss { digest := recDigest r, resume := .entry, saved := s.savedPos c i, handler := some cause, counts := false }
          | .error s6 => s.takeTrap c i cause tval = s6.discardFor c i cause)) ∧
    (∀ f, q.translate (q.deviceCtx c) .store line 56 = .error f →
      s.takeTrap c i cause tval = (q.levelEntered c i machine cause tval).discardFor c i cause)

/-- The return instructions, with the level that they return from and whether the strand may execute them (R329). -/
def returnForm (s : State) : Instr → Option (Bool × Bool)
  | .sret => some (false, s.me.priv != .user && !(s.me.priv == .supervisor && s.me.mstatus.getLsbD 22))
  | .mret => some (true, s.me.priv == .machine)
  | _ => none

/-- R329: sret and mret, where the strand may execute them, the function's record passes its checks and an accepted form is
resident, go on at the saved position with the saved privilege, interrupt enable, prefix and gp; else, in a mode that may
not return from the level, they are illegal.
Where it rests on the model's own readings and choices: log entries 19 and 118. -/
def Obligations.TrapReturn : Prop :=
  ∀ (s : State) (i : Instr) (machine allowed : Bool), returnForm s i = some (machine, allowed) → s.ready →
    (allowed = false → exec i s = .next (s.takeTrap s.here s.cur causeIllegal s.currentWord)) ∧
    (allowed = true → ∀ s1 s2 line r e d,
      let p := if machine then s.me.mepc else s.me.sepc
      let st := s.me.mstatus
      let dig := BitVec.ofNat 256 (recNat line 0x10 32)
      let kind := if p.getLsbD 24 then FormKind.native else FormKind.portable
      s.readData (s.deviceCtx s.here) s.cur (s.me.ctxbase + (if machine then 0x740 else 0x700)) 56 = .ok (s1, line) →
      s1.returnRecord (s1.xctx s.here s.cur) s.cur (p.toNat / 2 ^ 40) none p = .ok (s2, r) →
      (s2.cluster (clusterOf s.here)).lookup (recDigest r) (s2.core s.here).vfNow = some (e, d) →
      (dig ≠ 0 → d.kind = kind ∧ d.content = dig) →
      Completes i s (fun t =>
        t.me.fpc = BitVec.ofNat 24 p.toNat ∧ t.me.curdir = BitVec.ofNat 24 (p.toNat / 2 ^ 40) ∧ t.me.pos = .inForm e ∧
        t.me.instret = s.me.instret + 1 ∧ t.me.park = none ∧ t.me.pp = (line.headD 0).getLsbD 0 ∧
        t.me.kpfx = (BitVec.ofNat 32 (recNat line 8 4) &&& 0xFFFF8F80) ||| 0x300B ∧ t.x 3 = BitVec.ofNat 64 (recNat line 0x30 8) ∧
        (∀ q, q ≠ 3 → t.x q = s.x q) ∧
        (if machine then
          t.me.priv = (if field st 11 2 = 1 then .supervisor else if field st 11 2 = 3 then .machine else .user) ∧
          t.me.mstatus.getLsbD 3 = st.getLsbD 7 ∧ t.me.mstatus.getLsbD 7 = true ∧ field t.me.mstatus 11 2 = 0
        else
          t.me.priv = (if st.getLsbD 8 then .supervisor else .user) ∧
          t.me.mstatus.getLsbD 1 = st.getLsbD 5 ∧ t.me.mstatus.getLsbD 5 = true ∧ t.me.mstatus.getLsbD 8 = false)))

/-- R327, R328, R330, R336, R360: off a server core a strand takes the first of codes 17, 18, 16, 9, 7, 5 that is pending at
it and enabled: sie holds its bit, and the strand runs in user mode, or in supervisor mode with SIE set. -/
def InterruptChoice : Prop :=
  ∀ (s : State) (c i n : Nat), s.isServer c = false →
    let u := s.strand c i
    let k := s.core c
    let pending : Nat → Prop := fun m =>
      (if m = 16 then i = 0 ∧ k.ovf ≠ 0 ∧ u.status = .live
      else if m = 17 then (k.refusalFor i).isSome = true
      else u.ip.getLsbD m = true)
    let takes : Nat → Prop := fun m =>
      pending m ∧ u.sie.getLsbD m = true ∧ (u.priv = .user ∨ (u.priv = .supervisor ∧ u.mstatus.getLsbD 1 = true))
    (s.interruptFor c i = some n ↔ takes n ∧ n ∈ [17, 18, 16, 9, 7, 5] ∧
      ∀ m, m ∈ ([17, 18, 16, 9, 7, 5].takeWhile (· ≠ n)) → ¬ takes m)

/-- The interrupts that arrive at a strand of a core, with their codes. -/
def arrivalForm : Instr → Option (Nat × Nat × Nat)
  | .timerInterrupt c i machine => some (c, i, if machine then 7 else 5)
  | .externalInterrupt c i => some (c, i, 9)
  | _ => none

/-- R326, R327, R328: a timer or external interrupt becomes pending; a strand at an instruction boundary, or in a wait that
an interrupt ends, whose core is stopped neither for debugging nor for a switch of worlds, takes the first that is enabled at once, with cause 2^63 plus its code, and that one is pending no more;
else it stays pending and nothing else changes. -/
def InterruptArrival : Prop :=
  ∀ (s : State) (j : Instr) (c i code : Nat), arrivalForm j = some (c, i, code) → i < 11 →
    let u := s.modStrand c i (fun t => { t with ip := t.ip ||| BitVec.ofNat 64 (2 ^ code) })
    let may := (u.strand c i).atBoundary && u.vqredBetween c i && !(u.core c).debugStopped && !(u.core c).stopping
    (may = false ∨ u.interruptFor c i = none → exec j s = .next u ∧ (u.strand c i).ip.getLsbD code = true) ∧
    (may = true → u.interruptFor c i = some code →
      ∃ w : State, exec j s = .next (w.takeTrap c i (BitVec.ofNat 64 (2 ^ 63 + code)) 0) ∧
        (w.strand c i).ip.getLsbD code = false ∧ (∀ b, b ≠ code → (w.strand c i).ip.getLsbD b = (u.strand c i).ip.getLsbD b))

/-- The interrupts that are pending at a strand and are delivered, with their codes and what they report (R326). -/
def deliveryForm (s : State) : Instr → Option (Nat × Nat × Nat × Nat)
  | .counterOverflowInterrupt c => some (c, 0, 16, (lowestBit (s.core c).ovf).getD 0)
  | .remoteRefusalInterrupt c index =>
    (mapFind (s.core c).journal index.toNat).map (fun e =>
      let i := (s.core c).refusalTarget e
      (c, i, 17, ((s.core c).refusalFor i).getD 0))
  | .preemptionRequest c i => some (c, i, 18, 0)
  | _ => none

/-- R326, R330, R336, R360: a pending overflow, refusal or pre-emption request that its strand takes next is taken, with
cause 2^63 plus its code: the lowest pending overflow bit is cleared and reported, the lowest refused journal entry is
delivered and reported, the request is pending no more and the strand's reservation is gone. -/
def InterruptDelivery : Prop :=
  ∀ (s : State) (j : Instr) (c i code tval : Nat), deliveryForm s j = some (c, i, code, tval) → i < 11 →
    (s.strand c i).atBoundary = true → s.vqredBetween c i = true → (s.core c).debugStopped = false →
    (s.core c).stopping = false → s.interruptFor c i = some code →
    ∃ w : State, exec j s = .next (w.takeTrap c i (BitVec.ofNat 64 (2 ^ 63 + code)) (BitVec.ofNat 64 tval)) ∧
      (code = 16 → ∀ b, (w.core c).ovf.getLsbD b = ((s.core c).ovf.getLsbD b && b != tval)) ∧
      (code = 17 → ∀ n e, (n, e) ∈ (w.core c).journal ↔ ∃ e0, (n, e0) ∈ (s.core c).journal ∧
        e = (if n = tval then { e0 with delivered := true } else e0)) ∧
      (code = 18 → (w.strand c i).ip.getLsbD 18 = false ∧ w.reservation c i = none)

/-- R24, R25, R28: at the end of a form the code-bound exception reports FPC; a word that is no instruction raises the
illegal-instruction exception, which reports the word, and no prefix is pending any more. -/
def Obligations.FormEndAndIllegalWords : Prop :=
  ∀ (s : State) (w : BitVec 32),
    exec .formEndReached s = .next (s.takeTrap s.here s.cur causeCodeBound (BitVec.ofNat 64 s.me.fpc.toNat)) ∧
    exec (.illegalWord w) s =
      .next ((s.modMe (fun t => { t with pp := false })).takeTrap s.here s.cur causeIllegal (BitVec.ofNat 64 w.toNat))

/-- R33, R336: wfi goes on when an interrupt of sie or mie is pending, whatever the global enables hold; else it waits in a
mode that may wait, and is illegal in one that may not. -/
def WaitForInterrupt : Prop :=
  ∀ (s : State), s.me.pp = false →
    let wakes := s.pendingBits s.here s.cur &&& (if s.isServer s.here then s.me.mie else s.me.sie ||| s.me.mie)
    (wakes ≠ 0 → exec .wfi s = .next (s.retire 4)) ∧
    (wakes = 0 → s.me.priv = .machine ∨ (s.me.priv = .supervisor ∧ s.me.mstatus.getLsbD 21 = false) →
      exec .wfi s = .next (s.modMe (fun t => { t with park := some .wfi }))) ∧
    (wakes = 0 → s.me.priv = .user ∨ (s.me.priv = .supervisor ∧ s.me.mstatus.getLsbD 21 = true) →
      exec .wfi s = .next (s.takeTrap s.here s.cur causeIllegal s.currentWord))

/-- R33: in a mode above user, sfence.vma drops from the core's TLB and its bench's the translations of the strand's virtual
function that match the page of rs1, when it is not x0, and the address space of rs2, when it is not x0 (which no global
translation does), and no other; in a mode that may not execute it, it is illegal. -/
def TranslationFence : Prop :=
  ∀ (s : State) (rs1 rs2 : BitVec 5), s.ready →
    (s.me.priv = .user ∨ (s.me.priv = .supervisor ∧ s.me.mstatus.getLsbD 20 = true) →
      exec (.sfenceVma rs1 rs2) s = .next (s.takeTrap s.here s.cur causeIllegal s.currentWord)) ∧
    (s.me.priv = .machine ∨ (s.me.priv = .supervisor ∧ s.me.mstatus.getLsbD 20 = false) →
      let dropped : TlbEntry → Prop := fun e =>
        e.vf = s.myCore.vfNow ∧ (rs1 ≠ 0 → e.vpn = (s.x rs1).toNat % 2 ^ 48 / 2 ^ e.sizeBits) ∧
        (rs2 ≠ 0 → e.global = false ∧ e.asid = BitVec.ofNat 16 (s.x rs2).toNat)
      Completes (.sfenceVma rs1 rs2) s (fun t =>
        (∀ e, e ∈ (t.core s.here).tlb ↔ e ∈ (s.core s.here).tlb ∧ ¬ dropped e) ∧
        (∀ e, e ∈ (t.bench (benchOf s.here)).tlb ↔ e ∈ (s.bench (benchOf s.here)).tlb ∧ ¬ dropped e) ∧
        (∀ e, e ∈ (t.bench (benchOf s.here)).pipeTlb ↔ e ∈ (s.bench (benchOf s.here)).pipeTlb ∧ ¬ dropped e) ∧
        (∀ r, t.x r = s.x r) ∧ Retired s t 4 ∧ MemoryKept s t))

/-- R327, R328, R336, R360: interrupts: which one is taken, how it arrives, and what delivery leaves.
Where it rests on the model's own readings and choices: log entries 16, 67 and 116. -/
def Obligations.Interrupts : Prop := InterruptChoice ∧ InterruptArrival ∧ InterruptDelivery

/-- R33, R234: wfi and sfence.vma.
Where it rests on the model's own readings and choices: log entry 118. -/
def Obligations.PrivilegedInstructions : Prop := WaitForInterrupt ∧ TranslationFence

/-! ## Vector, predicate and permute instructions (R107, R110, R147-R178) -/

/-- R107, R163: a vector instruction that executes at once: the v lines it names are in the register cache, which leaves
`s1`; the strand becomes `u`, one vector instruction is counted, and it retires. -/
def VectorDone (i : Instr) (s s1 : State) (u : Strand) : Prop :=
  exec i s = .next (((s1.setMe u).countEvent s.here evVector 1).retire 4)

/-- R107, R176: behind a vqred that waits at the head of the core's queue, a vector instruction joins the queue and retires; it
waits while 8 entries stand there. -/
def VectorBehind (i : Instr) (s s1 : State) : Prop :=
  s.vqredAhead = true →
    ((s1.core s.here).vqueue.length < 8 → Completes i s (fun t =>
      ∃ e : VEntry, e.instr = i ∧ e.strand = s.cur ∧ e.rm = s.me.vround ∧
        (t.core s.here).vqueue = (s1.core s.here).vqueue ++ [e] ∧ t.me.v = s1.me.v ∧ t.me.p = s1.me.p ∧
        (∀ r, t.x r = s.x r) ∧ Retired s t 4)) ∧
    (8 ≤ (s1.core s.here).vqueue.length →
      exec i s = .next (s1.modStrand s.here s.cur (fun t => { t with park := some .vectorQueue })))

/-- Of the strand, only v register `vd` has changed, become dirty and lost its poison (R110, R229). -/
def OnlyV (t u : Strand) (vd : BitVec 5) : Prop :=
  u = { t with
    v := u.v, vDirty := t.vDirty ||| (1#32 <<< vd.toNat), vPoison := t.vPoison &&& ~~~(1#32 <<< vd.toNat) } ∧
  ∀ r, r ≠ vd → u.readV r = t.readV r

/-- The signed value of an unsigned one of `w` bits. -/
def signedOfBits (w a : Nat) : Int := (a : Int).bmod (2 ^ w)

/-- An instruction that writes a v register element by element: the register, the v registers it names, the bytes of an
element, and the value of element `i` modulo its width, from the x operands and the v and p registers before (R161, R164,
R175). -/
def elementForm (s : State) (t : Strand) : Instr → Option (BitVec 5 × List (BitVec 5) × Nat × (Nat → Int))
  | .vadd vd a b pg et => some (vd, [vd, a, b], 2 ^ et.toNat, govern pg et vd (fun i => e a et i + e b et i))
  | .vsub vd a b pg et => some (vd, [vd, a, b], 2 ^ et.toNat, govern pg et vd (fun i => e a et i - e b et i))
  | .vmul vd a b pg et => some (vd, [vd, a, b], 2 ^ et.toNat, govern pg et vd (fun i => e a et i * e b et i))
  | .vmulh vd a b pg et =>
    some (vd, [vd, a, b], 2 ^ et.toNat, govern pg et vd (fun i => sg a et i * sg b et i / 2 ^ (8 * 2 ^ et.toNat)))
  | .vmulhn vd a b pg et =>
    some (vd, [vd, a, b], 2 ^ et.toNat, govern pg et vd (fun i => e a et i * e b et i / 2 ^ (8 * 2 ^ et.toNat)))
  | .vand vd a b pg et => some (vd, [vd, a, b], 2 ^ et.toNat, govern pg et vd (fun i => (nat a et i &&& nat b et i : Nat)))
  | .vor vd a b pg et => some (vd, [vd, a, b], 2 ^ et.toNat, govern pg et vd (fun i => (nat a et i ||| nat b et i : Nat)))
  | .vxor vd a b pg et => some (vd, [vd, a, b], 2 ^ et.toNat, govern pg et vd (fun i => (nat a et i ^^^ nat b et i : Nat)))
  | .vshl vd a b pg et =>
    some (vd, [vd, a, b], 2 ^ et.toNat, govern pg et vd (fun i => if nat b et i < 8 * 2 ^ et.toNat then e a et i * 2 ^ nat b et i else 0))
  | .vshr vd a b pg et =>
    some (vd, [vd, a, b], 2 ^ et.toNat, govern pg et vd (fun i => if nat b et i < 8 * 2 ^ et.toNat then e a et i / 2 ^ nat b et i else 0))
  | .vsra vd a b pg et =>
    some (vd, [vd, a, b], 2 ^ et.toNat, govern pg et vd (fun i => sg a et i / 2 ^ min (nat b et i) (8 * 2 ^ et.toNat - 1)))
  | .vmin vd a b pg et => some (vd, [vd, a, b], 2 ^ et.toNat, govern pg et vd (fun i => min (sg a et i) (sg b et i)))
  | .vmax vd a b pg et => some (vd, [vd, a, b], 2 ^ et.toNat, govern pg et vd (fun i => max (sg a et i) (sg b et i)))
  | .vminn vd a b pg et => some (vd, [vd, a, b], 2 ^ et.toNat, govern pg et vd (fun i => min (e a et i) (e b et i)))
  | .vmaxn vd a b pg et => some (vd, [vd, a, b], 2 ^ et.toNat, govern pg et vd (fun i => max (e a et i) (e b et i)))
  | .vadds vd a b pg et =>
    some (vd, [vd, a, b], 2 ^ et.toNat, govern pg et vd (fun i =>
      max (-(2 ^ (8 * 2 ^ et.toNat - 1))) (min (2 ^ (8 * 2 ^ et.toNat - 1) - 1) (sg a et i + sg b et i))))
  | .vaddi vd a pg imm et => some (vd, [vd, a], 2 ^ et.toNat, govern pg et vd (fun i => e a et i + imm.toInt))
  | .vshli vd a pg imm et => some (vd, [vd, a], 2 ^ et.toNat, govern pg et vd (fun i => e a et i * 2 ^ imm.toNat))
  | .vshri vd a pg imm et => some (vd, [vd, a], 2 ^ et.toNat, govern pg et vd (fun i => e a et i / 2 ^ imm.toNat))
  | .vsrai vd a pg imm et => some (vd, [vd, a], 2 ^ et.toNat, govern pg et vd (fun i => sg a et i / 2 ^ imm.toNat))
  | .vcnt vd a pg et =>
    some (vd, [vd, a], 2 ^ et.toNat, govern pg et vd (fun i =>
      ((List.range (8 * 2 ^ et.toNat)).countP (fun b => (nat a et i).testBit b) : Nat)))
  | .vclz vd a pg et =>
    some (vd, [vd, a], 2 ^ et.toNat, govern pg et vd (fun i =>
      if nat a et i = 0 then (8 * 2 ^ et.toNat : Nat) else (8 * 2 ^ et.toNat - 1 - Nat.log2 (nat a et i) : Nat)))
  | .vsel vd a b pg et => some (vd, [vd, a, b], 2 ^ et.toNat, fun i => if act pg et i then e a et i else e b et i)
  | .vmovi vd pg imm et => some (vd, [vd], 2 ^ et.toNat, govern pg et vd (fun _ => imm.toInt))
  | .vmacc vd a b pg et =>
    some (vd, [vd, a, b], 2 ^ et.toNat, govern pg et vd (fun i => e vd et i + e a et i * e b et i))
  | .vbcast vd r w => some (vd, [vd], 2 ^ w.toNat, fun _ => ((s.x r).toNat : Int))
  | .vins vd r q w => some (vd, [vd], 2 ^ w.toNat, fun i => if i = (s.x q).toNat then ((s.x r).toNat : Int) else e vd w i)
  | .vperm vd a b w =>
    some (vd, [vd, a, b], 2 ^ w.toNat, fun i => if nat b w i < 256 / 2 ^ w.toNat then e a w (nat b w i) else 0)
  | .vslideup vd a q w =>
    some (vd, [vd, a], 2 ^ w.toNat, fun i => if (s.x q).toNat ≤ i then e a w (i - (s.x q).toNat) else 0)
  | .vslidedn vd a q w =>
    some (vd, [vd, a], 2 ^ w.toNat, fun i => if i + (s.x q).toNat < 256 / 2 ^ w.toNat then e a w (i + (s.x q).toNat) else 0)
  | .vzip vd a b w => some (vd, [vd, a, b], 2 ^ w.toNat, fun i => if i % 2 = 0 then e a w (i / 2) else e b w (i / 2))
  | .vunzip vd a w =>
    some (vd, [vd, a], 2 ^ w.toNat, fun i =>
      let h := 256 / 2 ^ w.toNat / 2
      if i < h then e a w (2 * i) else e a w (2 * (i - h) + 1))
  | .vrev vd a w => some (vd, [vd, a], 2 ^ w.toNat, fun i => e a w (256 / 2 ^ w.toNat - 1 - i))
  | .vcompress vd a ps w =>
    some (vd, [vd, a], 2 ^ w.toNat, fun i =>
      ((((List.range (256 / 2 ^ w.toNat)).filter (fun j => (t.readP ps).getLsbD (j * 2 ^ w.toNat))).map
        (fun j => nat a w j)).getD i 0 : Nat))
  | .vmv vd a w => some (vd, [vd, a], 2 ^ w.toNat, fun i => e a w i)
  | _ => none
where
  /-- Element `i` of a register, unsigned, as a number and as an integer, and signed. -/
  nat (r : BitVec 5) (et : BitVec 2) (i : Nat) : Nat :=
    ((t.readV r).toNat / 2 ^ (8 * 2 ^ et.toNat * i)) % 2 ^ (8 * 2 ^ et.toNat)
  e (r : BitVec 5) (et : BitVec 2) (i : Nat) : Int := (nat r et i : Int)
  sg (r : BitVec 5) (et : BitVec 2) (i : Nat) : Int := signedOfBits (8 * 2 ^ et.toNat) (nat r et i)
  /-- Is element `i` active under the governing predicate? -/
  act (pg et : BitVec 2) (i : Nat) : Bool := (t.readP (pg.setWidth 3)).getLsbD (i * 2 ^ et.toNat)
  /-- The value of an active element, and the old value of an inactive one. -/
  govern (pg et : BitVec 2) (vd : BitVec 5) (f : Nat → Int) (i : Nat) : Int := if act pg et i then f i else e vd et i

/-- R107, R150, R161, R164, R175: an integer vector or permute instruction gives each element of vd its value, whatever the
element size, the sources and the predicate; no other register changes, and no flag. Behind a vqred that waits, it joins the
queue.
Where it rests on the model's own readings and choices: log entry 5. -/
def Obligations.VectorElements : Prop :=
  ∀ (s s1 : State) (j : Instr) (vd : BitVec 5) (lines : List (BitVec 5)) (n : Nat) (f : Nat → Int),
    s.ready → s.deferred = false → elementForm s s1.me j = some (vd, lines, n, f) → s.useV lines = .ok s1 →
    (s.vqredAhead = false → ∃ u, VectorDone j s s1 u ∧ OnlyV s1.me u vd ∧
      ∀ i, i < 256 / n →
        (((u.readV vd).toNat / 2 ^ (8 * n * i)) % 2 ^ (8 * n) : Nat) = (f i) % (2 ^ (8 * n) : Int)) ∧
    VectorBehind j s s1

/-- An instruction that writes a p register: the register, the v registers it names, the bytes of an element, and the value
of every bit of element `i` (R165, R167, R175). -/
def predicateForm (s : State) (t : Strand) : Instr → Option (BitVec 3 × List (BitVec 5) × Nat × (Nat → Bool))
  | .vcmpeq pd a b pg et => some (pd, [a, b], 2 ^ et.toNat, fun i => act pg (2 ^ et.toNat) i && decide (sg a et i = sg b et i))
  | .vcmplt pd a b pg et => some (pd, [a, b], 2 ^ et.toNat, fun i => act pg (2 ^ et.toNat) i && decide (sg a et i < sg b et i))
  | .vcmple pd a b pg et => some (pd, [a, b], 2 ^ et.toNat, fun i => act pg (2 ^ et.toNat) i && decide (sg a et i ≤ sg b et i))
  | .vcmpltn pd a b pg et =>
    some (pd, [a, b], 2 ^ et.toNat, fun i => act pg (2 ^ et.toNat) i &&
      decide (elemNat (t.readV a) (2 ^ et.toNat) i < elemNat (t.readV b) (2 ^ et.toNat) i))
  | .vfcmpeq pd a b pg et => some (pd, [a, b], (fmtOf et).width / 8, fun i => act pg ((fmtOf et).width / 8) i && (fp a et i).eq (fp b et i))
  | .vfcmplt pd a b pg et => some (pd, [a, b], (fmtOf et).width / 8, fun i => act pg ((fmtOf et).width / 8) i && (fp a et i).lt (fp b et i))
  | .vfcmple pd a b pg et =>
    some (pd, [a, b], (fmtOf et).width / 8, fun i => act pg ((fmtOf et).width / 8) i &&
      ((fp a et i).lt (fp b et i) || (fp a et i).eq (fp b et i)))
  | .vfcmpun pd a b pg et =>
    some (pd, [a, b], (fmtOf et).width / 8, fun i => act pg ((fmtOf et).width / 8) i && (fp a et i == .nan || fp b et i == .nan))
  | .pand pd a b => some (pd, [], 1, fun i => (t.readP a).getLsbD i && (t.readP b).getLsbD i)
  | .por pd a b => some (pd, [], 1, fun i => (t.readP a).getLsbD i || (t.readP b).getLsbD i)
  | .pxor pd a b => some (pd, [], 1, fun i => (t.readP a).getLsbD i ^^ (t.readP b).getLsbD i)
  | .pnot pd a => some (pd, [], 1, fun i => !(t.readP a).getLsbD i)
  | .pwhile pd a b w => some (pd, [], 2 ^ w.toNat, fun i => decide ((s.x a).toNat + i < (s.x b).toNat))
  | _ => none
where
  act (pg : BitVec 2) (n i : Nat) : Bool := (t.readP (pg.setWidth 3)).getLsbD (i * n)
  sg (r : BitVec 5) (et : BitVec 2) (i : Nat) : Int := signedOfBits (8 * 2 ^ et.toNat) (elemNat (t.readV r) (2 ^ et.toNat) i)
  fp (r : BitVec 5) (et : BitVec 2) (i : Nat) : Fp := (fmtOf et).decode (elemNat (t.readV r) ((fmtOf et).width / 8) i)

/-- R43, R165, R167, R175: a compare or predicate instruction sets every bit of element `i` of pd to its value; p0 stays all
ones; no other register changes, and no flag. -/
def VectorPredicates : Prop :=
  ∀ (s s1 : State) (j : Instr) (pd : BitVec 3) (lines : List (BitVec 5)) (n : Nat) (f : Nat → Bool),
    s.ready → s.deferred = false → predicateForm s s1.me j = some (pd, lines, n, f) → s.useV lines = .ok s1 →
    (s.vqredAhead = false → ∃ u, VectorDone j s s1 u ∧ u = { s1.me with p := u.p } ∧ u.readP 0 = BitVec.allOnes 256 ∧
      (∀ r, r ≠ pd → u.readP r = s1.me.readP r) ∧
      (pd ≠ 0 → ∀ i b, i < 256 / n → b < n → (u.readP pd).getLsbD (i * n + b) = f i)) ∧
    VectorBehind j s s1

/-- An instruction that reads v or p registers into an x register: the register, the v registers it names, the value
(R175). -/
def scalarForm (s : State) (t : Strand) : Instr → Option (BitVec 5 × List (BitVec 5) × Word)
  | .vext rd a q w =>
    some (rd, [a], if (s.x q).toNat < 256 / 2 ^ w.toNat then
      BitVec.ofInt 64 (signedOfBits (8 * 2 ^ w.toNat) (elemNat (t.readV a) (2 ^ w.toNat) (s.x q).toNat)) else 0)
  | .pcount rd a w =>
    some (rd, [], BitVec.ofNat 64
      ((List.range (256 / 2 ^ w.toNat)).countP (fun i => (t.readP a).getLsbD (i * 2 ^ w.toNat))))
  | .pfirst rd a w =>
    some (rd, [], BitVec.ofNat 64
      (((List.range (256 / 2 ^ w.toNat)).find? (fun i => (t.readP a).getLsbD (i * 2 ^ w.toNat))).getD (256 / 2 ^ w.toNat)))
  | _ => none

/-- R175: vext, pcount and pfirst give rd an element, sign-extended, or 0 past the last; the number of the set elements; and
the first set one, or their number when none is; no other register changes. -/
def VectorScalars : Prop :=
  ∀ (s s1 : State) (j : Instr) (rd : BitVec 5) (lines : List (BitVec 5)) (w : Word),
    s.ready → s.deferred = false → scalarForm s s1.me j = some (rd, lines, w) → s.useV lines = .ok s1 →
    (s.vqredAhead = false → VectorDone j s s1 (s1.me.writeX rd w)) ∧ VectorBehind j s s1

/-- A reduction: the register, the v registers it names, the bytes of an element, and the value of element 0 with the flags
(R160, R166, R170). -/
def reductionForm (t : Strand) : Instr → Option (BitVec 5 × List (BitVec 5) × Nat × Nat × Flags)
  | .vredsum vd a pg et =>
    some (vd, [vd, a], 2 ^ et.toNat, word et ((ints a pg et).foldl (· + ·) 0), 0)
  | .vredmax vd a pg et =>
    some (vd, [vd, a], 2 ^ et.toNat, word et ((ints a pg et).foldl max (-(2 ^ (8 * 2 ^ et.toNat - 1)))), 0)
  | .vredmin vd a pg et =>
    some (vd, [vd, a], 2 ^ et.toNat, word et ((ints a pg et).foldl min (2 ^ (8 * 2 ^ et.toNat - 1) - 1)), 0)
  | .vfredsum vd a pg et =>
    let k := fmtOf et
    let n := k.width / 8
    let leaf := fun i => (if (t.readP (pg.setWidth 3)).getLsbD (i * n) then elemNat (t.readV a) n i else 0, (0 : Flags))
    let node := fun (x y : Nat × Flags) =>
      let r := k.deliver t.vround ((k.decode x.1).add (t.vround == 2) (k.decode y.1))
      (r.1, x.2 ||| y.2 ||| r.2)
    let r := tree node 7 ((List.range (256 / n)).map leaf)
    some (vd, [vd, a], n, r.1, r.2)
  | .vfredmax vd a pg et =>
    some (vd, [vd, a], (fmtOf et).width / 8, (fmtOf et).encode (extreme (.inf true) Fp.maximumNumber (fps a pg et)), 0)
  | .vfredmin vd a pg et =>
    some (vd, [vd, a], (fmtOf et).width / 8, (fmtOf et).encode (extreme (.inf false) Fp.minimumNumber (fps a pg et)), 0)
  | _ => none
where
  actives (n : Nat) (pg : BitVec 2) : List Nat :=
    (List.range (256 / n)).filter (fun i => (t.readP (pg.setWidth 3)).getLsbD (i * n))
  ints (r : BitVec 5) (pg et : BitVec 2) : List Int :=
    (actives (2 ^ et.toNat) pg).map (fun i => signedOfBits (8 * 2 ^ et.toNat) (elemNat (t.readV r) (2 ^ et.toNat) i))
  word (et : BitVec 2) (v : Int) : Nat := (v % (2 ^ (8 * 2 ^ et.toNat) : Int)).toNat
  fps (r : BitVec 5) (pg et : BitVec 2) : List Fp :=
    (actives ((fmtOf et).width / 8) pg).map (fun i => (fmtOf et).decode (elemNat (t.readV r) ((fmtOf et).width / 8) i))
  extreme (none' : Fp) (f : Fp → Fp → Fp) : List Fp → Fp
    | [] => none'
    | a :: r => r.foldl f a
  pairs (f : Nat × Flags → Nat × Flags → Nat × Flags) : List (Nat × Flags) → List (Nat × Flags)
    | a :: b :: r => f a b :: pairs f r
    | r => r
  tree (f : Nat × Flags → Nat × Flags → Nat × Flags) : Nat → List (Nat × Flags) → Nat × Flags
    | 0, l => l.headD (0, 0)
    | k + 1, l => tree f k (pairs f l)

/-- R160, R166, R170: a reduction gives element 0 of vd the sum, the largest or the smallest of the active elements (a
floating sum in the fixed tree, rounded at each node, an inactive leaf +0), and every other element 0; its flags accrue. -/
def VectorReductions : Prop :=
  ∀ (s s1 : State) (j : Instr) (vd : BitVec 5) (lines : List (BitVec 5)) (n v : Nat) (fl : Flags),
    s.ready → s.deferred = false → reductionForm s1.me j = some (vd, lines, n, v, fl) → s.useV lines = .ok s1 →
    (s.vqredAhead = false → ∃ u, VectorDone j s s1 u ∧ OnlyV { s1.me with vfflags := s1.me.vfflags ||| fl } u vd ∧
      (u.readV vd).toNat = v % 2 ^ (8 * n)) ∧
    VectorBehind j s s1

/-- A floating instruction, elementwise: vd, the v registers it names, the governing predicate, the bytes of a governed
element, the bits of a result, the number of results, the value and flags of an active one, and of an inactive one the value
(R147-R150, R167-R173). -/
def floatForm (t : Strand) :
    Instr → Option (BitVec 5 × List (BitVec 5) × BitVec 2 × Nat × Nat × Nat × (Nat → Nat × Flags) × (Nat → Nat))
  | .vfadd vd a b pg et => some (vd, [vd, a, b], same pg et vd (fun k i => k.deliver t.vround ((fp a et i).add (t.vround == 2) (fp b et i))))
  | .vfsub vd a b pg et =>
    some (vd, [vd, a, b], same pg et vd (fun k i => k.deliver t.vround ((fp a et i).add (t.vround == 2) (fp b et i).negate)))
  | .vfmul vd a b pg et => some (vd, [vd, a, b], same pg et vd (fun k i => k.deliver t.vround ((fp a et i).mul (fp b et i))))
  | .vfma vd a b pg et =>
    some (vd, [vd, a, b], same pg et vd (fun k i => k.deliver t.vround (Fp.fma (t.vround == 2) (fp a et i) (fp b et i) (fp vd et i))))
  | .vfms vd a b pg et =>
    some (vd, [vd, a, b], same pg et vd (fun k i => k.deliver t.vround (Fp.fma (t.vround == 2) (fp a et i) (fp b et i) (fp vd et i).negate)))
  | .vfdiv vd a b pg et => some (vd, [vd, a, b], same pg et vd (fun k i => k.deliver t.vround ((fp a et i).div (fp b et i))))
  | .vfsqrt vd a pg et => some (vd, [vd, a], same pg et vd (fun k i => k.deliver t.vround (fp a et i).sqrt))
  | .vfrcp vd a pg et => some (vd, [vd, a], same pg et vd (fun k i => k.deliver t.vround ((Fp.fin false 1 0).div (fp a et i))))
  | .vfrsqrt vd a pg et => some (vd, [vd, a], same pg et vd (fun k i => k.deliver t.vround (fp a et i).rsqrt))
  | .vfexp2 vd a pg et => some (vd, [vd, a], same pg et vd (fun k i => k.deliver t.vround (fp a et i).exp2))
  | .vflog2 vd a pg et => some (vd, [vd, a], same pg et vd (fun k i => k.deliver t.vround (fp a et i).log2))
  | .vfscale vd a b pg et =>
    some (vd, [vd, a, b], same pg et vd (fun k i => k.deliver t.vround ((fp a et i).scale (signedOfBits k.width (wd b et i)), 0)))
  | .vfmin vd a b pg et => some (vd, [vd, a, b], same pg et vd (fun k i => (k.encode ((fp a et i).minimum (fp b et i)), 0)))
  | .vfmax vd a b pg et => some (vd, [vd, a, b], same pg et vd (fun k i => (k.encode ((fp a et i).maximum (fp b et i)), 0)))
  | .vfminnum vd a b pg et => some (vd, [vd, a, b], same pg et vd (fun k i => (k.encode ((fp a et i).minimumNumber (fp b et i)), 0)))
  | .vfmaxnum vd a b pg et => some (vd, [vd, a, b], same pg et vd (fun k i => (k.encode ((fp a et i).maximumNumber (fp b et i)), 0)))
  | .vfabs vd a pg et => some (vd, [vd, a], same pg et vd (fun k i => (k.encode (fp a et i).abs, 0)))
  | .vfneg vd a pg et => some (vd, [vd, a], same pg et vd (fun k i => (k.encode (fp a et i).negate, 0)))
  | .vfround vd a pg et => some (vd, [vd, a], same pg et vd (fun k i => (k.encode ((fp a et i).integral t.vround), 0)))
  | .vfclass vd a pg et => some (vd, [vd, a], same pg et vd (fun k i => (k.classOf (wd a et i), 0)))
  | .vmoviF vd pg imm et => some (vd, [vd], same pg et vd (fun k _ => (k.encode (fimm8 imm), 0)))
  | .vfcvt vd a pg ty et =>
    some (vd, [vd, a], narrow pg et (cvtFmt ty).width (fun i => (cvtFmt ty).deliver t.vround (fp a et i, 0)))
  | .vfcvti vd a pg ty et =>
    some (vd, [vd, a], narrow pg et (cvtInt ty).1 (fun i => toInteger t.vround (cvtInt ty).1 (cvtInt ty).2 (fp a et i)))
  | .vicvtf vd a pg ty et =>
    some (vd, [vd, a], narrow pg et (cvtFmt (ty &&& 15)).width (fun i =>
      (cvtFmt (ty &&& 15)).deliver t.vround
        (Fp.ofInt (if ty.getLsbD 4 then (wd a et i : Int) else signedOfBits (fmtOf et).width (wd a et i)) 0, 0)))
  | .vfwmacc vd a b pg et =>
    let n := (fmtOf et).width / 4
    let old := fun i => elemNat (t.readV vd) n i
    some (vd, [vd, a, b], pg, n, 8 * n, 256 / n, fun i =>
      (widerFmt et).deliver t.vround (accumulatePair (t.vround == 2) ((widerFmt et).decode (old i))
        (fp a et (2 * i)) (fp b et (2 * i)) (fp a et (2 * i + 1)) (fp b et (2 * i + 1))), old)
  | _ => none
where
  wd (r : BitVec 5) (et : BitVec 2) (i : Nat) : Nat := elemNat (t.readV r) ((fmtOf et).width / 8) i
  fp (r : BitVec 5) (et : BitVec 2) (i : Nat) : Fp := (fmtOf et).decode (wd r et i)
  same (pg et : BitVec 2) (vd : BitVec 5) (f : Fmt → Nat → Nat × Flags) :
      BitVec 2 × Nat × Nat × Nat × (Nat → Nat × Flags) × (Nat → Nat) :=
    let k := fmtOf et
    (pg, k.width / 8, k.width, 2048 / k.width, f k, fun i => wd vd et i)
  narrow (pg et : BitVec 2) (bits : Nat) (f : Nat → Nat × Flags) :
      BitVec 2 × Nat × Nat × Nat × (Nat → Nat × Flags) × (Nat → Nat) :=
    (pg, (fmtOf et).width / 8, bits, 2048 / max (fmtOf et).width bits, f, fun _ => 0)

/-- R147, R149, R161, R167-R173: a floating vector instruction gives each active element its value under vround.RM and
leaves an inactive one (a conversion makes it 0); a conversion makes every element past the last one 0; a flag of vfflags is set
where it was, or where an active element raises it; no other register changes. -/
def VectorFloat : Prop :=
  ∀ (s s1 : State) (j : Instr) (vd : BitVec 5) (lines : List (BitVec 5)) (pg : BitVec 2) (n bits count : Nat)
      (f : Nat → Nat × Flags) (old : Nat → Nat),
    s.ready → s.deferred = false → floatForm s1.me j = some (vd, lines, pg, n, bits, count, f, old) →
    s.useV lines = .ok s1 →
    (s.vqredAhead = false → ∃ u, VectorDone j s s1 u ∧ OnlyV { s1.me with vfflags := u.vfflags } u vd ∧
      (∀ i, i < count → (u.readV vd).toNat / 2 ^ (bits * i) % 2 ^ bits =
        (if (s1.me.readP (pg.setWidth 3)).getLsbD (i * n) then (f i).1 else old i) % 2 ^ bits) ∧
      (u.readV vd).toNat / 2 ^ (bits * count) = 0 ∧
      (∀ b, b < 5 → (u.vfflags.getLsbD b = true ↔ s1.me.vfflags.getLsbD b = true ∨
        ∃ i, i < count ∧ (s1.me.readP (pg.setWidth 3)).getLsbD (i * n) = true ∧ (f i).2.getLsbD b = true))) ∧
    VectorBehind j s s1

/-- R147: a magnitude m·2^e rounded to a multiple k·2^q, over the common denominator: toward zero in RTZ; down in RDN and up in
RUP, by the sign; to the nearest in RNE and RMM, with a tie to the even multiple or away from zero. It is inexact exactly when
it is no multiple. -/
def Rounding : Prop :=
  ∀ (neg : Bool) (m : Nat) (e q : Int),
    let num := m * 2 ^ (e - q).toNat
    let den := 2 ^ (q - e).toNat
    let k := fun rm => (roundGrid rm neg m e q).1
    (∀ rm, (roundGrid rm neg m e q).2 = true ↔ num % den ≠ 0) ∧
    (k 1 * den ≤ num ∧ num < (k 1 + 1) * den) ∧
    (neg = false → k 2 = k 1) ∧ (neg = true → k 3 = k 1) ∧
    (neg = true → num ≤ k 2 * den ∧ k 2 * den < num + den) ∧
    (neg = false → num ≤ k 3 * den ∧ k 3 * den < num + den) ∧
    (2 * num ≤ 2 * (k 0 * den) + den ∧ 2 * (k 0 * den) ≤ 2 * num + den) ∧
    (2 * num = 2 * (k 0 * den) + den ∨ 2 * (k 0 * den) = 2 * num + den → k 0 % 2 = 0) ∧
    (2 * num < 2 * (k 4 * den) + den ∧ 2 * (k 4 * den) ≤ 2 * num + den)

/-- R164, R168-R174: the vector instructions that leave predicates, scalars and reductions.
Where it rests on the model's own readings and choices: log entry 5. -/
def Obligations.VectorPredicatesAndScalars : Prop := VectorPredicates ∧ VectorScalars ∧ VectorReductions

/-- R143-R149, R165-R168, R175: the floating-point vector instructions, and how their results are rounded.
Where it rests on the model's own readings and choices: log entries 5 and 47. -/
def Obligations.FloatingPoint : Prop := VectorFloat ∧ Rounding

/-! ## Vector memory, constants, tiles (R218-R224, R236-R240, R263) -/

/-- Byte `k` of a line. -/
def lineByte (l : Line) (k : Nat) : Byte := BitVec.ofNat 8 (l.toNat / 256 ^ k)

/-- Location `k` of an access, and that the access names it once. -/
def locAt (locs : List Nat) (k : Nat) : Nat := locs.getD k 0
def once (locs : List Nat) (k : Nat) : Prop := ∀ j, j < locs.length → locAt locs j = locAt locs k → j = k

/-- R236, R263: a line load: its address is a multiple of 256 and its bytes are reached, unpoisoned and owned by no unit; vd
holds the bytes that the strand reads at them. R218: a slice load: its offset is below 16,384 and a multiple of 256. R222: a
tagged load: its bytes lie in a tile to which no copy is in flight and whose SEQ is the tag of rs2. -/
def VectorLoads : Prop :=
  ∀ (s s1 : State) (vd rs1 rs2 : BitVec 5) (la : BitVec 4) (w : BitVec 2), s.ready → s.deferred = false →
    s.useV [vd] = .ok s1 →
    let va := s.x rs1 + s.x rs2
    let loads := fun (i : Instr) (s2 : State) (b : Nat → Byte) =>
      ∃ l, exec i s = .next ((s2.writeV vd l).retire 4) ∧ ∀ k, k < 256 → lineByte l k = b k
    (∀ s2 locs, va.toNat % 256 = 0 → s1.loadLocs va 256 = .ok (s2, locs) →
      loads (.vld vd rs1 rs2 la w) s2 (fun k => s2.readByte (.strand s.here s.cur) (locAt locs k))) ∧
    (va.toNat < 16384 → va.toNat % 256 = 0 →
      (∀ k, k < 256 → s1.poisonedAt [sliceLoc s.here (va.toNat + k)] = false) →
      loads (.vldl vd rs1 rs2 la w) s1 (fun k => s1.mem.byte (2 ^ 45 + s.here * 2 ^ 14 + va.toNat + k))) ∧
    (∀ s2 locs, (s.x rs1).toNat % 256 = 0 → s1.access .load (s.x rs1) 256 = .ok (s2, locs) → locs.all isScratch = true →
      tileNo (locAt locs 0) ∉ s2.tilesInFlight → (s2.tile (tileNo (locAt locs 0))).seq = BitVec.ofNat 16 (s.x rs2).toNat →
      s2.poisonedAt locs = false → s2.comesFirst .load locs = false →
      loads (.vldt vd rs1 rs2 la w) s2 (fun k => s2.readByte (.strand s.here s.cur) (locAt locs k))) ∧
    (va.toNat % 256 ≠ 0 →
      exec (.vld vd rs1 rs2 la w) s = .next (s1.takeTrap s.here s.cur causeLoadMisaligned va) ∧
      exec (.vst vd rs1 rs2 la w) s = .next (s1.takeTrap s.here s.cur causeStoreMisaligned va)) ∧
    (16384 ≤ va.toNat ∨ va.toNat % 256 ≠ 0 →
      exec (.vldl vd rs1 rs2 la w) s = .next (s1.takeTrap s.here s.cur causeLoadAccess va) ∧
      exec (.vstl vd rs1 rs2 la w) s = .next (s1.takeTrap s.here s.cur causeStoreAccess va))

/-- R237: a gather loads element `i` of vd from rs1 plus element `i` of rs2, unsigned, times its size, where every element is
aligned, reached, unpoisoned and owned by no unit. -/
def Gathers : Prop :=
  ∀ (s s1 s2 : State) (vd rs1 rs2 : BitVec 5) (la : BitVec 4) (w : BitVec 2) (locs : List (List Nat)),
    s.ready → s.deferred = false → s.useV [vd, rs2] = .ok s1 →
    let n := 2 ^ w.toNat
    s1.accessMany .load ((List.range (256 / n)).map (fun i => s.x rs1 + BitVec.ofNat 64 (elemNat (s1.v rs2) n i * n))) n =
      .ok (s2, locs) →
    s2.ownedLine locs.flatten = none → s2.poisonedAt locs.flatten = false →
    ∃ l, exec (.vldx vd rs1 rs2 la w) s = .next ((s2.writeV vd l).retire 4) ∧
      (locs.flatten.length = 256 → ∀ k, k < 256 →
        lineByte l k = s2.readByte (.strand s.here s.cur) (locAt locs.flatten k))

/-- R236-R238, R264: a line store and a scatter whose bytes are reached join the strand's store buffer, a sector or an element
at a time: the strand reads the stored bytes at locations that the access names once, and every other location as before;
every other agent reads every byte as before. R218, R270: a slice store is made at once in the core's slice.
Where it rests on the model's own readings and choices: log entries 5, 20 and 25. -/
def Obligations.VectorStores : Prop :=
  ∀ (s s1 : State) (vd rs1 rs2 : BitVec 5) (la : BitVec 4) (w : BitVec 2), s.ready → s.deferred = false →
    let stored := fun (i : Instr) (s2 : State) (locs : List Nat) =>
      Completes i s (fun t =>
        Retired s t 4 ∧ (∀ r, t.x r = s.x r) ∧ t.me.v = s2.me.v ∧ OnlyStrand s2 t ∧
        (∀ k, k < 256 → k < locs.length → once locs k →
          t.readByte (.strand s.here s.cur) (locAt locs k) = lineByte (s2.v vd) k) ∧
        (∀ loc, loc ∉ locs → t.readByte (.strand s.here s.cur) loc = s2.readByte (.strand s.here s.cur) loc) ∧
        (∀ a loc, a ≠ .strand s.here s.cur → t.readByte a loc = s2.readByte a loc))
    (∀ s2 locs, s.useV [vd] = .ok s1 → (s.x rs1 + s.x rs2).toNat % 256 = 0 →
      s1.access .store (s.x rs1 + s.x rs2) 256 = .ok (s2, locs) → stored (.vst vd rs1 rs2 la w) s2 locs) ∧
    (∀ s2 locs, s.useV [vd, rs2] = .ok s1 →
      s1.accessMany .store ((List.range (256 / 2 ^ w.toNat)).map
        (fun i => s.x rs1 + BitVec.ofNat 64 (elemNat (s1.v rs2) (2 ^ w.toNat) i * 2 ^ w.toNat))) (2 ^ w.toNat) =
        .ok (s2, locs) → (∀ l, l ∈ locs → l.length = 2 ^ w.toNat) → stored (.vstx vd rs1 rs2 la w) s2 locs.flatten) ∧
    (s.useV [vd] = .ok s1 → (s.x rs1 + s.x rs2).toNat < 16384 → (s.x rs1 + s.x rs2).toNat % 256 = 0 →
      Completes (.vstl vd rs1 rs2 la w) s (fun t =>
        let base := 2 ^ 45 + s.here * 2 ^ 14 + (s.x rs1 + s.x rs2).toNat
        Retired s t 4 ∧ (∀ r, t.x r = s.x r) ∧ t.me.v = s1.me.v ∧
        (∀ k, k < 256 → t.mem.byte (base + k) = lineByte (s1.v vd) k) ∧
        (∀ loc, loc < base ∨ base + 256 ≤ loc → t.mem.byte loc = s1.mem.byte loc)))

/-- R224, R239, R240: a constant load reads device memory through the constant cache of the core's cluster: on a miss the line
that the die sees now, which the cache then holds; a tagged doubleword load reads the tile's bytes; tset and tmode give rd the
tile's old MODE and SEQ and replace the one or the other, where no copy to the tile is in flight. -/
def ConstantsAndTiles : Prop :=
  ∀ (s : State) (rd rs1 rs2 : BitVec 5) (la : BitVec 4) (w : BitVec 2), s.ready → s.deferred = false →
    (∀ s1 locs, (s.x rs1 + 8 * s.x rs2).toNat % 8 = 0 → s.constLocs (s.x rs1 + 8 * s.x rs2) 8 = .ok (s1, locs) →
      (s1.cluster (clusterOf s.here)).constCache.find?
        (fun k => k.vf == (s1.core s.here).vfNow && k.line == locAt locs 0 / 256) = none →
      locs = (List.range 8).map (locAt locs 0 + ·) → locAt locs 0 % 8 = 0 →
      Completes (.ldk rd rs1 rs2 la) s (fun t =>
        t.x rd = (if rd = 0 then 0 else BitVec.ofNat 64 (s1.readNat (.die (dieOf s.here)) (locAt locs 0) 8)) ∧
        (∀ r, r ≠ rd → t.x r = s.x r) ∧ Retired s t 4 ∧
        ∃ k, k ∈ (t.cluster (clusterOf s.here)).constCache ∧ k.line = locAt locs 0 / 256 ∧
          k.vf = (s1.core s.here).vfNow)) ∧
    (∀ s0 s1 locs, s.useV [rd] = .ok s0 → (s.x rs1 + s.x rs2).toNat % 256 = 0 →
      s0.constLocs (s.x rs1 + s.x rs2) 256 = .ok (s1, locs) →
      (s1.cluster (clusterOf s.here)).constCache.find?
        (fun k => k.vf == (s1.core s.here).vfNow && k.line == locAt locs 0 / 256) = none →
      locs = (List.range 256).map (locAt locs 0 + ·) → locAt locs 0 % 256 = 0 →
      Completes (.vldk rd rs1 rs2 la w) s (fun t =>
        (∀ k, k < 256 → lineByte (t.v rd) k = s1.readByte (.die (dieOf s.here)) (locAt locs 0 + k)) ∧
        (∀ r, r ≠ rd → t.v r = s1.v r) ∧ Retired s t 4)) ∧
    (∀ s1 locs, (s.x rs1).toNat % 8 = 0 → s.access .load (s.x rs1) 8 = .ok (s1, locs) → locs.all isScratch = true →
      tileNo (locAt locs 0) ∉ s1.tilesInFlight → (s1.tile (tileNo (locAt locs 0))).seq = BitVec.ofNat 16 (s.x rs2).toNat →
      s1.poisonedAt locs = false → s1.comesFirst .load locs = false →
      exec (.ldt rd rs1 rs2 la) s =
        .next ((s1.writeX rd (BitVec.ofNat 64 (leNat ((locs.map (s1.readByte (.strand s.here s.cur))).take 8)))).retire 4)) ∧
    (∀ s1 locs, s.access .store (s.x rs1) 1 = .ok (s1, locs) → locs.all isScratch = true →
      tileNo (locAt locs 0) ∉ s1.tilesInFlight →
      let tile := tileNo (locAt locs 0)
      let old := s1.tile tile
      let oldWord := BitVec.ofNat 64 (old.mode.toNat * 2 ^ 16 + old.seq.toNat)
      let done := fun (i : Instr) (seq mode : Nat) =>
        Completes i s (fun t =>
          (t.tile tile).seq.toNat = seq ∧ (t.tile tile).mode.toNat = mode ∧ (∀ q, q ≠ tile → t.tile q = s1.tile q) ∧
          t.x rd = (if rd = 0 then 0 else oldWord) ∧ (∀ r, r ≠ rd → t.x r = s.x r) ∧ Retired s t 4 ∧ MemoryKept s1 t)
      done (.tset rd rs1 rs2) ((s.x rs2).toNat % 2 ^ 16) old.mode.toNat ∧
      done (.tmode rd rs1 rs2) old.seq.toNat ((s.x rs2).toNat % 2 ^ 3))

/-- R222: a tagged load from a tile whose SEQ is not the tag raises the schedule exception, with the tile's SEQ above the tag;
one from a tile to which a copy is in flight waits. -/
def TaggedLoadsChecked : Prop :=
  ∀ (s s1 : State) (rd rs1 rs2 : BitVec 5) (la : BitVec 4) (locs : List Nat), s.ready → s.deferred = false →
    (s.x rs1).toNat % 8 = 0 → s.access .load (s.x rs1) 8 = .ok (s1, locs) → locs.all isScratch = true →
    let tile := tileNo (locAt locs 0)
    (tile ∈ s1.tilesInFlight →
      exec (.ldt rd rs1 rs2 la) s = .next (s1.modStrand s.here s.cur (fun t => { t with park := some (.tile tile) }))) ∧
    (tile ∉ s1.tilesInFlight → (s1.tile tile).seq.toNat ≠ (s.x rs2).toNat % 2 ^ 16 →
      exec (.ldt rd rs1 rs2 la) s = .next (s.takeTrap s.here s.cur causeSchedule
        (BitVec.ofNat 64 ((s1.tile tile).seq.toNat * 2 ^ 16 + (s.x rs2).toNat % 2 ^ 16))))

/-! ## Queues and key routes (R176, R252-R256) -/

/-- R252, R254: qbind binds a queue register to the sink of a word that keeps the map, and raises the queue exception for one
that does not; a push joins the bound FIFO once the strand's stores have drained, and waits while it holds 8 entries; a pop takes the oldest entry of the bound sink,
as a scalar or as a vector, and waits while it is empty; a push or pop through an unbound register raises the queue exception
with the register's number. -/
def Queues : Prop :=
  ∀ (s s1 : State) (q : BitVec 3) (r : BitVec 5), s.ready → s.deferred = false → s.useV [r] = .ok s1 →
    let fault := fun (u : State) => u.takeTrap s.here s.cur causeQueue (BitVec.ofNat 64 q.toNat)
    let parks := fun (u : State) (p : Park) => u.modStrand s.here s.cur (fun t => { t with park := some p })
    ((sinkOf (s.x r)).isSome = true → Completes (.qbind q r) s (fun t =>
      t.me.q = s.me.q.set q.toNat (s.x r) ∧ (∀ n, t.x n = s.x n) ∧ OnlyStrand s t ∧ Retired s t 4)) ∧
    (sinkOf (s.x r) = none → exec (.qbind q r) s = .next (fault s)) ∧
    (∀ n, s.me.sink q = .fifo n → n < 8 →
      (∀ u, s.drainMine = .ok u → ((s.core s.here).fifo n).length < 8 → Completes (.qpush q r) s (fun t =>
        (t.core s.here).fifo n = (s.core s.here).fifo n ++ [.scalar (s.x r)] ∧ t.me.storeBuf = [] ∧
        (∀ m, m ≠ n → (t.core s.here).fifo m = (s.core s.here).fifo m) ∧ (∀ k, t.x k = s.x k) ∧ Retired s t 4)) ∧
      (8 ≤ ((s.core s.here).fifo n).length → exec (.qpush q r) s = .next (parks s (.fifoFull n)))) ∧
    (∀ n u, s1.me.sink q = .fifo n → n < 8 → s1.drainMine = .ok u → ((s1.core s.here).fifo n).length < 8 →
      Completes (.qpushv q r) s (fun t =>
        (t.core s.here).fifo n = (s1.core s.here).fifo n ++ [.vector (s1.v r)] ∧ t.me.storeBuf = [] ∧
        (∀ m, m ≠ n → (t.core s.here).fifo m = (s1.core s.here).fifo m) ∧ (∀ k, t.x k = s.x k) ∧ Retired s t 4)) ∧
    (∀ u e, s.takeEntry s.here (s.me.sink q) = some (u, e) → s.me.sink q ≠ .unbound →
      exec (.qpop r q) s = .next ((u.writeX r (match e with
        | .scalar w => w
        | .vector l => BitVec.ofNat 64 l.toNat)).retire 4)) ∧
    (∀ u e, s1.takeEntry s.here (s1.me.sink q) = some (u, e) → s1.me.sink q ≠ .unbound →
      exec (.qpopv r q) s = .next ((u.writeV r (match e with
        | .scalar w => BitVec.ofNat 2048 w.toNat
        | .vector l => l)).retire 4)) ∧
    (s.me.sink q = .unbound → exec (.qpush q r) s = .next (fault s) ∧ exec (.qpop r q) s = .next (fault s)) ∧
    (∀ n, s.me.sink q = .fifo n → (s.core s.here).fifo n = [] →
      exec (.qpop r q) s = .next (parks s (.fifoEmpty n)))

/-- R253, R254: taking an entry gives the oldest of a FIFO, a receive queue or the engine's completions, and leaves the later
ones in order; qstat reads the entries, the free places of a FIFO, the kind of the sink and, of the engine's completions, OVF,
which it clears. -/
def QueueEntries : Prop :=
  ∀ (s : State) (q : BitVec 3) (rd : BitVec 5), s.ready →
    let k := s.core s.here
    (∀ n u e, n < 8 → s.takeEntry s.here (.fifo n) = some (u, e) → k.fifo n = e :: (u.core s.here).fifo n) ∧
    (∀ n u e, n < 16 → s.takeEntry s.here (.receive n) = some (u, e) →
      ∃ l, e = .vector l ∧ (k.receive n).entries = l :: ((u.core s.here).receive n).entries ∧
        ((u.core s.here).receive n).reserved = (k.receive n).reserved) ∧
    (∀ u e, s.takeEntry s.here .engine = some (u, e) →
      ∃ w, e = .scalar w ∧ k.engineStream = w :: (u.core s.here).engineStream) ∧
    Completes (.qstat rd q) s (fun t =>
      (rd ≠ 0 → t.x rd = BitVec.ofNat 64 (match s.me.sink q with
        | .unbound => 0
        | .fifo n => (k.fifo n).length + 2 ^ 16 * (8 - (k.fifo n).length) + 1 * 2 ^ 32
        | .receive n => (k.receive n).entries.length + 2 * 2 ^ 32
        | .engine => k.engineStream.length + 3 * 2 ^ 32 + (if k.engineOvf then 2 ^ 36 else 0))) ∧
      (∀ r, r ≠ rd → t.x r = s.x r) ∧ t.x 0 = 0 ∧
      (t.core s.here).engineOvf = (if s.me.sink q = .engine then false else k.engineOvf) ∧ Retired s t 4 ∧ MemoryKept s t)

/-- R107, R176: vqred adds entries of its queue to vd, one at a time and in order, with rqprog the number it has added: where the
queue's entries bring rqprog to rs2, it completes with rqprog 0; where they do not, it waits, at the head of the core's vector
queue, with what it has added. Behind another entry of that queue it waits for its turn. -/
def QueueReduction : Prop :=
  ∀ (s s1 : State) (vd rs2 : BitVec 5) (q : BitVec 3) (w : BitVec 2), s.ready → s.deferred = false →
    s.me.sink q ≠ .unbound → s.useV [vd] = .ok s1 →
    let n := (s.x rs2).toNat
    let r := State.reduceAll vd w (s.me.sink q) n ((s1.core s.here).sinkLength (s.me.sink q)) s1
    let ended := r.modMe (fun t => { t with rqprog := 0 })
    let joins := fun (t u : State) => ∃ e : VEntry, e.instr = .vqred vd q rs2 w ∧ e.strand = s.cur ∧ e.xb = s.x rs2 ∧
      (t.core s.here).vqueue = (s.core s.here).vqueue ++ [e] ∧ t.me.park = some .vqred ∧ t.me.fpc = s.me.fpc ∧
      t.me.rqprog = u.me.rqprog ∧ t.me.v = u.me.v
    (s.me.park ≠ some .vqred → (s.core s.here).vqueue = [] →
      (n ≤ r.me.rqprog.toNat → exec (.vqred vd q rs2 w) s = .next ((ended.countEvent s.here evVector 1).retire 4)) ∧
      (r.me.rqprog.toNat < n → Completes (.vqred vd q rs2 w) s (fun t => joins t r))) ∧
    (s.me.park ≠ some .vqred → (s.core s.here).vqueue ≠ [] → (s.core s.here).vqueue.length < 8 →
      Completes (.vqred vd q rs2 w) s (fun t => joins t s1)) ∧
    (s.me.park = some .vqred → s.vqredHead = true →
      (n ≤ r.me.rqprog.toNat →
        exec (.vqred vd q rs2 w) s = .next ((State.runQueue s.here (r.core s.here).vqueue.tail ended).retire 4)) ∧
      (r.me.rqprog.toNat < n →
        exec (.vqred vd q rs2 w) s = .next (r.modStrand s.here s.cur (fun t => { t with park := some .vqred }))))

/-- R160, R176: one addition of vqred: each element of vd becomes its sum with the entry's element (an integer sum modulo 2^8
for width 0; a rounded floating sum otherwise), and rqprog counts it. -/
def QueueAddition : Prop :=
  ∀ (t : Strand) (vd : BitVec 5) (w : BitVec 2) (rm : Rm) (e : Line),
    let n := 2 ^ w.toNat
    let f := if w = 1 then fmtBf16 else if w = 2 then fmtF32 else fmtF64
    let u := t.reduceStep vd w rm e
    u.rqprog = t.rqprog + 1 ∧ (∀ r, r ≠ vd → u.readV r = t.readV r) ∧ (∀ r, u.readX r = t.readX r) ∧ u.p = t.p ∧
    ∀ i, i < 256 / n →
      elemNat (u.readV vd) n i =
        (if w = 0 then elemNat (t.readV vd) n i + elemNat e n i
          else (f.deliver rm ((f.decode (elemNat (t.readV vd) n i)).add (rm == 2) (f.decode (elemNat e n i)))).1) % 2 ^ (8 * n)

/-- R255: kbin sets the core's route word, sets the bench's bin word and empties its fills, reads the fill of a bin, or empties
the fills; a word that breaks its map is refused with 2, and an undefined operation or a bin that does not exist gives all
ones. -/
def KeyBins : Prop :=
  ∀ (s : State) (rd rs1 rs2 : BitVec 5), s.ready →
    let op := (s.x rs2).toNat % 16
    let w := s.x rs1
    let h := s.bench (benchOf s.here)
    Completes (.kbin rd rs1 rs2) s (fun t =>
      let k := t.bench (benchOf s.here)
      let rdIs := fun (v : Word) => t.x rd = if rd = 0 then 0 else v
      Retired s t 4 ∧ (∀ r, r ≠ rd → t.x r = s.x r) ∧ MemoryKept s t ∧
      (op = 0 → routeWordOk w = true → (t.core s.here).route = w ∧ rdIs 0) ∧
      (op = 1 → s.binWordOk s.here w = true → k.bin = w ∧ k.fills = [] ∧ rdIs 0) ∧
      (op = 0 ∧ routeWordOk w = false ∨ op = 1 ∧ s.binWordOk s.here w = false → rdIs 2 ∧ k = h) ∧
      (op = 2 → k = h ∧ rdIs (if h.bin ≠ 0 ∧ w.toNat < 2 ^ binLogbin h.bin then BitVec.ofNat 64 (mapGet 0 h.fills w.toNat)
        else BitVec.allOnes 64)) ∧
      (op = 3 → k.fills = [] ∧ k.bin = h.bin ∧ rdIs 0) ∧
      (3 < op → rdIs (BitVec.allOnes 64) ∧ k = h))

/-- R256: ksend reaches the bench that the key's route field names: a bench outside the launch's clusters reports 3, one with
no bin word 2, a full bin 1; else the record of key and value is stored in the next place of the key's bin, whose fill rises,
and rd is 0. -/
def KeySends : Prop :=
  ∀ (s : State) (rd rs1 rs2 : BitVec 5) (la : BitVec 4), s.ready → s.deferred = false →
    let r := (s.core s.here).route
    let bench := 128 * dieOf s.here + routeB0 r + (s.x rs1).toNat / 2 ^ routeShift r % 2 ^ routeLognb r
    let h := s.bench bench
    let b := (s.x rs1).toNat / 2 ^ binShift h.bin % 2 ^ binLogbin h.bin
    let fill := mapGet 0 h.fills b
    let off := 256 * binBase h.bin + 16 * (b * binCap h.bin + fill)
    let loc := 2 ^ 44 + (16 * (bench / 4) + off / 2 ^ 18) * 2 ^ 18 + off % 2 ^ 18
    let reports := fun (v : Word) => exec (.ksend rd rs1 rs2 la) s = .next ((s.writeX rd v).retire 4)
    (s.benchClaimed s.here bench = false → reports 3) ∧
    (s.benchClaimed s.here bench = true → h.bin = 0 → reports 2) ∧
    (s.benchClaimed s.here bench = true → h.bin ≠ 0 → fill = binCap h.bin → reports 1) ∧
    (s.benchClaimed s.here bench = true → h.bin ≠ 0 → fill ≠ binCap h.bin → Completes (.ksend rd rs1 rs2 la) s (fun t =>
      t.x rd = 0 ∧ (∀ q, q ≠ rd → t.x q = s.x q) ∧ mapGet 0 (t.bench bench).fills b = fill + 1 ∧
      (∀ c, c ≠ b → mapGet 0 (t.bench bench).fills c = mapGet 0 h.fills c) ∧
      t.readNat (.die (dieOf s.here)) loc 8 = (s.x rs1).toNat ∧ t.readNat (.die (dieOf s.here)) (loc + 8) 8 = (s.x rs2).toNat ∧
      Retired s t 4))

/-- R236-R240: vector loads.
Where it rests on the model's own readings and choices: log entries 5 and 25. -/
def Obligations.VectorLoadsAndGathers : Prop := VectorLoads ∧ Gathers

/-- R220-R224: the loads of constants and tiles.
Where it rests on the model's own readings and choices: log entries 5 and 7. -/
def Obligations.TaggedLoads : Prop := ConstantsAndTiles ∧ TaggedLoadsChecked

/-- R253, R254, R257: the queues of a core, and the reduction over a queue.
Where it rests on the model's own readings and choices: log entries 5, 31 and 39. -/
def Obligations.QueueOperations : Prop := Queues ∧ QueueEntries ∧ QueueReduction ∧ QueueAddition

/-! ## Vector queue, register cache, outstanding results (R106-R110, R176) -/

/-- R107, R108, R110, R176: where core `i` of a bench alone may bind, holds the arbiter's turn with credit for one instruction,
and lane group 0 alone is free, the arbiter binds the head of its queue to that group, at the cost of 4; a vqred, of which it
binds one addition, keeps its place in the queue. Another bound entry that
completes has its effect on its strand, an x result becomes known, and its lane group is free. A v register that is filled
holds the bytes of its line in the image. -/
def VectorQueueEvents : Prop :=
  ∀ (s : State) (b : Nat),
    (∀ i e, i < 4 → s.eligible b = [i] → s.boundable (4 * b + i) = some e → (s.bench b).ptr = i →
      4 ≤ (s.bench b).deficit[i]?.getD 0 → (s.bench b).groups[0]?.getD none = none →
      (∀ g, 0 < g → g < 4 → ((s.bench b).groups[g]?.getD none).isSome = true) →
      Completes (.vectorBind b) s (fun t =>
        (t.core (4 * b + i)).vqueue =
          (if e.isReduce then (s.core (4 * b + i)).vqueue else (s.core (4 * b + i)).vqueue.tail) ∧
        (t.bench b).groups[0]?.getD none = some { core := 4 * b + i, entry := e } ∧
        (∀ g, 0 < g → (t.bench b).groups[g]?.getD none = (s.bench b).groups[g]?.getD none) ∧
        (t.bench b).deficit[i]?.getD 0 = (s.bench b).deficit[i]?.getD 0 - 4)) ∧
    (∀ g k, g < 4 → (s.bench b).groups[g]?.getD none = some k → k.entry.strand < 11 → k.entry.isReduce = false →
      Completes (.vectorEntryComplete b g) s (fun t =>
        (t.bench b).groups[g]?.getD none = none ∧
        t.strand k.core k.entry.strand = (match vectorResult k.entry (s.strand k.core k.entry.strand) with
          | some x => (s.strand k.core k.entry.strand).settleQueued (.x x.1) (leBytes 8 x.2.toNat)
          | none => vectorEffect k.entry (s.strand k.core k.entry.strand)) ∧
        (∀ c j, ¬(c = k.core ∧ j = k.entry.strand) → t.strand c j = s.strand c j) ∧ MemoryKept s t)) ∧
    (∀ c i (r : BitVec 5) s1 s2 locs, i < 11 → (s.strand c i).vAbsent.getLsbD r.toNat = true →
      s.translate (s.deviceCtx c) .load ((s.strand c i).ctxbase + BitVec.ofNat 64 (0x800 + 256 * r.toNat)) 256 = .ok (s1, locs) →
      s1.onDie locs = .ok s2 → s2.poisonedAt locs = false → (s2.bench (benchOf c)).regCache.length < 256 →
      locs.length = 256 →
      Completes (.registerCacheFill c i r) s (fun t =>
        (∀ k, k < 256 → lineByte ((t.strand c i).readV r) k = s2.readByte (.core c) (locAt locs k)) ∧
        (t.strand c i).vAbsent.getLsbD r.toNat = false ∧ (t.strand c i).park ≠ some (.fill r) ∧
        (∀ q, q ≠ r → (t.strand c i).readV q = (s.strand c i).readV q)))

/-- R106, R176, R244, R264: a part of an outstanding load performs once what comes before it has performed and no unit owns one of
its lines, and its bytes are those that the strand then reads; an outstanding atomic that does not take effect at the home does so
in the core's L1. A result all of whose parts have performed arrives in its register. A vqred at the head of a core's queue whose
addition is bound to a lane group adds one entry; with rs2 entries added, it ends with rqprog 0. -/
def OutstandingResults : Prop :=
  ∀ (s : State) (c i index : Nat) (p : Pending), i < 11 → (s.strand c i).pending[index]? = some p →
    let t0 := s.strand c i
    (∀ part q, p.todo[part]? = some q → p.atomic = none → s.mayPerform c i index p q.2 = true →
      Completes (.performLoad c i index part) s (fun t =>
        ((t.strand c i).pending[index]?).map (·.todo) = some (p.todo.eraseIdx part) ∧
        ((t.strand c i).pending[index]?).map (·.got) =
          some (p.got.take q.1 ++ q.2.map (s.readByte (.strand c i)) ++ p.got.drop (q.1 + q.2.length)) ∧
        (∀ r, (t.strand c i).readX r = t0.readX r) ∧ MemoryKept s t)) ∧
    (∀ part q w, p.todo[part]? = some q → p.atomic = some w → w.use ≠ 1 → s.mayPerform c i index p q.2 = true →
      let old := q.2.map ((s.raiseSeen c q.2).readByte (.core c))
      Completes (.performLoad c i index part) s (fun t =>
        ((t.strand c i).pending[index]?).map (·.todo) = some (p.todo.eraseIdx part) ∧
        ((t.strand c i).pending[index]?).map (·.got) =
          some (p.got.take q.1 ++ old ++ p.got.drop (q.1 + q.2.length)) ∧
        (∀ r, (t.strand c i).readX r = t0.readX r) ∧
        (∀ k, k < q.2.length → q.2.getD k 0 ∉ q.2.take k → t.readByte (.core c) (q.2.getD k 0) =
          (if w.op.stores (leNat old) then BitVec.ofNat 8 (w.op.apply q.2.length (leNat old) w.operand / 256 ^ k)
            else old.getD k 0)))) ∧
    (p.todo = [] → p.queued = false → Completes (.resultArrival c i index) s (fun t =>
      (t.strand c i).pending = t0.pending.eraseIdx index ∧ MemoryKept s t ∧
      (∀ rd, p.dst = .x rd → rd ≠ 0 → (t.strand c i).readX rd = extendTo p.bits p.signed p.got) ∧
      (∀ vd, p.dst = .v vd → (t.strand c i).readV vd = lineOf p.got) ∧
      (∀ d, p.dst = .pair d → (d ≠ 0 → (t.strand c i).readX (pairLo d) = BitVec.ofNat 64 (leNat (p.got.take 8))) ∧
        (t.strand c i).readX (pairHi d) = BitVec.ofNat 64 (leNat ((p.got.drop 8).take 8))) ∧
      (∀ r, p.dst ≠ .x r → (∀ d, p.dst = .pair d → r ≠ pairLo d ∧ r ≠ pairHi d) →
        (t.strand c i).readX r = t0.readX r))) ∧
    (∀ e es vd q rs2 w, (s.core c).vqueue = e :: es → e.instr = .vqred vd q rs2 w → e.strand = i →
      s.deferred = true → s.vqredGroup c = none → s.entryReady c e = true → e.xb.toNat ≤ t0.rqprog.toNat →
      ∃ u : State, exec (.vqredStep c) s = .next (u.countEvent c evRetired 1) ∧ (u.core c).vqueue = es ∧
        (u.strand c i).rqprog = 0 ∧ (u.strand c i).fpc = t0.fpc + 4 ∧ (u.strand c i).park = none) ∧
    (∀ e es vd q rs2 w g s1 entry, (s.core c).vqueue = e :: es → e.instr = .vqred vd q rs2 w → e.strand = i →
      s.deferred = true → s.vqredGroup c = some g →
      (s.freeGroup (benchOf c) g).takeEntry c (t0.sink q) = some (s1, entry) →
      exec (.vqredStep c) s = .next (s1.modStrand c i (fun t => t.reduceStep vd w e.rm (match entry with
        | .scalar x => BitVec.ofNat 2048 x.toNat
        | .vector l => l))))

/-! ## The ordering machine (R262-R264) and error correction (R229) -/

/-- R263, R264: the head of a store buffer drains, where no unit holds one of its bytes: it leaves the buffer, its core reads
its bytes, and a location that it does not store, and that no drained store sharing a byte with it stores, reads as before to
every agent. -/
def Drains : Prop :=
  ∀ (s : State) (c i : Nat) (w : Store) (ws : List Store), i < 11 → s.wf → (s.strand c i).storeBuf = w :: ws →
    s.storeHeld c i (w.cells.map (·.1)) = none →
    Completes (.drain c i) s (fun t =>
      (t.strand c i).storeBuf = ws ∧ t.wf ∧
      (∀ loc b, cellAt w.cells loc = some b → t.readByte (.core c) loc = b) ∧
      (∀ a loc, cellAt w.cells loc = none →
        (∀ d, d ∈ s.drained → overlaps d.cells w.cells = true → cellAt d.cells loc = none) →
        t.readByte a loc = s.readByte a loc) ∧
      (∀ d j, ¬(d = c ∧ j = i) → t.strand d j = s.strand d j))

/-- R225, R262, R264, R346: a line that leaves a core's L1 goes to the L2 of its die, where there is room, and its stores one level
up: those at C in that L1 to D, and those at D of the core, or of an engine of its die, to H; a line that only the L2 holds leaves
it, and the stores that it holds at D rise to H. The reservations and watches of the core on the line end and fire. A write back of
a store at H takes it to S: a host then reads its bytes, where no younger store has one; no other agent's reading changes. -/
def Reaches : Prop :=
  ∀ (s : State) (c line : Nat), s.wf →
    let holds := fun (d : Drained) => d.cells.any (fun x => x.1 / 256 == line)
    let inL1 := s.l1.any (fun x => x.core == c && x.line == line)
    let inL2 := s.l2.any (fun x => x.die == dieOf c && x.line == line)
    let room : Prop := (s.l2.filter (fun x => x.die == dieOf c && x.line % 16384 == line % 16384)).length < 24
    let ends := fun (t : State) =>
      (∀ r, r ∈ t.reservations ↔ r ∈ s.reservations ∧ ¬(r.core = c ∧ r.line = line)) ∧
      (∀ w, w ∈ s.watches → w.core = c → w.line = line → { w with fired := true } ∈ t.watches) ∧
      (∀ x, x ∈ t.l1 ↔ x ∈ s.l1 ∧ ¬(x.core = c ∧ x.line = line))
    (s.imageOf line = none → (inL1 = true ∧ room) ∨ (inL1 = false ∧ inL2 = false) → Completes (.evict c line) s (fun t =>
      t.drained = s.drained.map (fun d =>
        { d with reach :=
            if holds d && d.reach == .c && d.core == c && !d.engine then .d
            else if holds d && d.reach == .d && (d.core == c || (d.engine && d.die == dieOf c)) then .h
            else d.reach }) ∧
      t.mem = s.mem ∧ ends t ∧ (inL1 = true → ∃ x, x ∈ t.l2 ∧ x.die = dieOf c ∧ x.line = line))) ∧
    (s.imageOf line = none → inL1 = false → inL2 = true → (∀ k, (s.core k).evmode.getLsbD 1 = false) → Completes (.evict c line) s (fun t =>
      t.drained = s.drained.map (fun d =>
        { d with reach :=
            if holds d && d.reach == .c && d.core == c && !d.engine then .d
            else if holds d && d.reach == .d && (d.core == c || d.die == dieOf c) then .h
            else d.reach }) ∧
      ends t ∧ ∀ x, x ∈ t.l2 ↔ x ∈ s.l2 ∧ ¬(x.die = dieOf c ∧ x.line = line))) ∧
    (∀ n, Completes (.hostWriteBack n) s (fun t =>
      t.wf ∧ (∀ a loc, a ≠ .host → t.readByte a loc = s.readByte a loc) ∧
      (∀ d, s.drained[n]? = some d → d.reach = .h →
        (∀ loc, cellAt d.cells loc = none → t.readByte .host loc = s.readByte .host loc) ∧
        (∀ loc b, cellAt d.cells loc = some b → (∀ m e, m < n → s.drained[m]? = some e → cellAt e.cells loc = none) →
          t.readByte .host loc = b))))

/-- R229, R232, R258, R354, R359: a single-bit error is corrected and counted; a double-bit one, when no outstanding instruction
has still to read the byte, poisons the 32-byte sector of a dirty, scratchpad or code-shelf byte or the line of a v register, and
else drops the clean line; it is counted. The walk that a strand waits for fills the TLBs, or the strand finds that it has failed. A
counter whose event occurs and counts wraps to 0, and with OVIE set its overflow bit is pending. A counter-access record that found
the fault queue full is offered again after 1,024 ticks.
Where it rests on the model's own readings and choices: log entries 64, 101 and 145. -/
def Obligations.MachineEvents : Prop :=
  ∀ (s : State),
    (∀ dirty loc, exec (.eccError false dirty loc) s = .next (s.countAll (s.coresAt loc) evEccSingle 1)) ∧
    (∀ dirty loc, isRegCache loc = false → dirty = true ∨ isScratch loc = true ∨ isShelf loc = true →
      s.stillRead loc = false →
      ∃ u : State, exec (.eccError true dirty loc) s = .next (u.countAll (s.coresAt loc) evEccDouble 1) ∧
        u = { s with poisoned := u.poisoned } ∧ (∀ n, n ∈ u.poisoned ↔ n ∈ s.poisoned ∨ n = loc / 32)) ∧
    (∀ dirty c i r off, c < 4096 → i < 11 → r < 32 → off < 256 → s.stillRead (regLoc c i r off) = false →
      exec (.eccError true dirty (regLoc c i r off)) s =
        .next ((s.modStrand c i (fun t => { t with vPoison := t.vPoison ||| BitVec.ofNat 32 (2 ^ r) })).countAll
          (s.coresAt (regLoc c i r off)) evEccDouble 1)) ∧
    (∀ loc, isRegCache loc = false → isScratch loc = false → isShelf loc = false →
      ∃ u : State, exec (.eccError true false loc) s = .next (u.countAll (s.coresAt loc) evEccDouble 1) ∧
        u = { s with l1 := u.l1, cacheUses := u.cacheUses } ∧ (∀ x, x ∈ u.l1 ↔ x ∈ s.l1 ∧ x.line ≠ loc / 256)) ∧
    (∀ c i va store, i < 11 → (s.strand c i).park = some (.walk va store) → s.hasWalker c i = true →
      let a : Access := if store then .store else .load
      (∀ s1 pa, s.physical (s.xctx c i) a va = .ok (s1, pa) →
        exec (.pageWalk c i va store) s = .next (s1.modStrand c i (fun t => { t with park := none }))) ∧
      (∀ f, s.physical (s.xctx c i) a va = .error f →
        exec (.pageWalk c i va store) s =
          .next (s.modStrand c i (fun t => { t with park := none, failedWalks := va :: t.failedWalks })))) ∧
    (∀ c (n : BitVec 2), (s.core c).evcnt[n.toNat]?.getD 0 = BitVec.ofNat 48 (2 ^ 48 - 1) →
      let e := ((s.core c).evsel[n.toNat]?.getD 0).toNat % 256
      isEvent e = true → s.runsWorld c = true → s.eventCounts c e = true →
      Completes (.counterOverflow c n) s (fun t =>
        (t.core c).evcnt[n.toNat]?.getD 0 = 0 ∧
        (∀ b, (t.core c).ovf.getLsbD b = ((s.core c).ovf.getLsbD b ||
          (b == n.toNat && ((s.core c).evsel[n.toNat]?.getD 0).getLsbD 8))) ∧
        (∀ i r, (t.strand c i).readX r = (s.strand c i).readX r))) ∧
    (∀ c i a op v tick last, i < 11 → (s.strand c i).park = some (.counterReply a op v tick (some last)) →
      (∀ j, j ≠ i → ∀ a op v tick last, (s.strand c j).park ≠ some (.counterReply a op v tick (some last))) →
      1024 ≤ (s.tick - last).toNat →
      let r := s.postFault (s.core c).ld.toNat (s.counterRecord c i a op v tick)
      exec (.counterRecordRetry c) s = .next (r.1.modStrand c i (fun t =>
        { t with park := some (.counterReply a op v tick (if r.2 then none else some s.tick)) })))

/-- R262-R269: the draining of stores, and how far each reaches.
Where it rests on the model's own readings and choices: log entries 5, 30, 105 and 106. -/
def Obligations.DrainsAndReaches : Prop := Drains ∧ Reaches

/-- R106-R108: the vector queue, and the results that a strand waits for.
Where it rests on the model's own readings and choices: log entries 5, 39 and 40. -/
def Obligations.VectorQueue : Prop := VectorQueueEvents ∧ OutstandingResults

/-! ## The matrix unit (R179-R204) -/

/-- A command that multiplies or loads rows: whether it loads, whether it recurs, and its two addresses. -/
def rowCommand (s : State) : Instr → Option (Bool × Bool × Word × Word)
  | .mma _ a b _ => some (false, false, s.x a, s.x b)
  | .mmas _ a b _ => some (false, false, s.x a, s.x b)
  | .mrec _ a b _ => some (false, true, s.x a, s.x b)
  | .mld _ a b _ => some (true, false, s.x a, s.x b)
  | _ => none

/-- R362: no core records its counters' overflows, whose records would be stores of their own. -/
def NoTrace (s : State) : Prop := ∀ c, (s.core c).evmode.getLsbD 1 = false

/-- R184-R186, R189: a command finds its core's matrix queue empty, its prefix legal and its checks passed, which fix `m`; its
core holds the sub-arrays of its group. `s1` is the state in which it runs. -/
structure MatrixReady (s s1 : State) (e : MEntry) (m : MCmd) : Prop where
  cur : s.cur < 11
  now : s.deferred = false ∧ s1.deferred = false
  same : s1.here = s.here ∧ s1.cur = s.cur
  free : (s.core s.here).mqueue = []
  governed : s.me.pp = true → (Prefix.ofWord s.me.kpfx).legal = true
  checked : matrixCheck (s.claimHeld s.here s.me.mcfgw) (s.core s.here).mprog e = .ok m
  holds : s1.holdsGroup s.here m = true
  quiet : NoTrace s ∧ NoTrace s1

/-- R109, R189, R192: a command has completed: its strand goes on, with no prefix pending and row progress 0 where the command
keeps one. -/
def CommandDone (s t : State) (progress : Bool) : Prop :=
  t.me.fpc = s.me.fpc + 4 ∧ t.me.instret = s.me.instret + 1 ∧ t.me.park = none ∧ t.me.pp = false ∧
    t.me.mrp = (if progress then 0 else s.me.mrp)

/-- R196, R197, R199, R203: in every row from mrp on of its region, mma and mmas add to each element the products of the row
of A and the column of B, in the order of R158; mrec runs the microprogram over them; mld replaces the element with the loaded
one. Every other cell of the bench, every x and v register and every byte of memory stay. With K 0 or an empty microprogram no
cell changes. -/
def MatrixRows : Prop :=
  ∀ (s s1 : State) (i : Instr) (loads recurs : Bool) (xa xb : Word) (m : MCmd) (r : MRetire),
    rowCommand s i = some (loads, recurs, xa, xb) → MatrixReady s s1 (s.matrixEntry i xa xb) m → s.drainMine = .ok s1 →
    s1.matrixRetire s.here (s.matrixEntry i xa xb) m = r → r.stop = none → r.s.holdsGroup s.here m = true →
    let h := r.s.bench (benchOf s.here)
    let mrp := s.me.mrp.toNat
    let slots := usedSlots (r.s.core s.here).mprog
    let a := fun row => scaleRow m.scales m.fa r.e.scales 0 row m.k
      (rowElems m.fa m.k (m.scales == .own) (r.e.rowsA.getD (row - mrp) []))
    let value := fun (row col old : Nat) =>
      if loads then
        (m.cls.loadRow m.fmt1 (r.e.rowsA.getD (row - mrp) []) (scaleRow m.scales m.fmt1 r.e.scales 0 row m.cols
          (rowElems (m.cls.rowCode m.fmt1) m.cols (m.scales == .own) (r.e.rowsA.getD (row - mrp) [])))).getD col 0
      else if m.k = 0 ∨ (recurs = true ∧ slots = []) then old
      else if recurs then
        m.cls.word (m.cls.recur slots (a row) (((m.columns r.e).getD col []).map (·.getD Fp.zero)) (m.cls.value old))
      else m.cls.word (m.cls.accumulate (a row).length (a row) ((m.columns r.e).getD col []) (m.cls.value old))
    Completes i s (fun t =>
      let h' := t.bench (benchOf s.here)
      (∀ row col, row < m.rows → col < m.cols →
        h'.elem m row col = if row < mrp then h.elem m row col else value row col (h.elem m row col)) ∧
      (∀ key, (∀ row col, row < m.rows → col < m.cols → key ∉ m.elemKeys row col) → h'.cell key = h.cell key) ∧
      h'.coverage = h.coverage ∧ h'.owner = h.owner ∧ CommandDone s t true ∧
      (∀ q, t.me.readX q = s.me.readX q) ∧ t.me.v = s.me.v ∧ MemoryKept r.s t)

/-- R198, R201: mzero clears every cell of a name and no other; mrd gives vd the 64 cells of a segment, zeros outside the
grid; mwr writes the elements of a v register to them.
Where it rests on the model's own readings and choices: log entry 5. -/
def Obligations.MatrixCells : Prop :=
  ∀ (s s1 : State) (k : BitVec 3) (r x : BitVec 5) (la : BitVec 4) (m : MCmd),
    let h := s1.bench (benchOf s.here)
    let seg := m.segment (s.x x)
    (MatrixReady s s (s.matrixEntry (.mzero k la) 0 0) m → s1 = s → Completes (.mzero k la) s (fun t =>
      let h' := t.bench (benchOf s.here)
      (∀ sub j row col, sub < 4 → j < 2 → row < 64 → col < 64 →
        h'.cell (cellKey sub j row col) =
          if sub ∈ m.group ∧ j = m.j then 0 else h.cell (cellKey sub j row col)) ∧
      h'.coverage = h.coverage ∧ CommandDone s t false ∧ (∀ q, t.me.readX q = s.me.readX q) ∧ t.me.v = s.me.v ∧
      MemoryKept s t)) ∧
    (MatrixReady s s1 (s.matrixEntry (.mrd r k x la) 0 (s.x x)) m → s.useV [r] = .ok s1 → Completes (.mrd r k x la) s (fun t =>
      (∀ n, n < 64 → elemNat (t.v r) 4 n = (match seg[n]? with
        | some key => (h.cell key).toNat
        | none => 0)) ∧
      (∀ q, q ≠ r → t.v q = s1.v q) ∧ t.bench (benchOf s.here) = h ∧ CommandDone s t false ∧
      (∀ q, t.me.readX q = s.me.readX q) ∧ MemoryKept s1 t)) ∧
    (MatrixReady s s1 (s.matrixEntry (.mwr k r x) 0 (s.x x)) m → s.useV [r] = .ok s1 → Completes (.mwr k r x) s (fun t =>
      let h' := t.bench (benchOf s.here)
      (∀ n key, seg[n]? = some key → (h'.cell key).toNat = elemNat (s1.v r) 4 n) ∧
      (∀ key, key ∉ seg → h'.cell key = h.cell key) ∧ h'.coverage = h.coverage ∧ CommandDone s t false ∧
      (∀ q, t.me.readX q = s.me.readX q) ∧ t.me.v = s1.me.v ∧ MemoryKept s1 t))

/-- R190, R200, R212: mst stores each row from mrp on, and cvsave the image of a coverage state, with core scope: the core
reads each stored byte at a location that the command names once, and every location that it does not name as before. -/
def MatrixStores : Prop :=
  ∀ (s s1 : State) (i : Instr) (xa xb : Word) (m : MCmd) (r : MRetire) (bytes : Nat → Nat → Byte),
    MatrixReady s s1 (s.matrixEntry i xa xb) m → s.drainMine = .ok s1 →
    s1.matrixRetire s.here (s.matrixEntry i xa xb) m = r → r.stop = none → r.s.drained = [] →
    let h := r.s.bench (benchOf s.here)
    ((∃ k a b la, i = .mst k a b la ∧ xa = s.x a ∧ xb = s.x b ∧ ∀ row j, bytes row j =
        (m.cls.storeRow m.fmt1 ((List.range m.cols).map (h.elem m (s.me.mrp.toNat + row)))).getD j 0) ∨
      (∃ sa a, i = .cvsave sa a ∧ xa = s.x a ∧ xb = 0 ∧ ∀ row j, bytes row j = (h.cover sa.toNat).image.getD j 0)) →
    (∀ row, row < r.e.locs.length → (r.e.locs.getD row []).length =
      (match i with
      | .mst _ _ _ _ => rowBytes (m.cls.rowCode m.fmt1) m.cols
      | _ => 0x4200)) →
    Completes i s (fun t =>
      (∀ row j loc, (r.e.locs.getD row [])[j]? = some loc →
        (∀ row' j', (r.e.locs.getD row' [])[j']? = some loc → row' = row ∧ j' = j) →
        t.readByte (.core s.here) loc = bytes row j) ∧
      (∀ a loc, loc ∉ r.e.locs.flatten → t.readByte a loc = r.s.readByte a loc) ∧
      t.bench (benchOf s.here) = h ∧ CommandDone s t (progresses i) ∧ (∀ q, t.me.readX q = s.me.readX q) ∧
      t.me.v = s.me.v)

/-- R205-R212: cvinit sets every best value and clears the gains; cvclr clears the gains; cvprobe adds to each gain the sum
over its block of w times the positive part of the element less the best value; cvcommit takes the maximum of a candidate's
column into the block's best values; cvrest takes an image; cvgain gives vd the 64 gains; cvsel gives rd the candidate of
greatest gain, with it. No accumulator cell changes.
Where it rests on the model's own readings and choices: log entry 5. -/
def Obligations.CoverageUnit : Prop :=
  ∀ (s s1 : State) (sa : BitVec 2) (k : BitVec 3) (r a b : BitVec 5),
    let h := s1.bench (benchOf s.here)
    let cover := fun (t : State) (n : Nat) => (t.bench (benchOf s.here)).cover n
    let after := fun (u : State) (i : Instr) (n : Nat) (want : Coverage → Coverage) =>
      let h := u.bench (benchOf s.here)
      n < 4 → Completes i s (fun t =>
        (∀ c, c < 4096 → mapGet 0 (cover t n).best c = mapGet 0 (want (h.cover n)).best c) ∧
        (∀ c, c < 64 → mapGet 0 (cover t n).gain c = mapGet 0 (want (h.cover n)).gain c) ∧
        (cover t n).mode = (want (h.cover n)).mode ∧ (∀ q, q ≠ n → cover t q = h.cover q) ∧
        (t.bench (benchOf s.here)).acc = h.acc ∧ CommandDone s t false ∧ (∀ q, t.me.readX q = s.me.readX q) ∧
        t.me.v = u.me.v ∧ MemoryKept u t)
    (∀ m, s1 = s → MatrixReady s s (s.matrixEntry (.cvinit sa a b) (s.x a) (s.x b)) m →
      after s1 (.cvinit sa a b) sa.toNat (fun _ =>
        { best := wordMap 4096 (fun _ => BitVec.ofNat 32 (s.x a).toNat), gain := [], mode := BitVec.ofNat 2 (s.x b).toNat })) ∧
    (∀ m, s1 = s → MatrixReady s s (s.matrixEntry (.cvclr sa) 0 0) m →
      after s1 (.cvclr sa) sa.toNat (fun v => { v with gain := [] })) ∧
    (∀ m, s.useV [r] = .ok s1 → MatrixReady s s1 (s.matrixEntry (.cvprobe k r b) 0 (s.x b)) m →
      after s1 (.cvprobe k r b) (k.toNat / 2) (fun v =>
        { v with gain := wordMap 64 (fun c => word32Of (round32
            ((f32 (mapGet 0 v.gain c)).add false (h.probeSum m (s1.v r) (s.x b).toNat c)).1)) })) ∧
    (∀ m, s1 = s → MatrixReady s s (s.matrixEntry (.cvcommit k a b) (s.x a) (s.x b)) m →
      after s1 (.cvcommit k a b) (k.toNat / 2) (fun v =>
        { v with best := wordMap 4096 (fun c =>
            if c / 64 = (s.x b).toNat then
              word32Of ((f32 (mapGet 0 v.best c)).maximumNumber
                (f32 (h.cell (cellKey (k.toNat / 2) (k.toNat % 2) (c % 64) (s.x a).toNat))))
            else mapGet 0 v.best c) })) ∧
    (∀ m r', s.drainMine = .ok s1 → MatrixReady s s1 (s.matrixEntry (.cvrest sa a) (s.x a) 0) m →
      s1.matrixRetire s.here (s.matrixEntry (.cvrest sa a) (s.x a) 0) m = r' → r'.stop = none →
      r'.s.holdsGroup s.here m = true →
      after r'.s (.cvrest sa a) sa.toNat (fun _ =>
        let word := fun (off c : Nat) => BitVec.ofNat 32 (leNat (((r'.e.rowsA.headD []).drop (off + 4 * c)).take 4))
        { best := wordMap 4096 (word 0), gain := wordMap 64 (word 0x4000),
          mode := BitVec.ofNat 2 (recNat (r'.e.rowsA.headD []) 0x4100 8) })) ∧
    (∀ m, s.useV [r] = .ok s1 → MatrixReady s s1 (s.matrixEntry (.cvgain r sa) 0 0) m →
      Completes (.cvgain r sa) s (fun t =>
        (∀ n, n < 64 → elemNat (t.v r) 4 n = (mapGet 0 (h.cover sa.toNat).gain n).toNat) ∧ (∀ q, q ≠ r → t.v q = s1.v q) ∧
        t.bench (benchOf s.here) = h ∧ CommandDone s t false ∧ (∀ q, t.me.readX q = s.me.readX q) ∧ MemoryKept s1 t)) ∧
    (∀ m (rd : BitVec 5), s.useV [r] = .ok s1 → MatrixReady s s1 (s.matrixEntry (.cvsel rd sa r) 0 0) m →
      Completes (.cvsel rd sa r) s (fun t =>
        t.x rd = (if rd = 0 then 0 else (h.cover sa.toNat).select (s1.v r)) ∧ (∀ q, q ≠ rd → t.x q = s.x q) ∧
        t.bench (benchOf s.here) = h ∧ CommandDone s t false ∧ t.me.v = s1.me.v ∧ MemoryKept s1 t))

/-- R109, R179, R180, R195, R202: mcfg with a word that breaks a rule of its form gives status 2 and one that claims another
core's sub-array status 1, and nothing else changes; otherwise it claims the sub-arrays and gives 0. mprog loads a valid
microprogram and gives 0, or gives 1 more than its lowest invalid slot. With a prefix pending both are illegal. -/
def MatrixSetup : Prop :=
  ∀ (s : State) (rd a : BitVec 5) (la : BitVec 4), s.cur < 11 → s.deferred = false → (s.core s.here).mqueue = [] →
    NoTrace s →
    let w := s.x a
    let gives := fun (i : Instr) (v : Word) (p : State → Prop) => Completes i s (fun t =>
      t.x rd = (if rd = 0 then 0 else v) ∧ (∀ q, q ≠ rd → t.x q = s.x q) ∧ CommandDone s t false ∧ t.me.v = s.me.v ∧
      MemoryKept s t ∧ p t)
    let wanted := fun (n : Nat) => n < 4 ∧ w.getLsbD n = true
    let taken := ∃ n c, wanted n ∧ (s.bench (benchOf s.here)).owner[n]?.getD none = some c ∧ c ≠ s.here
    (s.me.pp = false →
      (configBad w = true → gives (.mcfg rd a la) 2 (fun t =>
        t.me.mcfgw = s.me.mcfgw ∧ (t.core s.here).samask = (s.core s.here).samask ∧
        t.bench (benchOf s.here) = s.bench (benchOf s.here))) ∧
      (configBad w = false → taken → gives (.mcfg rd a la) 1 (fun t =>
        t.me.mcfgw = s.me.mcfgw ∧ (t.core s.here).samask = (s.core s.here).samask ∧
        t.bench (benchOf s.here) = s.bench (benchOf s.here))) ∧
      (configBad w = false → ¬taken → gives (.mcfg rd a la) 0 (fun t =>
        t.me.mcfgw = w ∧ (t.core s.here).samask = w.extractLsb' 0 4 ∧ (t.core s.here).fuse = w.extractLsb' 8 2 ∧
        (∀ n, wanted n → (t.bench (benchOf s.here)).owner[n]?.getD none = some s.here) ∧
        (∀ n, n < 4 → ¬wanted n → (t.bench (benchOf s.here)).owner[n]?.getD none ≠ some s.here))) ∧
      (∀ j, badSlot w = some j → gives (.mprog rd a) (BitVec.ofNat 64 (j + 1)) (fun t =>
        (t.core s.here).mprog = (s.core s.here).mprog)) ∧
      (badSlot w = none → gives (.mprog rd a) 0 (fun t => (t.core s.here).mprog = w))) ∧
    (s.me.pp = true → ∀ i, i = Instr.mcfg rd a la ∨ i = Instr.mprog rd a →
      exec i s = .next ((s.modMe (fun t => { t with pp := false })).takeTrap s.here s.cur causeIllegal s.currentWord))

/-- R189, R192, R380: the oldest command that has not retired reads its operands, and its strand goes on; the command at the
head of the queue, once it has retired and no earlier vector entry touches its v registers, has its effect, leaves the queue,
and its register result is known. -/
def MatrixQueue : Prop :=
  ∀ (s : State) (c : Nat) (e : MEntry) (m : MCmd), e.strand < 11 → e.chain = none → NoTrace s →
    (∀ r, (s.core c).mqueue.find? (fun x => !x.retired) = some e →
      matrixCheck true ((s.core c).programAt e.stamp) e = .ok m →
      s.matrixRetire c e m = r → r.stop = none → r.e.strand = e.strand →
      Completes (.matrixEntryRetire c) s (fun t =>
        (t.core c).mqueue = (r.s.core c).mqueue.map (fun x => if x.stamp = e.stamp then { r.e with retired := true } else x) ∧
        (t.strand c e.strand).fpc = (r.s.strand c e.strand).fpc + 4 ∧ (t.strand c e.strand).park = none ∧
        (t.strand c e.strand).pp = false ∧ t.benches = r.s.benches ∧ MemoryKept r.s t)) ∧
    (∀ es d, (s.core c).mqueue = e :: es → e.retired = true → s.matrixWaits c e = false →
      matrixCheck true (s.core c).mprog e = .ok m → s.matrixEffect c e m = d →
      Completes (.matrixEntryComplete c) s (fun t =>
        (t.core c).mqueue = (d.1.core c).mqueue.filter (fun x => x.stamp != e.stamp) ∧ t.benches = d.1.benches ∧
        t.drained = d.1.drained ∧ t.mem = d.1.mem ∧
        t.strand c e.strand = (match d.2 with
          | some bs => (d.1.strand c e.strand).settleQueued (matrixDst e.instr) bs
          | none => d.1.strand c e.strand)))

/-- R186-R201: the matrix entries that move rows between memory and the arrays.
Where it rests on the model's own readings and choices: log entries 5, 32, 33, 34, 35, 36 and 37. -/
def Obligations.MatrixMemory : Prop := MatrixRows ∧ MatrixStores

/-- R182-R191: the claims, the set-up, and the matrix queue.
Where it rests on the model's own readings and choices: log entries 5, 28, 34, 38 and 40. -/
def Obligations.MatrixQueueing : Prop := MatrixSetup ∧ MatrixQueue

/-! ## Fences, the tick, barriers, count objects (R29, R138, R264-R291) -/

/-- R262: an agent at the level of a scope, as the issuing strand is placed. -/
def scopeAgent (s : State) (scope : Nat) : Agent :=
  if scope = 0 then .core s.here else if scope ≤ 3 then .die (dieOf s.here) else if scope ≤ 5 then .device else .host

/-- R264, R266, R273: the waits of a fence at a scope are met: no matrix entry of the strand is queued, its loads have
performed, no store of its buffer is held, and at scope 5 or 6 no remote store of it is outstanding and no refusal is due; no line
of a context image leaves the die with the stores, to be sealed (R334). -/
structure FenceReady (s s1 : State) (scope : Nat) : Prop where
  ready : s.ready
  wf : s.wf
  matrix : ∀ e, e ∈ (s.core s.here).mqueue → e.strand ≠ s.cur
  loads : ∀ p, p ∈ s.me.pending → p.todo = []
  drains : s.drainMine = .ok s1
  remote : 5 ≤ scope → s.remoteWaits = false ∧ (s.core s.here).refusalFor s.cur = none
  plain : 4 ≤ scope → ∀ d, d ∈ s1.drained → d.core = s.here → d.engine = false → ∀ x, x ∈ d.cells → s1.imageOf (x.1 / 256) = none

/-- R264: the stores of the strand's buffer have drained, and every store in the core's L1 has risen to the level. -/
def Fenced (s t : State) (scope : Nat) : Prop :=
  t.me.storeBuf = [] ∧
    (∀ d, d ∈ t.drained → d.core = s.here → d.engine = false → (scopeReach scope).rank ≤ d.reach.rank)

/-- R29, R264, R287: a fence of scope 0 to 6 makes every store of the strand's buffer visible to the agents of its scope, and
raises every store in the core's L1 to its level; fence is one at chip scope; no register changes. A release fences first, and
then stores its doubleword, which the agents of the scope read. An acquire loads its doubleword. An address outside the window that
is not of device memory raises the access fault. A scope above 6 is illegal.
Where it rests on the model's own readings and choices: log entries 5, 11 and 29. -/
def Obligations.Fences : Prop :=
  ∀ (s s1 : State) (rd a b scope : BitVec 5) (fm pred succ : BitVec 4),
    (∀ i, (i = .fenceS scope ∧ scope.toNat < 7 ∨ i = .fence rd a fm pred succ ∧ scope = 4) → FenceReady s s1 scope.toNat →
      Completes i s (fun t =>
        Fenced s t scope.toNat ∧
        (∀ loc v, bufferedByte s.me.storeBuf loc = some v → t.readByte (scopeAgent s scope.toNat) loc = v) ∧
        (∀ r, t.x r = s.x r) ∧ t.me.v = s.me.v ∧ Retired s t 4 ∧ t.wf)) ∧
    (∀ u locs, scope.toNat < 7 → (s.x a).toNat % 8 = 0 → s.access .store (s.x a) 8 = .ok (u, locs) →
      syncPlace (s.x a) locs = true → FenceReady u s1 scope.toNat → u.here = s.here → u.me = s.me →
      (∀ f, u.fence scope.toNat = .ok f → f.storeHeld s.here s.cur locs = none) → u.cur = s.cur → locs.length = 8 →
      Completes (.sstRel a b scope) s (fun t =>
        Fenced s t scope.toNat ∧
        (∀ k, k < 8 → once locs k →
          t.readByte (scopeAgent s scope.toNat) (locAt locs k) = BitVec.ofNat 8 ((s.x b).toNat / 256 ^ k)) ∧
        (∀ loc v, loc ∉ locs → bufferedByte s.me.storeBuf loc = some v →
          t.readByte (scopeAgent s scope.toNat) loc = v) ∧
        (∀ r, t.x r = s.x r) ∧ t.me.v = s.me.v ∧ Retired s t 4)) ∧
    (∀ u locs, scope.toNat < 7 → s.ready → s.deferred = false → (s.x a).toNat % 8 = 0 →
      s.loadLocs (s.x a) 8 = .ok (u, locs) → syncPlace (s.x a) locs = true → u.deferred = false →
      exec (.sldAcq rd a scope) s =
        .next ((u.writeX rd (BitVec.ofNat 64 (leNat (locs.map (u.readByte (.strand u.here u.cur)))))).retire 4)) ∧
    (∀ u locs, scope.toNat < 7 → s.ready → (s.x a).toNat % 8 = 0 → inWindow (s.x a) = false → locs.all isDevice = false →
      (s.access .load (s.x a) 8 = .ok (u, locs) →
        exec (.sldAcq rd a scope) s = .next (s.takeTrap s.here s.cur causeLoadAccess (s.x a))) ∧
      (s.access .store (s.x a) 8 = .ok (u, locs) →
        exec (.sstRel a b scope) s = .next (s.takeTrap s.here s.cur causeStoreAccess (s.x a)))) ∧
    (7 ≤ scope.toNat → s.ready → ∀ i, i = .fenceS scope ∨ i = .sstRel a b scope ∨ i = .sldAcq rd a scope →
      exec i s = .next (s.takeTrap s.here s.cur causeIllegal s.currentWord))

/-- R288: tickrd gives rd the tick once the strand's loads have performed; tickw does so once the tick has reached rs1, unsigned,
and parks the strand until then; a tick that reaches the target ends the wait. -/
def Ticks : Prop :=
  ∀ (s : State) (rd a : BitVec 5),
    (s.ready → (∀ p, p ∈ s.me.pending → p.todo = []) → Completes (.tickrd rd) s (fun t =>
      t.x rd = (if rd = 0 then 0 else s.chip.tick) ∧ (∀ r, r ≠ rd → t.x r = s.x r) ∧ Retired s t 4 ∧ OnlyStrand s t ∧
      OnlyX s t)) ∧
    (s.ready → (s.x a).toNat ≤ s.chip.tick.toNat → Completes (.tickw rd a) s (fun t =>
      t.x rd = (if rd = 0 then 0 else s.chip.tick) ∧ (∀ r, r ≠ rd → t.x r = s.x r) ∧ Retired s t 4 ∧ OnlyStrand s t ∧
      OnlyX s t)) ∧
    (s.ready → s.chip.tick.toNat < (s.x a).toNat → Completes (.tickw rd a) s (fun t =>
      t.me = { s.me with park := some (.untilTick (s.x a)) } ∧ OnlyStrand s t)) ∧
    (∀ c i w, i < 11 → (s.strand c i).park = some (.untilTick w) → Completes (.tickwExpiry c i) s (fun t =>
      t.strand c i = (if w.toNat ≤ s.chip.tick.toNat then { s.strand c i with park := none } else s.strand c i) ∧
      (∀ d j, ¬(d = c ∧ j = i) → t.strand d j = s.strand d j) ∧ t.mem = s.mem ∧ t.drained = s.drained))

/-- R276, R279-R281: an arrival of the running slot stands on its channel with the tick: while another live slot has not
arrived, nothing more happens; the last one sends the earliest arrival up the tree, or, on a core that is no member, is
released at once. bwait goes on when no arrival of its slot stands, and waits otherwise, first for the core's helpers; sstep arrives and waits,
and goes on once its arrival is released; outside a launch it only fences and counts its step; with a helper LIVE it waits first. An
arrival of the slot that still stands is waited for. Only the control strand may, and only on levels 0 to 4. -/
def Barriers : Prop :=
  ∀ (s s1 : State) (sel : BitVec 5), s.me.pp = false →
    let ch := s.channelOf s.here sel.toNat
    let k := s.core s.here
    let h := k.channel ch
    let others := k.liveSlots.filter (fun j => j != k.slot && !h.hasArrived j)
    (s.cur < 11 → (s.cur ≠ 0 ∨ 4 < sel.toNat) → ∀ i, i = .barr sel ∨ i = .bwait sel ∨ i = .sstep sel →
      exec i s = .next (s.takeTrap s.here s.cur causeIllegal s.currentWord)) ∧
    (s.cur = 0 → sel.toNat ≤ 4 → h.hasArrived k.slot = false → s.fence h.scope = .ok s1 → s1.core s.here = { k with
        strands := (s1.core s.here).strands } → s1.here = s.here → s1.cur = s.cur → s1.tick = s.tick → s.me.park = none →
      (others ≠ [] → Completes (.barr sel) s (fun t =>
        (t.core s.here).channel ch = { h with arrived := h.arrived ++ [(k.slot, s.tick)] } ∧
        (∀ r, t.x r = s.x r) ∧ t.me.fpc = s.me.fpc + 4 ∧ t.me.park = none)) ∧
      (others = [] → k.liveSlots ≠ [] → h.isMember = true → h.sent = none → Completes (.barr sel) s (fun t =>
        ∃ early, ((t.core s.here).channel ch).sent = some early ∧
          ((t.core s.here).channel ch).arrived = h.arrived ++ [(k.slot, s.tick)] ∧
          (∃ j, (j, early) ∈ h.arrived ++ [(k.slot, s.tick)]) ∧
          (∀ a, a ∈ h.arrived ++ [(k.slot, s.tick)] → early.toNat ≤ a.2.toNat) ∧ t.me.fpc = s.me.fpc + 4)) ∧
      (others = [] → h.isMember = false → s1.me.park = none → h.later = [] → Completes (.barr sel) s (fun t =>
        (t.core s.here).channel ch = { h with arrived := [], sent := none } ∧
        t.me.fpc = s.me.fpc + 4))) ∧
    (s.cur = 0 → sel.toNat ≤ 4 → h.hasArrived k.slot = true →
      exec (.barr sel) s = .next (s.modMe (fun t => { t with park := some (.arrival ch) }))) ∧
    (s.cur = 0 → sel.toNat ≤ 4 → h.hasArrived k.slot = false → s.me.park ≠ some .helpersForBarrier →
      Completes (.bwait sel) s (fun t => Retired s t 4 ∧ (∀ r, t.x r = s.x r) ∧ OnlyStrand s t ∧ OnlyX s t)) ∧
    (s.cur = 0 → sel.toNat ≤ 4 → h.hasArrived k.slot = true → s.helpersAlive = true → Completes (.bwait sel) s (fun t =>
      t.me = { s.me with park := some .helpersForBarrier } ∧ OnlyStrand s t)) ∧
    (s.cur = 0 → sel.toNat ≤ 4 → s.resultsIn s.here s.cur = true → (∀ e, e ∈ k.mqueue → e.strand ≠ s.cur) →
      (s.helpersLive = true → (∀ x, k.slotAt k.slot = some x → x.waiting ≠ some ch ∧ h.hasArrived k.slot = false) →
        exec (.sstep sel) s = .next (s.modMe (fun t => { t with park := some .helpersForBarrier }))) ∧
      (k.slotAt k.slot = none → s.helpersLive = false → s.fence h.scope = .ok s1 → s1.me.instret = s.me.instret → s1.me.fpc = s.me.fpc →
        s1.here = s.here → s1.cur = s.cur → Completes (.sstep sel) s (fun t =>
          t.me.sstepcnt = s1.me.sstepcnt + 1 ∧ Retired s t 4 ∧ (∀ r, t.me.readX r = s1.me.readX r))) ∧
      (∀ x, k.slotAt k.slot = some x → x.waiting = some ch → h.hasArrived k.slot = false →
        s.me.park ≠ some .helpersForBarrier → Completes (.sstep sel) s (fun t =>
          Retired s t 4 ∧ (∀ r, t.x r = s.x r) ∧
          (t.core s.here).slotAt k.slot = some { x with waiting := none })) ∧
      (∀ x, k.slotAt k.slot = some x → x.waiting ≠ some ch → h.hasArrived k.slot = false → s.helpersLive = false → others ≠ [] →
        s.fence h.scope = .ok s1 → s1.core s.here = { k with strands := (s1.core s.here).strands } → s1.here = s.here →
        s1.cur = s.cur → s1.tick = s.tick → s1.helpersAlive = true → Completes (.sstep sel) s (fun t =>
          (t.core s.here).channel ch = { h with arrived := h.arrived ++ [(k.slot, s.tick)] } ∧
          (t.core s.here).slotAt k.slot = some { x with waiting := some ch } ∧
          t.me.park = some .helpersForBarrier ∧ t.me.fpc = s1.me.fpc)))

/-- R278, R280, R282: a group on a chip whose members have all arrived, with none held by a debug stop, is released: the arrival
of each member is gone and the group's SEQ is one more; while a member has not arrived, nothing happens. R289: bmask gives rd a channel's
word and replaces it, at once while no arrival stands on the channel and else at its release, and gives all ones and changes nothing for a channel
above 4, a selector bit that must be zero, or a word that breaks its form. -/
def BarrierGroups : Prop :=
  ∀ (s : State) (c : Nat) (ch : BitVec 3) (rd a b : BitVec 5),
    let ms := s.groupMembers c ch.toNat
    let h := (s.core c).channel ch.toNat
    (c ∈ ms → ms.Nodup → h.span ≠ 2 → ch.toNat < 5 →
      (∀ d, d ∈ ms → (((s.core d).channel ch.toNat).sent).isSome = true ∧ (s.core d).debugStopped = false) →
      (∀ d, d ∈ ms → (s.core d).liveSlots ≠ [] ∧ ((s.core d).channel ch.toNat).later = [] ∧
        ((s.core d).channel ch.toNat).log = 0 ∧ ∀ n, (s.strand d 0).park ≠ some (.barrier n)) →
      Completes (.barrierRelease c ch) s (fun t =>
        t.groupSeq c ch.toNat = s.groupSeq c ch.toNat + 1 ∧
        ∀ d, d ∈ ms → (t.core d).channel ch.toNat = { (s.core d).channel ch.toNat with arrived := [], sent := none })) ∧
    (h.span ≠ 2 → (∃ d, d ∈ ms ∧ ((s.core d).channel ch.toNat).sent = none) → exec (.barrierRelease c ch) s = .next s) ∧
    (s.cur = 0 → s.me.pp = false →
      let sel := s.x b
      let w := s.x a
      let n := field sel 0 3
      let op := field sel 8 2
      let m := (s.core s.here).channel n
      let bad := 4 < n ∨ (∃ bit, 3 ≤ bit ∧ bit ≠ 8 ∧ bit ≠ 9 ∧ sel.getLsbD bit = true) ∨
        (op = 1 ∧ (w.extractLsb' 1 7 ≠ 0 ∨ w.extractLsb' 10 6 ≠ 0 ∨ w.extractLsb' 40 24 ≠ 0 ∨ w.extractLsb' 8 2 = 3#2)) ∨
        (op = 3 ∧ w.extractLsb' 1 7 ≠ 0)
      (bad → exec (.bmask rd a b) s = .next ((s.writeX rd (BitVec.allOnes 64)).retire 4)) ∧
      (¬bad → Completes (.bmask rd a b) s (fun t =>
        let m' := (t.core s.here).channel n
        t.x rd = (if rd = 0 then 0 else if op < 2 then m.member else m.log) ∧ (∀ r, r ≠ rd → t.x r = s.x r) ∧
        Retired s t 4 ∧ (op % 2 = 0 → m' = m) ∧
        (m.arrived = [] → m.sent = none → (op = 1 → s.me.priv ≠ .user → m' = { m with member := w }) ∧
          (op = 1 → s.me.priv = .user → m' = { m with member := m.member &&& ~~~1#64 ||| w &&& 1#64 }) ∧
          (op = 3 → m' = { m with log := w })) ∧
        (m.arrived ≠ [] ∨ m.sent ≠ none → op % 2 = 1 → m' = { m with
          later := m.later ++ [{ membership := op == 1, user := s.me.priv == .user, value := w }] }))))

/-- R283-R286: an arrival at an object of the right generation lowers REMAIN by one and gives 0; another generation, or REMAIN 0,
raises STRAY, saturating, and gives 1 or 3; no object gives 2, and a fault record. abinit gives the object the next generation,
1 after all ones, the count as REMAIN, and no status and no stray. abwait gives the generation and status of an object whose
REMAIN is 0, all ones where there is no object, and otherwise waits as one more WAITER. -/
def CountObjectOperations : Prop :=
  ∀ (s s1 s2 : State) (rd a b : BitVec 5) (locs : List Nat), s.ready → s.deferred = false → s.me.park = none →
    (s.x a).toNat % 64 = 0 → s.access .store (s.x a) 32 = .ok (s1, locs) → locs.all isDevice = true →
    let loc := locs.headD 0
    (s1.fence 4 = .ok s2 → (∀ m, m ∈ s.launches → loc ∉ m.preLocs) → s2.launches = s.launches → s2.decremented = [] →
      s2.me.fpc = s.me.fpc → s2.me.instret = s.me.instret → s2.here = s.here → s2.cur = s.cur →
      let o := s2.atHome loc 32
      let gives := fun (i : Instr) (v : Word) (p : State → Prop) =>
        Completes i s (fun t => t.x rd = (if rd = 0 then 0 else v) ∧ (∀ r, r ≠ rd → t.x r = s2.x r) ∧ Retired s t 4 ∧ p t)
      let gen := (s.x b).extractLsb' 0 32
      let same := fun (t : State) (lo hi : Nat) => ∀ l, (l < loc + lo ∨ loc + hi ≤ l) → t.readByte .device l = o.readByte .device l
      let record := leBytes 2 0x0011 ++ leBytes 2 0 ++ leBytes 2 s2.here ++ leBytes 2 s2.cur ++ leBytes 8 (s.x a).toNat ++
        o.readBytes .device loc 8 ++ leBytes 8 s2.chip.tick.toNat
      (o.coMagic loc ≠ 0x544E434B → gives (.abarr rd a b) 2 (fun t => t.routes = o.routes ∧
        ∀ l, t.readByte .device l = (o.post (s2.core s2.here).ld.toNat 0 record).readByte .device l)) ∧
      (o.coMagic loc = 0x544E434B → o.coGen loc ≠ gen → gives (.abarr rd a b) 1 (fun t =>
        t.coStray loc = min (o.coStray loc + 1) (2 ^ 32 - 1) ∧ same t 0x14 0x18)) ∧
      (o.coMagic loc = 0x544E434B → o.coGen loc = gen → o.coRemain loc = 0 → gives (.abarr rd a b) 3 (fun t =>
        t.coStray loc = min (o.coStray loc + 1) (2 ^ 32 - 1) ∧ same t 0x14 0x18)) ∧
      (o.coMagic loc = 0x544E434B → o.coGen loc = gen → o.coRemain loc ≠ 0 → gives (.abarr rd a b) 0 (fun t =>
        t.coRemain loc = o.coRemain loc - 1 ∧ same t 8 16)) ∧
      gives (.abinit rd a b) (BitVec.ofNat 64 (if o.coMagic loc = 0x544E434B ∧ o.coGen loc ≠ BitVec.allOnes 32
          then (o.coGen loc).toNat + 1 else 1)) (fun t =>
        t.coMagic loc = 0x544E434B ∧ t.coRemain loc = (s.x b).toNat ∧ t.coStatus loc = 0 ∧ t.coStray loc = 0 ∧
        (t.coGen loc).toNat = (if o.coMagic loc = 0x544E434B ∧ o.coGen loc ≠ BitVec.allOnes 32
          then (o.coGen loc).toNat + 1 else 1) ∧ same t 0 0x18)) ∧
    (let o := s1.atHome loc 32
    s1.deferred = false → s1.me = s.me → s1.here = s.here → s1.cur = s.cur →
      (o.coMagic loc ≠ 0x544E434B → exec (.abwait rd a) s = .next ((o.writeX rd (BitVec.allOnes 64)).retire 4)) ∧
      (o.coMagic loc = 0x544E434B → o.coRemain loc = 0 →
        exec (.abwait rd a) s = .next ((o.writeX rd (o.coGen loc ++ o.coStatus loc)).retire 4)) ∧
      (o.coMagic loc = 0x544E434B → o.coRemain loc ≠ 0 → Completes (.abwait rd a) s (fun t =>
        t.me.park = some (.countObject loc (o.coGen loc)) ∧ t.me.fpc = s.me.fpc ∧
        t.coWaiter loc = (o.coWaiter loc + 1) % 2 ^ 32)))

/-- R286: a parked abwait goes on once REMAIN is 0 or the generation is another: WAITER falls by one, and rd is the generation with
the status; else it stays. -/
def CountObjectWaits : Prop :=
  ∀ (s : State) (rd a : BitVec 5) (loc : Nat) (gen : BitVec 32), s.ready → s.deferred = false →
    s.me.park = some (.countObject loc gen) →
    let o := s.atHome loc 32
    (o.coRemain loc = 0 ∨ o.coGen loc ≠ gen → Completes (.abwait rd a) s (fun t =>
      t.x rd = (if rd = 0 then 0 else o.coGen loc ++ o.coStatus loc) ∧ (∀ r, r ≠ rd → t.x r = s.x r) ∧
      t.coWaiter loc = o.coWaiter loc - 1 ∧ Retired s t 4)) ∧
    (o.coRemain loc ≠ 0 → o.coGen loc = gen → Completes (.abwait rd a) s (fun t => t.me = s.me ∧ OnlyStrand s t))

/-- R283-R286: arrivals at count objects, their re-initialisation, and waiting for them.
Where it rests on the model's own readings and choices: log entry 22. -/
def Obligations.CountObjects : Prop := CountObjectOperations ∧ CountObjectWaits

/-- R138: waitev gives rd the doubleword, at once where it differs from rs2; where it does not, it arms the strand's one watch on
the line and waits; a watch that has fired ends the wait, and is disarmed. -/
def WatchedWords : Prop :=
  ∀ (s s1 : State) (rd a b : BitVec 5) (locs : List Nat), s.ready → s.deferred = false → (s.x a).toNat % 8 = 0 →
    s.loadLocs (s.x a) 8 = .ok (s1, locs) → s1.here = s.here → s1.cur = s.cur →
    let v := BitVec.ofNat 64 (leNat (locs.map (s1.readByte (.strand s.here s.cur))))
    let mine := fun (w : Watch) => w.core = s.here ∧ w.strand = s.cur
    let others := s1.watches.filter (fun w => !decide (mine w))
    (s.me.park ≠ some .watchWord → v ≠ s.x b → Completes (.waitev rd a b) s (fun t =>
      t.x rd = (if rd = 0 then 0 else v) ∧ (∀ r, r ≠ rd → t.x r = s1.x r) ∧ t.watches = others ∧ Retired s1 t 4)) ∧
    (s.me.park ≠ some .watchWord → v = s.x b → Completes (.waitev rd a b) s (fun t =>
      t.watches = { core := s.here, strand := s.cur, line := locAt locs 0 / 256, fired := false } :: others ∧
      t.me = { s1.me with park := some .watchWord })) ∧
    (∀ w, s.me.park = some .watchWord → s.watches.find? (fun w => decide (mine w)) = some w →
      (w.fired = true → Completes (.waitev rd a b) s (fun t =>
        t.x rd = (if rd = 0 then 0 else v) ∧ (∀ r, r ≠ rd → t.x r = s1.x r) ∧ t.watches = others ∧ Retired s1 t 4)) ∧
      (w.fired = false → Completes (.waitev rd a b) s (fun t => t.me = s.me ∧ t.watches = s.watches ∧ OnlyStrand s t))) ∧
    (∀ c i w, s.watches.find? (fun w => decide (w.core = c ∧ w.strand = i)) = some w → i < 11 →
      (s.strand c i).park = some .watchWord → Completes (.waitevWake c i) s (fun t =>
        t.strand c i = (if w.fired then { s.strand c i with park := none } else s.strand c i) ∧ t.watches = s.watches))

/-- R138, R288: waiting for a tick, and for a word. -/
def Obligations.TicksAndWatches : Prop := Ticks ∧ WatchedWords

/-- R276-R281: the barrier channels, and the release of their groups.
Where it rests on the model's own readings and choices: log entries 11, 23 and 24. -/
def Obligations.BarrierChannels : Prop := Barriers ∧ BarrierGroups

/-! ## Calls, helpers, the prefix (R61-R66, R109-R125) -/

/-- A call or tail call finds the handle that it calls through: its import slot's, or its register's. `s1` is the state after
the reads, `cur` the record of the current function. -/
def CallTarget (s : State) (i : Instr) (s1 : State) (cur : List Byte) (h : Word) : Prop :=
  (∃ imm u b, (i = .calld imm ∨ i = .tcalld imm) ∧ s.currentRecord = .ok (u, cur) ∧ imm.toNat < recNimp cur ∧
    u.readData u.ctx u.cur (recImph cur + BitVec.ofNat 64 (8 * imm.toNat)) 8 = .ok (s1, b) ∧
    h = BitVec.ofNat 64 (leNat b)) ∨
  (∃ r, (i = .callh r ∨ i = .tcallh r) ∧ s.currentRecord = .ok (s1, cur) ∧ h = s.x r)

/-- Does the instruction leave a return handle in ra? -/
def links : Instr → Bool
  | .calld _ => true
  | .callh _ => true
  | _ => false

/-- R63, R112, R115-R118: a call whose handle passes its checks and whose function is resident enters it at its start, with gp
the data base of its module, and, unless it is a tail call, ra the return handle of its waypoint: the directory index in bits
63 to 40, the waypoint in bits 39 to 24, the function's digest below. A return enters the function of its handle at the
instruction after the waypoint's call, with its gp; fhand gives rd the handle of an import slot. The strand has then retired
one instruction. A function that is not resident parks the strand on a code miss, and one whose handle fails a check raises the
call-handle or return-handle exception.
Where it rests on the model's own readings and choices: log entries 21 and 109. -/
def Obligations.CallsAndReturns : Prop :=
  ∀ (s s1 : State) (cur : List Byte) (h : Word), s.ready → s.resultsIn s.here s.cur = true →
    let enters := fun (i : Instr) (u : State) (r : List Byte) (e : Nat) (fpc : BitVec 24) (gp : Word) (ra : Option Word) =>
      Completes i s (fun t =>
        t.me.curdir = BitVec.ofNat 24 (recDirIdx r) ∧ t.me.fpc = fpc ∧ t.me.pos = .inForm e ∧ t.x 3 = gp ∧
        t.x 1 = ra.getD (u.x 1) ∧ (∀ q, q ≠ 1 → q ≠ 3 → t.x q = u.x q) ∧ t.me.instret = u.me.instret + 1 ∧ t.me.park = none)
    (∀ i s2 s3 r n gp e d, CallTarget s i s1 cur h → s1.checkHandle s1.ctx s1.cur h = .ok (s2, r) →
      (links i = true → s.callWaypoint = .ok n) → s2.dataBase s2.ctx s2.cur r = .ok (s3, gp) →
      (s3.cluster (clusterOf s.here)).lookup (recDigest r) (s3.core s.here).vfNow = some (e, d) →
      s3.here = s.here → s3.cur = s.cur →
      enters i s3 r e 0 gp (if links i then
        some (BitVec.ofNat 64 (s.me.curdir.toNat * 2 ^ 40 + n % 2 ^ 16 * 2 ^ 24 + (recDigest cur).toNat % 2 ^ 24)) else none)) ∧
    (∀ i s2 s3 r n gp, CallTarget s i s1 cur h → s1.checkHandle s1.ctx s1.cur h = .ok (s2, r) →
      (links i = true → s.callWaypoint = .ok n) → s2.dataBase s2.ctx s2.cur r = .ok (s3, gp) →
      (s3.cluster (clusterOf s.here)).lookup (recDigest r) (s3.core s.here).vfNow = none →
      ((s3.cluster (clusterOf s.here)).fetch (recDigest r) (s3.core s.here).vfNow).isSome = true →
      s3.here = s.here → s3.cur = s.cur → Completes i s (fun t =>
        t.me.curdir = BitVec.ofNat 24 (recDirIdx r) ∧ ∃ m, t.me.pos = .miss m ∧ m.digest = recDigest r ∧ m.resume = .entry ∧
          m.saved = s.savedPos s.here s.cur ∧ m.handler = none)) ∧
    (∀ i u, CallTarget s i s1 cur h → s1.checkHandle s1.ctx s1.cur h = .error (.trap causeCallHandle h u) →
      exec i s = .next (u.takeTrap s.here s.cur causeCallHandle h)) ∧
    (∀ rd imm, CallTarget s (.calld imm) s1 cur h → exec (.fhand rd imm) s = .next ((s1.writeX rd h).retire 4)) ∧
    (∀ rs1 s2 s3 r gp e d, s.x rs1 ≠ exitHandle →
      let n := (s.x rs1).toNat / 2 ^ 24 % 2 ^ 16
      (s.x rs1).toNat / 2 ^ 40 < (s.core s.here).nfdir →
      s.readData s.ctx s.cur ((s.core s.here).handle ((s.x rs1).toNat / 2 ^ 40)) 64 = .ok (s2, r) → recValid r = true →
      (s.x rs1).toNat % 2 ^ 24 = (recDigest r).toNat % 2 ^ 24 → n ≠ 0 → s2.dataBase s2.ctx s2.cur r = .ok (s3, gp) →
      (s3.cluster (clusterOf s.here)).lookup (recDigest r) (s3.core s.here).vfNow = some (e, d) → n ≤ d.nwp →
      s3.here = s.here → s3.cur = s.cur →
      enters (.reth rs1) s3 r e (BitVec.ofNat 24 (d.sites.getD (n - 1) 0 + 4)) gp none) ∧
    (∀ rs1, s.x rs1 ≠ exitHandle → (s.core s.here).nfdir ≤ (s.x rs1).toNat / 2 ^ 40 →
      exec (.reth rs1) s = .next (s.takeTrap s.here s.cur causeReturnHandle (s.x rs1)))

/-- R48, R69, R85, R121, R122, R124, R125: start gives the lowest FREE helper its registers, and rd its number, or 0 when none is FREE; hjoin gives 0
for a FREE helper and 1 for no helper; hend, and a return through the exit handle on
a helper, make it ENDING and, once its stores have drained and its results arrived, FREE. pfx with legal fields makes its word
pending, and is illegal otherwise.
Where it rests on the model's own readings and choices: log entries 9 and 109. -/
def Obligations.Helpers : Prop :=
  ∀ (s s1 : State) (rd a b : BitVec 5), s.me.pp = false →
    (s.cur = 0 → ∀ r, s.checkHandle s.ctx s.cur (s.x a) = .ok (s1, r) → s1.here = s.here → s1.cur = 0 →
      (∀ j, 1 ≤ j → j ≤ (s1.core s.here).helpers → (s1.strand s.here j).status ≠ .free) →
        exec (.start rd a b) s = .next ((s1.writeX rd 0).retire 4)) ∧
    (s.cur = 0 → ∀ r s2 s3 gp i, s.checkHandle s.ctx s.cur (s.x a) = .ok (s1, r) → s1.here = s.here → s1.cur = 0 →
      1 ≤ i → i ≤ (s1.core s.here).helpers → i < 11 → (s1.strand s.here i).status = .free →
      (∀ j, 1 ≤ j → j < i → (s1.strand s.here j).status ≠ .free) →
      s1.dataBase s1.ctx s1.cur r = .ok (s2, gp) → s2.drainMine = .ok s3 → s3.here = s.here → s3.cur = 0 →
      Completes (.start rd a b) s (fun t =>
        let h := t.strand s.here i
        h.status = .live ∧ h.readX 10 = s.x b ∧ h.readX 11 = BitVec.ofNat 64 i ∧ h.readX 1 = exitHandle ∧ h.readX 3 = gp ∧
        (∀ k l, (s3.core s.here).launch = some k → s3.launch k = some l →
          h.readX 2 = BitVec.ofNat 64 (stackTop k l.lpb s3.me.vpeid i) ∧ h.readX 4 = localBase k s3.me.vpeid i) ∧
        (∀ q, q ≠ 1 → q ≠ 2 → q ≠ 3 → q ≠ 4 → q ≠ 10 → q ≠ 11 → h.readX q = 0) ∧
        h.curdir = BitVec.ofNat 24 (recDirIdx r) ∧ h.fpc = 0 ∧ h.pos = .first r ∧ h.priv = s3.me.priv ∧
        h.pp = false ∧ h.vround = s3.me.vround ∧ h.vfflags = 0 ∧ h.park = none ∧ h.pending = [] ∧ h.mrp = 0 ∧
        h.vpeid = s3.me.vpeid ∧ h.vpecnt = s3.me.vpecnt ∧ h.sstepcnt = s3.me.sstepcnt ∧
        t.x rd = (if rd = 0 then 0 else BitVec.ofNat 64 i) ∧ (∀ q, q ≠ rd → t.x q = s3.x q) ∧
        t.me.fpc = s3.me.fpc + 4 ∧ (∀ j, j ≠ 0 → j ≠ i → t.strand s.here j = s3.strand s.here j))) ∧
    (s.cur = 0 → let n := (s.x a).toNat
      (n = 0 ∨ 10 < n → exec (.hjoin rd a) s = .next ((s.writeX rd 1).retire 4)) ∧
      (1 ≤ n → n ≤ 10 → (s.strand s.here n).status = .free → exec (.hjoin rd a) s = .next ((s.writeX rd 0).retire 4)) ∧
      (1 ≤ n → n ≤ 10 → (s.strand s.here n).status ≠ .free →
        Completes (.hjoin rd a) s (fun t => OnlyStrand s t ∧ t.me = { s.me with park := some (.helperFree n) }))) ∧
    (0 < s.cur → s.cur < 11 → s.resultsIn s.here s.cur = true → (∀ e, e ∈ (s.core s.here).mqueue → e.strand ≠ s.cur) →
      ∀ i, (i = .hend ∨ (i = .reth a ∧ s.x a = exitHandle)) → Completes i s (fun t =>
        t.me.instret = s.me.instret + 1 ∧ t.me.pos = .nowhere ∧ t.me.park = none ∧ t.me.heldS = [] ∧
        (∀ q, t.x q = s.x q) ∧ (s.deferred = true → t.me.status = .ending) ∧
        (s.deferred = false → s.me.storeBuf = [] → t.me.status = .free ∧ MemoryKept s t))) ∧
    (∀ c i, i < 11 → (s.strand c i).status = .ending → (s.strand c i).pending = [] → s.vectorIdle c i = true →
      (s.strand c i).storeBuf = [] → Completes (.helperFree c i) s (fun t =>
        t.strand c i = (s.strand c i).ended ∧ (t.strand c i).status = .free ∧ t.mem = s.mem ∧ t.drained = s.drained ∧
        (∀ d j, ¬(d = c ∧ j = i) → t.strand d j = s.strand d j))) ∧
    (∀ fmt1 fmt2 n smode, s.cur < 11 →
      let legal := fmt1.toNat < 12 ∧ fmt2.toNat < 12 ∧ (n.toNat = 0 ∨ n.toNat = 6 ∨ n.toNat = 8 ∨ n.toNat = 12 ∨ n.toNat = 16) ∧
        (smode.toNat = 0 → a = 0) ∧ (smode.toNat = 1 ∨ smode.toNat = 2 → a ≠ 0)
      (legal → Completes (.pfx fmt1 fmt2 n smode a) s (fun t =>
        OnlyStrand s t ∧ Retired s t 4 ∧ (∀ q, t.x q = s.x q) ∧ t.me.v = s.me.v ∧ t.me.pp = true ∧
        t.me.kpfx = BitVec.ofNat 32 (11 + fmt1.toNat * 2 ^ 7 + 3 * 2 ^ 12 + fmt2.toNat * 2 ^ 15 + a.toNat * 2 ^ 20 +
          smode.toNat * 2 ^ 25 + n.toNat * 2 ^ 27))) ∧
      (¬legal → exec (.pfx fmt1 fmt2 n smode a) s = .next (s.takeTrap s.here s.cur causeIllegal s.currentWord)))

/-- R123: hpoll, which the control strand may execute, writes 1 in bit 0, in bit j, for j from 1 to 10, whether helper j is LIVE or
ENDING, and 0 in every other bit. -/
def Obligations.HelperStates : Prop :=
  ∀ (s : State) (rd : BitVec 5), s.me.pp = false → s.cur = 0 → Completes (.hpoll rd) s (fun t =>
    (rd ≠ 0 → ∀ j, j < 64 → (t.x rd).getLsbD j =
      (j == 0 || (decide (1 ≤ j ∧ j ≤ 10) &&
        ((s.strand s.here j).status == .live || (s.strand s.here j).status == .ending)))) ∧
    t.x 0 = 0 ∧ (∀ q, q ≠ rd → t.x q = s.x q) ∧ OnlyStrand s t ∧ Retired s t 4)

/-! ## Contexts and worlds (R134-R137, R332-R336) -/

/-- R134, R135, R332, R334: ctxflush by a privileged strand holds each other strand of its mask until it stands still, and then
saves it to its image: the device reads its register lines there, and the lines of the image that it wrote leave the die and are
sealed; rd is the mask. ctxload restores a strand of its mask that is not LIVE from an image that may be
loaded: one that is recorded as FREE or ENDING has its registers, its position and its CSRs, is FREE, and fills its v registers
from the image before it uses them. In user mode both are illegal. -/
def Contexts : Prop :=
  ∀ (s s1 s2 : State) (rd a : BitVec 5) (i : Nat) (locs : List Nat), s.ready → i ≠ s.cur → i < 11 →
    s.x a = BitVec.ofNat 64 (2 ^ i) →
    let base := (s.strand s.here i).ctxbase
    let rdIs := fun (t : State) (w : Word) => t.x rd = (if rd = 0 then 0 else w) ∧ (∀ q, q ≠ rd → t.x q = s.x q)
    (s.me.priv = .user → exec (.ctxflush rd a) s = .next (s.takeTrap s.here s.cur causeIllegal s.currentWord) ∧
      exec (.ctxload rd a) s = .next (s.takeTrap s.here s.cur causeIllegal s.currentWord)) ∧
    (s.me.priv ≠ .user → (∀ e, e ∈ (s.core s.here).mqueue → e.strand ≠ s.cur) → s.standsStill s.here i = false →
      Completes (.ctxflush rd a) s (fun t => t.me = { s.me with park := some .holding } ∧
        (t.strand s.here i).onHold = true ∧ MemoryKept s t)) ∧
    (s.me.priv ≠ .user → (∀ e, e ∈ (s.core s.here).mqueue → e.strand ≠ s.cur) → s.standsStill s.here i = true →
      let u := s.modStrand s.here i (fun x => { x with onHold := false })
      u.imageReach u.imageCtx .store base = .ok (s1, locs) → (s1.drainAll s.here i).onDie locs = .ok s2 → locs.length = 0x2400 → s2.me = s.me → s2.here = s.here →
      s2.cur = s.cur → Completes (.ctxflush rd a) s (fun t =>
        rdIs t (s.x a) ∧ Retired s t 4 ∧ (t.strand s.here i).vDirty = 0 ∧ (t.strand s.here i).onHold = false ∧
        ∃ (s3 : State) (ls : List Nat), (∀ k, k < 512 → once locs k → s3.readByte .device (locAt locs k) =
          (if k < 256 then BitVec.ofNat 8 (((s.strand s.here i).readX (BitVec.ofNat 5 (k / 8))).toNat / 256 ^ (k % 8))
          else BitVec.ofNat 8 (((s.strand s.here i).readP (BitVec.ofNat 3 ((k - 256) / 32))).toNat / 256 ^ (k % 32)))) ∧
        (∀ k, k < 0x300 → lineNo (locAt locs k) ∈ ls) ∧
        MemoryKept (s3.sealLines ls) t ∧ t.sealedLines = (s3.sealLines ls).sealedLines ∧
        (∀ r, (t.strand s.here i).readX r = (s2.strand s.here i).readX r))) ∧
    (s.me.priv ≠ .user → (s.strand s.here i).status ≠ .live →
      s.translate s.imageCtx .load (base + 0x400) 0x400 = .ok (s1, locs) → (s1.noteImageAt s.here base).onDie locs = .ok s2 → locs.length = 0x400 →
      s2.me = s.me → s2.here = s.here → s2.cur = s.cur →
      let b := fun (k n : Nat) => leNat ((List.range n).map (fun j => s2.readByte (.strand s.here s.cur) (locAt locs (k + j))))
      (b 0x208 1 = 0 ∨ b 0x208 1 = 2) → b 0x209 1 < 2 → b 0x20A 1 < 2 → Completes (.ctxload rd a) s (fun t =>
        let h := t.strand s.here i
        rdIs t (s.x a) ∧ Retired s t 4 ∧ h.status = .free ∧
        (∀ r : BitVec 5, r ≠ 0 → (h.readX r).toNat = b (8 * r.toNat) 8) ∧
        (∀ p : BitVec 3, p ≠ 0 → (h.readP p).toNat = b (256 + 32 * p.toNat) 32) ∧
        h.curdir.toNat = b 0x200 4 % 2 ^ 24 ∧ h.fpc.toNat = b 0x204 4 % 2 ^ 24 ∧ h.mrp.toNat = b 0x250 8 ∧
        h.gsel.toNat = b 0x258 8 ∧ h.rqprog.toNat = b 0x260 8 ∧ h.instret.toNat = b 0x268 8 ∧ h.stvec.toNat = b 0x2B8 8 ∧
        h.sepc = BitVec.ofNat 64 (b 0x2C8 8) &&& 0xFFFFFF0001FFFFFF#64 ∧ h.vAbsent = BitVec.allOnes 32 ∧ h.vDirty = 0 ∧ MemoryKept s2 t))

/-- R136, R137: wsw by machine mode on a server core gives 1 for a core that is no worker, and 2 for a descriptor that breaks its
layout; with descriptor 0 on a core that holds no world, every strand of the core is FREE, its FIFOs are empty, its claims are
released and it holds none. Before the core stops, the strand
waits, and no strand of the core goes on. A descriptor that keeps the layout gives the core its VF, its LD, its key slot and its counters, the
ctxbase of each strand, and then loads the strands. Elsewhere it is illegal. -/
def WorldSwitches : Prop :=
  ∀ (s : State) (rd a b : BitVec 5), s.ready →
    ((s.me.priv ≠ .machine ∨ s.isServer s.here = false) →
      exec (.wsw rd a b) s = .next (s.takeTrap s.here s.cur causeIllegal s.currentWord)) ∧
    (s.me.priv = .machine → s.isServer s.here = true → s.resultsIn s.here s.cur = true →
      (∀ e, e ∈ (s.core s.here).mqueue → e.strand ≠ s.cur) →
      let c := (s.x a).toNat
      let d := s.x b
      (4096 ≤ c ∨ s.isServer c = true → exec (.wsw rd a b) s = .next ((s.writeX rd 1).retire 4)) ∧
      (c < 4096 → s.isServer c = false → d ≠ 0 → d.toNat % 64 ≠ 0 →
        exec (.wsw rd a b) s = .next ((s.writeX rd 2).retire 4)) ∧
      (∀ s1 desc, c < 4096 → s.isServer c = false → d ≠ 0 → d.toNat % 64 = 0 → s.readData s.ctx s.cur d 128 = .ok (s1, desc) →
        (leNat (desc.take 4) ≠ 0x444C574B ∨ 63 < recNat desc 4 1 ∨ recNat desc 5 1 ≠ recNat desc 4 1 / 4 ∨ 127 < recNat desc 6 2) →
        exec (.wsw rd a b) s = .next ((s1.writeX rd 2).retire 4)) ∧
      (c < 4096 → s.isServer c = false → d = 0 → s.canStop c = false → Completes (.wsw rd a b) s (fun t =>
        t.me = { s.me with park := some (.worldStop c) } ∧ (t.core c).stopping = true ∧ MemoryKept s t)) ∧
      (c < 4096 → s.isServer c = false → d = 0 → s.canStop c = true → (s.core c).wdesc = 0 →
        Completes (.wsw rd a b) s (fun t =>
          t.x rd = 0 ∧ (∀ q, q ≠ rd → t.x q = s.x q) ∧ Retired s t 4 ∧ (t.core c).wdesc = 0 ∧ (t.core c).stopping = false ∧
          (∀ i, i < 11 → (t.strand c i).status = .free ∧ (t.strand c i).park = none) ∧
          (∀ q, q < 8 → (t.core c).fifo q = []) ∧ (t.core c).samask = 0 ∧ (∀ r, r ∈ t.reservations → r.core ≠ c) ∧
          (∀ e, e < 4 → (t.bench (benchOf c)).owner[e]?.getD none ≠ some c))) ∧
      (∀ s1 s2 desc tab s3 done, c < 4096 → s.isServer c = false → d ≠ 0 → d.toNat % 64 = 0 →
        s.readData s.ctx s.cur d 128 = .ok (s1, desc) → descriptorBad desc = false → s1.canStop c = true →
        (s1.core c).wdesc = 0 →
        let u := ((s1.modCore c (fun k => { k with stopping := false })).modBench (benchOf c) (fun b =>
          { b with regCache := b.regCache.filter (fun l => l.core != c || l.out.isSome) })).haltCore c
        ∀ s9, u.readData u.ctx u.cur d 128 = .ok (s9, desc) →
        s9.readData s9.ctx s9.cur (recWord desc 8) 88 = .ok (s2, tab) →
        (let s4 := s2.modCore c (fun k => { k with
            vf := BitVec.ofNat 6 (recNat desc 4 1), ld := BitVec.ofNat 4 (recNat desc 5 1), keyslot := recNat desc 6 2,
            evsel := Vector.ofFn (fun (n : Fin 4) => recWord desc (0x10 + 8 * n.val)),
            evcnt := Vector.ofFn (fun (n : Fin 4) => BitVec.ofNat 48 (recNat desc (0x30 + 8 * n.val) 6)),
            evallow := Vector.ofFn (fun (n : Fin 4) => recWord desc (0x50 + 8 * n.val)), evmode := recWord desc 0x70,
            ovf := BitVec.ofNat 4 (recNat desc 0x78 1), wdesc := d })
          let s5 := (List.range 11).foldl (fun (u : State) n =>
            u.modStrand c n (fun x => { x with ctxbase := recWord tab (8 * n) })) s4
          s5.loadStrands s5.imageCtx c ((List.range 11).map (fun n => (n, recWord tab (8 * n)))) true = .ok (s3, done)) →
        exec (.wsw rd a b) s = .next (((s3.notCountedAt c).writeX rd 0).retire 4)))

/-- R134-R137, R332-R336: contexts and worlds.
Where it rests on the model's own readings and choices: log entries 14 and 69. -/
def Obligations.ContextsAndWorlds : Prop := Contexts ∧ WorldSwitches

/-! ## System calls, notifications, marks, services (R128-R131, R139, R342-R349) -/

/-- The packet of a ticket stands in a core's queue, keeps its form, names this service, may run now, and its logical device
has accepted the service. -/
def Serves (s : State) (c : Nat) (ticket : BitVec 32) (service : Nat) (p : Packet) : Prop :=
  (s.core c).syscalls.find? (fun q => q.ticket == ticket) = some p ∧ recNat p.bytes 0 2 = service ∧
    recNat p.bytes 2 6 = 0 ∧ (s.ld (s.core c).ld.toNat).serves service = true ∧
    mayServe ((s.core c).syscalls.takeWhile (fun q => q.ticket != ticket)) p = true

/-- R130: the packet of a ticket has left its core's queue with a completion status. -/
def Served (s t : State) (c : Nat) (ticket : BitVec 32) (code value : Nat) : Prop :=
  (t.core c).syscalls = (s.core c).syscalls.filter (fun q => q.ticket ≠ ticket) ∧
    (t.core c).completed = ((ticket, BitVec.ofNat 64 (value % 2 ^ 32 * 2 ^ 32 + code)) :: (s.core c).completed).take 64

/-- R128-R131, R139: sysc appends its 64 bytes to the core's queue under the next ticket, which it gives rd, and waits while the
queue holds 32; sysw gives the status of a completed ticket, all ones for one that is neither queued nor kept, and waits for a
queued one; nfy posts its record, at system scope, to the queue that rs2 names among those of DIR 0, and gives 0, or 1 when it
was full, 2 for no such queue and 3 for a device record kind; mark leaves every register. -/
def SystemCalls : Prop :=
  ∀ (s s1 : State) (rd a b : BitVec 5) (dep : BitVec 1) (bytes : List Byte), s.ready →
    let k := s.core s.here
    let ticket := BitVec.ofNat 32 (s.x a).toNat
    ((s.x a).toNat % 64 = 0 → k.syscalls.length < 32 → s.loadNow (s.x a) 64 = .ok (s1, bytes) → s1.here = s.here →
      s1.cur = s.cur → Completes (.sysc rd a dep) s (fun t =>
        (t.core s.here).syscalls = (s1.core s.here).syscalls ++
          [{ bytes := bytes, ticket := (s1.core s.here).ticket, strong := dep == 1, strand := s.cur }] ∧
        (t.core s.here).ticket.toNat = (if (s1.core s.here).ticket.toNat = 2 ^ 32 - 1 then 1
          else (s1.core s.here).ticket.toNat + 1) ∧
        t.x rd = (if rd = 0 then 0 else BitVec.ofNat 64 (s1.core s.here).ticket.toNat) ∧ (∀ q, q ≠ rd → t.x q = s1.x q) ∧
        t.me.fpc = s1.me.fpc + 4)) ∧
    ((s.x a).toNat % 64 = 0 → 32 ≤ k.syscalls.length → Completes (.sysc rd a dep) s (fun t =>
      OnlyStrand s t ∧ t.me = { s.me with park := some .syscallQueue })) ∧
    ((∀ p, p ∈ k.syscalls → p.ticket ≠ ticket) → Completes (.sysw rd a) s (fun t =>
      t.x rd = (if rd = 0 then 0 else match k.completed.find? (fun p => p.1 == ticket) with
        | some p => p.2
        | none => BitVec.allOnes 64) ∧ (∀ q, q ≠ rd → t.x q = s.x q) ∧ OnlyStrand s t ∧ OnlyX s t ∧ Retired s t 4)) ∧
    (∀ p, p ∈ k.syscalls → p.ticket = ticket → Completes (.sysw rd a) s (fun t =>
      OnlyStrand s t ∧ t.me = { s.me with park := some (.ticket ticket) })) ∧
    ((s.x a).toNat % 32 = 0 → s.loadNow (s.x a) 32 = .ok (s1, bytes) → s1.here = s.here → s1.cur = s.cur →
      let blocks := s1.queueBlocks (s1.core s.here).ld.toNat 0
      (blocks[(s.x b).toNat]? = none → exec (.nfy rd a b) s = .next ((s1.writeX rd 2).retire 4)) ∧
      (∀ q, blocks[(s.x b).toNat]? = some q → recNat bytes 0 2 < 0x100 →
        exec (.nfy rd a b) s = .next ((s1.writeX rd 3).retire 4)) ∧
      (∀ q s2, blocks[(s.x b).toNat]? = some q → 0x100 ≤ recNat bytes 0 2 → s1.fence 6 = .ok s2 →
        exec (.nfy rd a b) s = .next (((s2.postTo q bytes).1.writeX rd
          (if (s2.postTo q bytes).2 then 1 else 0)).retire 4))) ∧
    Completes (.mark a) s (fun t => (∀ q, t.x q = s.x q) ∧ t.me.v = s.me.v ∧ Retired s t 4 ∧ t.moves = s.moves ∧
      (∀ c i, ¬(c = s.here ∧ i = s.cur) → t.strand c i = s.strand c i)) ∧
    (k.evmode.getLsbD 1 = false → Completes (.mark a) s (fun t => OnlyStrand s t))

/-- R344: a record posted to a queue that is not full stands at PI, and PI is one more; at a full one, OVF is set, and the
record is dropped. R362, R363: mark with TRACE set puts its record into the ring, whose count rises. -/
def Records : Prop :=
  ∀ (s : State) (q : Nat) (r : List Byte), r.length = 32 →
    let pi := s.readNat .device (q + 0x10) 4
    let ci := s.readNat .device (q + 0x14) 4
    let logn := s.readNat .device (q + 8) 1
    let slot := s.readNat .device q 8 % 2 ^ 42 + 32 * (pi % 2 ^ logn)
    (logn < 32 → (pi + 2 ^ 32 - ci) % 2 ^ 32 ≠ 2 ^ logn → (slot + 32 ≤ q ∨ q + 32 ≤ slot) →
      (s.postTo q r).2 = false ∧ (∀ k, k < 32 → (s.postTo q r).1.readByte .host (slot + k) = r.getD k 0) ∧
      (s.postTo q r).1.readNat .host (q + 0x10) 4 = (pi + 1) % 2 ^ 32) ∧
    ((pi + 2 ^ 32 - ci) % 2 ^ 32 = 2 ^ logn → (s.postTo q r).2 = true ∧
      (s.postTo q r).1.readNat .host (q + 0xC) 4 = s.readNat .device (q + 0xC) 4 ||| 1) ∧
    (∀ a, s.ready → (s.core s.here).evmode.getLsbD 1 = true →
      let base := (s.core s.here).traceBase
      let n := s.readNat .device base 8
      let loc := base + 32 + 32 * (n % 2 ^ ((s.core s.here).evmode.toNat / 256 % 16 + 7))
      isDevice (base + 7) = true → isDevice (loc + 31) = true → Completes (.mark a) s (fun t =>
        t.readNat .device base 8 = (n + 1) % 2 ^ 64 ∧ t.readNat .device (loc + 16) 8 = (s.x a).toNat))

/-- R129, R130, R342, R348, R349: the executive serves a packet that may run, and the packet leaves the queue with its status: NOP
gives OK; one with reserved bytes gives BAD_ARG and an unknown service UNKNOWN; MAP and UNMAP of a range that is not canonical
give BAD_ARG, of no bytes OK and 0 pages, and of others OK and the number of pages, once the cores of the virtual function have
acknowledged the shootdown; ETH_SEND reads the payload as the host sees it, and it leaves on the queue pair, or is
flushed where the pair is in error; ETH_RECV posts a buffer and gives the number posted; STORE_READ writes the object's bytes at
system scope, and STORE_WRITE sends the bytes that the object takes; a relaxed packet may
read, or write, a granule of its buffer earlier. An incoming Send fills the oldest posted buffer and leaves a
completion; an invalid request puts the pair in error; the completion of a send takes it from the pair.
Where it rests on the model's own readings and choices: log entries 70, 71, 72, 73, 74 and 75. -/
def Obligations.Services : Prop :=
  ∀ (s s1 : State) (c : Nat) (ticket : BitVec 32) (p : Packet) (bs : List Byte) (locs : List Nat),
    let ld := (s.core c).ld
    (Serves s c ticket 1 p → Completes (.nop c ticket) s (fun t => Served s t c ticket 0 0)) ∧
    ((s.core c).syscalls.find? (fun q => q.ticket == ticket) = some p →
      mayServe ((s.core c).syscalls.takeWhile (fun q => q.ticket != ticket)) p = true →
      (recNat p.bytes 2 6 ≠ 0 → Completes (.syscallUnknown c ticket) s (fun t => Served s t c ticket 2 0)) ∧
      (recNat p.bytes 2 6 = 0 → (s.ld ld.toNat).serves (recNat p.bytes 0 2) = false →
        Completes (.syscallUnknown c ticket) s (fun t => Served s t c ticket 1 0)) ∧
      (∀ code value, recNat p.bytes 2 6 = 0 → code ≤ 5 → value < 2 ^ 32 →
        Completes (.syscallComplete c ticket (BitVec.ofNat 64 (value * 2 ^ 32 + code))) s (fun t =>
          Served s t c ticket code value))) ∧
    (Serves s c ticket 0x10 p → rangeCanonical (recWord p.bytes 8) (recWord p.bytes 16).toNat = false → ∀ frames,
      Completes (.map c ticket frames) s (fun t => Served s t c ticket 2 0 ∧ MemoryKept s t)) ∧
    (Serves s c ticket 0x10 p → (s.core c).mappable (recWord p.bytes 8) 0 = true → recWord p.bytes 16 = 0 →
      s.shootAll ((s.core c).rangeShootdown 0 0) = some s1 → ∀ frames,
      Completes (.map c ticket frames) s (fun t => Served s1 t c ticket 0 0 ∧ MemoryKept s1 t)) ∧
    (Serves s c ticket 0x10 p → (s.core c).mappable (recWord p.bytes 8) (recWord p.bytes 16).toNat = true → ∀ s2 frames,
      (recWord p.bytes 16).toNat < 2 ^ 30 → (recWord p.bytes 16).toNat ≠ 0 →
      let pages := (List.range (((recWord p.bytes 8).toNat % 4096 + (recWord p.bytes 16).toNat + 4095) / 4096)).map (fun n =>
        BitVec.ofNat 64 ((recWord p.bytes 8).toNat / 4096 * 4096 + 4096 * n))
      s.mapPages ((s.core c).satp.toNat % 2 ^ 44) pages ((frames.eraseDups).filter (· < devicePages)) = some s1 →
      s1.shootAll ((s.core c).rangeShootdown (pages.headD 0) (4096 * pages.length)) = some s2 →
      Completes (.map c ticket frames) s (fun t =>
        Served s2 t c ticket 0 pages.length ∧ t.drained = s2.drained ∧ t.mem = s2.mem)) ∧
    (Serves s c ticket 0x11 p → rangeCanonical (recWord p.bytes 8) (recWord p.bytes 16).toNat = false →
      Completes (.unmap c ticket) s (fun t => Served s t c ticket 2 0 ∧ MemoryKept s t)) ∧
    (Serves s c ticket 0x11 p → (s.core c).mappable (recWord p.bytes 8) 0 = true → recWord p.bytes 16 = 0 →
      s.shootAll ((s.core c).rangeShootdown 0 0) = some s1 →
      Completes (.unmap c ticket) s (fun t => Served s1 t c ticket 0 0 ∧ MemoryKept s1 t)) ∧
    (Serves s c ticket 0x11 p → (s.core c).mappable (recWord p.bytes 8) 4096 = true → recWord p.bytes 16 = 4096 →
      (recWord p.bytes 8).toNat % 4096 = 0 → ∀ l,
      s.walkFrom (dieOf c) ((recWord p.bytes 8).toNat / 2 ^ 12 % 2 ^ 36) 3 ((s.core c).satp.toNat % 2 ^ 44) = .ok l →
      l.sizeBits = 12 →
      (s.commitSystem (cellsAt l.loc (List.replicate 8 0))).shootAll
        ((s.core c).rangeShootdown (recWord p.bytes 8) 4096) = some s1 →
      Completes (.unmap c ticket) s (fun t => Served s1 t c ticket 0 1 ∧ MemoryKept s1 t)) ∧
    (∀ q, Serves s c ticket 0x20 p → s.qps.find? (fun q => q.ld == ld && q.number == (recWord p.bytes 8).toNat) = some q →
      s.serviceBytes c p.started (recWord p.bytes 16) (recWord p.bytes 24).toNat = some (s1, bs) → q.error = false →
      (s1.core c).syscalls = (s.core c).syscalls → (s1.core c).completed = (s.core c).completed →
      Completes (.ethSend c ⟨ticket, none⟩) s (fun t =>
        Served s t c ticket 0 0 ∧ t.outbox = s1.outbox ++ [.eth ld q.number bs] ∧
        ({ q with sends := q.sends ++ [recWord p.bytes 32] } ∈ t.qps ∨ q ∉ s1.qps))) ∧
    (Serves s c ticket 0x21 p → (recWord p.bytes 8).toNat < 64 →
      s.serviceLocs c .store (recWord p.bytes 16) (recWord p.bytes 24).toNat = some (s1, locs) →
      (s1.core c).syscalls = (s.core c).syscalls → (s1.core c).completed = (s.core c).completed →
      Completes (.ethRecv c ticket) s (fun t =>
        t.srqBuffers = s1.srqBuffers ++
          [{ ld := ld, srq := (recWord p.bytes 8).toNat, locs := locs, cookie := recWord p.bytes 32 }] ∧
        Served s t c ticket 0 (t.posted ld (recWord p.bytes 8).toNat).length)) ∧
    (∀ data, Serves s c ticket 0x30 p →
      s.serviceLocs c .store (recWord p.bytes 24) (recWord p.bytes 32).toNat = some (s1, locs) →
      (s1.core c).syscalls = (s.core c).syscalls → (s1.core c).completed = (s.core c).completed →
      Completes (.storeRead c ⟨ticket, none⟩ data) s (fun t =>
        Served s t c ticket 0 (min locs.length data.length) ∧
        (∀ k, k < data.length → k < locs.length → once locs k →
          (∀ g, g ∈ p.started → g.1 ≠ ((recWord p.bytes 24).toNat % 32 + k) / 32) →
          t.readByte .host (locAt locs k) = data.getD k 0))) ∧
    (∀ data g, p.strong = false → Serves s c ticket 0x30 p →
      s.serviceLocs c .store (recWord p.bytes 24) (recWord p.bytes 32).toNat = some (s1, locs) →
      Completes (.storeRead c ⟨ticket, some g⟩ data) s (fun t =>
        (t.core c).completed = (s1.core c).completed ∧ (t.core c).syscalls.length = (s1.core c).syscalls.length ∧
        (∀ k, k < data.length → k < locs.length → once locs k → ((recWord p.bytes 24).toNat % 32 + k) / 32 = g →
          t.readByte .host (locAt locs k) = data.getD k 0))) ∧
    (∀ i va n g j, p.strong = false →
      ((i = .ethSend c ⟨ticket, some (g, none)⟩ ∧ Serves s c ticket 0x20 p ∧ va = recWord p.bytes 16 ∧
          n = (recWord p.bytes 24).toNat) ∨
        ((∃ w, i = .storeWrite c ⟨ticket, some (g, none)⟩ w) ∧ Serves s c ticket 0x31 p ∧ va = recWord p.bytes 24 ∧
          n = (recWord p.bytes 32).toNat)) →
      s.serviceLocs c .load va n = some (s1, locs) → j < locs.length → (va.toNat % 32 + j) / 32 = g →
      (j = 0 ∨ (va.toNat % 32 + j) % 32 = 0) → Completes i s (fun t =>
        (t.core c).syscalls = (s1.core c).syscalls.map (fun q => if q.ticket = ticket then
          { q with started := (g, s1.readBytes .host (locAt locs j / 32 * 32) 32) :: q.started } else q) ∧
        (t.core c).completed = (s1.core c).completed ∧ MemoryKept s1 t)) ∧
    (∀ n, Serves s c ticket 0x31 p → s.serviceBytes c p.started (recWord p.bytes 24) (recWord p.bytes 32).toNat = some (s1, bs) →
      (s1.core c).syscalls = (s.core c).syscalls → (s1.core c).completed = (s.core c).completed →
      Completes (.storeWrite c ⟨ticket, none⟩ n) s (fun t =>
        Served s t c ticket 0 (min n bs.length) ∧
        t.outbox = s1.outbox ++ [.store (recWord p.bytes 8) (recWord p.bytes 16) (bs.take n)])) ∧
    (∀ ld n q payload imm, s.qps.find? (fun r => r.ld == ld && r.number == n) = some q →
      ((s.ld ld.toNat).bound = true → q.error = false → ∀ b, (s.srqBuffers.filter (fun b => b.ld == ld && b.srq == q.srq)).head? = some b →
        s.srqBuffers.Nodup →
        ({ s with srqBuffers := s.srqBuffers.erase b }.commitSystem (b.locs.zip payload)).queueBlocks ld.toNat 0 = [] →
        Completes (.rdmaSendReceived ld n payload imm) s (fun t =>
          b ∉ t.srqBuffers ∧ (∀ x, x ≠ b → (x ∈ t.srqBuffers ↔ x ∈ s.srqBuffers)) ∧
          (∀ k, k < b.locs.length → k < payload.length → once b.locs k →
            t.readByte .host (locAt b.locs k) = payload.getD k 0))) ∧
      (q.error = true → exec (.rdmaSendReceived ld n payload imm) s =
        .next { s with outbox := s.outbox ++ [.ethNak ld n 2] }) ∧
      (q.error = true → exec (.rdmaInvalidRequest ld n) s = .next { s with outbox := s.outbox ++ [.ethNak ld n 2] }) ∧
      ((s.ld ld.toNat).bound = false → q.error = false → exec (.rdmaSendReceived ld n payload imm) s = .next s ∧
        exec (.rdmaInvalidRequest ld n) s = .next s) ∧
      ((s.ld ld.toNat).bound = true → q.error = false → Completes (.rdmaInvalidRequest ld n) s (fun t =>
        t.outbox = s.outbox ++ [.ethNak ld n 1] ∧ (∀ r, t.qp ld n = some r → r.error = true) ∧ MemoryKept s t)) ∧
      (∀ cookie status, cookie ∈ q.sends → status.toNat < 4 → s.qps.Nodup →
        Completes (.ethSendCompletion ld n cookie status) s (fun t =>
          { q with sends := q.sends.erase cookie } ∈ t.qps ∧ t.outbox = s.outbox)))

/-! ## The code shelf (R90-R102, R132, R133) -/

/-- R91, R132, R133: cprobe shows the rejection counters, the number of entries that the strand sees and of free pages, the
entry of a digest, a row of the page map, and for an entry, its 64-byte image, which it stores. cpin pins a resident entry
within the limit, cunpin unpins a pinned one and cevict evicts one that it may, each with 0; a digest that is not resident gives
cunpin and cevict 1, an entry that is not pinned gives cunpin 1, one that may not leave gives cevict 2, and one beyond the limit
gives cpin 2. In user mode the three are illegal.
Where it rests on the model's own readings and choices: log entries 12 and 77. -/
def Obligations.ShelfInstructions : Prop :=
  ∀ (s s1 : State) (rd a b : BitVec 5) (bytes : List Byte), s.ready →
    let k := s.cluster (clusterOf s.here)
    let vf := (s.core s.here).vfNow
    let sees := fun (d : DirEntry) => s.me.priv = .machine ∨ d.vf = vf
    let gives := fun (i : Instr) (u : State) (v : Word) => exec i s = .next ((u.writeX rd v).retire 4)
    let sel := (s.x b).toNat
    (∀ d, sel < 64 → (s.x a).toNat % 64 = 0 → mapFind k.dir sel = some d → sees d →
      s.storeBytes (s.x a) d.image = .ok s1 → gives (.cprobe rd a b) s1 0) ∧
    (sel < 64 → (s.x a).toNat % 64 = 0 → (∀ d, mapFind k.dir sel = some d → ¬sees d) →
      s.storeBytes (s.x a) (List.replicate 64 0) = .ok s1 → gives (.cprobe rd a b) s1 1) ∧
    (∀ n, n < 8 → sel = 0x100 + n → gives (.cprobe rd a b) s (BitVec.ofNat 64 (k.rejections[n]?.getD 0).toNat)) ∧
    (sel = 0x200 → ∀ n, n = (k.dir.filter (fun e => decide (sees e.2))).length →
      gives (.cprobe rd a b) s (BitVec.ofNat 64 n)) ∧
    (sel = 0x201 → gives (.cprobe rd a b) s
      (BitVec.ofNat 64 ((List.range 128).filter (fun n => k.row n == 0xFFFF)).length)) ∧
    (∀ n, n < 128 → sel = 0x400 + n → gives (.cprobe rd a b) s (BitVec.ofNat 64 (k.row n).toNat)) ∧
    ((64 ≤ sel ∧ sel < 0x100 ∨ 0x108 ≤ sel ∧ sel < 0x200 ∨ 0x202 ≤ sel ∧ sel < 0x300 ∨
      0x301 ≤ sel ∧ sel < 0x400 ∨ 0x480 ≤ sel) →
      gives (.cprobe rd a b) s (BitVec.allOnes 64)) ∧
    (s.me.priv = .user → ∀ i, i = .cpin rd a ∨ i = .cunpin rd a ∨ i = .cevict rd a →
      exec i s = .next (s.takeTrap s.here s.cur causeIllegal s.currentWord)) ∧
    ((s.x a).toNat % 8 = 0 → s.loadNow (s.x a) 32 = .ok (s1, bytes) → s1.here = s.here → s1.cluster (clusterOf s.here) = k →
      (s1.core s.here).vfNow = vf →
      let found := k.lookup (BitVec.ofNat 256 (leNat bytes)) vf
      let pinned := (k.dir.filter (fun e => e.2.pinned)).length
      let with' := fun (u : State) (e : Nat) (d : DirEntry) =>
        u.modCluster (clusterOf s.here) (fun k => { k with dir := mapPut k.dir e d })
      (sel = 0x300 → gives (.cprobe rd a b) s1 (match found with
        | some e => BitVec.ofNat 64 e.1
        | none => BitVec.allOnes 64)) ∧
      (s.me.priv ≠ .user →
        (∀ e d, found = some (e, d) → d.pinned = true ∨ pinned + 1 < k.cdlim.toNat → gives (.cpin rd a) (with' s1 e { d with pinned := true }) 0) ∧
        (∀ e d, found = some (e, d) → d.pinned = false → k.cdlim.toNat ≤ pinned + 1 → gives (.cpin rd a) s1 2) ∧
        (∀ e d, found = some (e, d) → d.pinned = true →
          gives (.cunpin rd a) (with' s1 e { d with pinned := false }) 0) ∧
        (∀ e d, found = some (e, d) → d.pinned = false → gives (.cunpin rd a) s1 1) ∧
        (found = none → gives (.cunpin rd a) s1 1 ∧ gives (.cevict rd a) s1 1) ∧
        (∀ e d, found = some (e, d) → d.pinned = true ∨ d.hold = true → gives (.cevict rd a) s1 2) ∧
        (∀ e d, found = some (e, d) → d.pinned = false → d.hold = false → s1.executed (clusterOf s.here) e = false →
          gives (.cevict rd a) (s1.modCluster (clusterOf s.here) (fun k => { k with
            dir := mapErase k.dir e, pages := k.pages.filter (fun q => q.2.toNat / 256 ≠ e) })) 0)))

/-- R128-R131, R139, R344, R362, R363: system calls, and the records posted for them.
Where it rests on the model's own readings and choices: log entry 70. -/
def Obligations.SystemCallsAndRecords : Prop := SystemCalls ∧ Records

/-! ## The copy engine (R245-R251, R269) -/

/-- R251: a status word: AUX, entry, reason, code. -/
def statusWord (code entry reason aux : Nat) : Word :=
  BitVec.ofNat 64 (aux % 2 ^ 16 * 2 ^ 32 + entry % 256 * 2 ^ 24 + reason % 256 * 2 ^ 16 + code)

/-- R251, R253: a chain has ended: it has left the queue, its status is kept, and its completion, the ticket above the low half
of the status, has joined the core's engine stream, whose oldest entry is lost when it holds 16. -/
def ChainEnded (s t : State) (b : Nat) (k : Chain) (status : Word) : Prop :=
  (∀ c, c ∈ (t.bench b).chains ↔ c ∈ (s.bench b).chains ∧ c.ticket ≠ k.ticket) ∧
    (t.bench b).status k.ticket = some status ∧
    (t.core k.core).engineStream = (let old := (s.core k.core).engineStream
      (if old.length < 16 then old else old.drop 1) ++
        [BitVec.ofNat 64 (k.ticket.toNat * 2 ^ 32 + status.toNat % 2 ^ 32)])

/-- R247, R251: erun with no entries gives 0 and nothing else; with the queue of its bench full it waits; otherwise the chain
joins the queue with the bench's next ticket, which rd takes, in the address space of the strand. ewait waits for a chain in the
queue; ewait and estat give the status of a chain that has ended, and all ones for a ticket that is not known; estat shows a
chain in the queue as running. -/
def EngineInstructions : Prop :=
  ∀ (s s1 s2 : State) (rd a b : BitVec 5) (entries : List ChainEntry), s.ready → s.deferred = false →
    let n := benchOf s.here
    let h := s.bench n
    let ticket := BitVec.ofNat 32 (s.x a).toNat
    ((s.x a).toNat % 64 = 0 → s.x b = 0 → exec (.erun rd a b) s = .next ((s.writeX rd 0).retire 4)) ∧
    ((s.x a).toNat % 64 = 0 → s.x b ≠ 0 → 16 ≤ h.chains.length → Completes (.erun rd a b) s (fun t =>
      OnlyStrand s t ∧ t.me = { s.me with park := some .engineQueue })) ∧
    ((s.x a).toNat % 64 = 0 → s.x b ≠ 0 → h.chains.length < 16 →
      loadChain (if (s.x b).toNat < 256 then (s.x b).toNat else 256) s (s.x a) = .ok (s1, entries) →
      s1.drainMine = .ok s2 → s2.here = s.here → s2.cur = s.cur → Completes (.erun rd a b) s (fun t =>
        let u := (s2.bench n).chainTicket
        (∃ k, (t.bench n).chains = (s2.bench n).chains ++ [k] ∧ k.entries = entries ∧ k.ticket = u ∧ k.core = s.here ∧
          k.strand = s.cur ∧ k.next = 0 ∧ k.phase = .waiting ∧ k.moving = [] ∧ k.priv = (s2.xctx s.here s.cur).priv ∧
          k.satp = (s2.xctx s.here s.cur).satp ∧ k.vf = (s2.xctx s.here s.cur).vf) ∧
        (t.bench n).chainTicket = (if u = BitVec.allOnes 32 then 1 else u + 1) ∧
        t.x rd = (if rd = 0 then 0 else BitVec.ofNat 64 u.toNat) ∧ (∀ q, q ≠ rd → t.x q = s2.x q) ∧
        t.me.fpc = s2.me.fpc + 4)) ∧
    (∀ k, h.chains.find? (fun k => k.ticket == ticket) = some k →
      Completes (.ewait rd a) s (fun t => OnlyStrand s t ∧ t.me = { s.me with park := some (.chain ticket) }) ∧
      exec (.estat rd a) s = .next ((s.writeX rd (statusWord 1 ((k.moving.head?.map (·.index)).getD k.next - 1) 0 0)).retire 4)) ∧
    (h.chains.find? (fun k => k.ticket == ticket) = none → ∀ i, i = .ewait rd a ∨ i = .estat rd a →
      exec i s = .next ((s.writeX rd (match h.chainsEnded.find? (fun e => e.1 == ticket) with
        | some e => e.2
        | none => BitVec.allOnes 64)).retire 4))

/-- R245-R248, R269, R335: the engine takes the next entry that may start of the chains of its bench, the cores in turn: a chain
that its form check ends there does so with its code. An entry that moves bytes waits while a unit owns one of its lines. One whose
bytes are all translated and that meets no poison and no failing check has the source's bytes, or the pattern's, to write to its
destination, whose lines it owns, and it starts beside the entries of its chain that are under way; one that meets poison fails. Each line is written at reach D,
after the sectors that an earlier entry of the chain writes, and is then owned no longer, each scratchpad sector at reach S, a
location with the last byte that the entry gives it. The first entry under way of a chain, with nothing left to write, completes:
its writes rise to H, its tiles take its SEQ and DMODE, and the chain goes on or ends; one that failed ends its chain with a memory
error. -/
def EngineSteps : Prop :=
  ∀ (s s1 s2 s3 s4 : State) (b n : Nat) (k : Chain) (e : ChainEntry) (m : Moving) (count : Option (Nat × BitVec 32)) (i : Nat)
    (sl dl : List Nat),
    let starts := fun (t : State) (m' : Moving) => ∃ k', k' ∈ (t.bench b).chains ∧ k'.ticket = k.ticket ∧
      k'.next = k.next + 1 ∧ k'.moving = k.moving ++ [m'] ∧ k'.entries = k.entries
    let clear := fun (scratch : Bool) (unit : Nat) (c : Nat) => ∀ x, x ∈ k.moving → x.index < m.index → ∀ y, y ∈ x.todo →
      ∀ z, z ∈ m.todo → isScratch z.1 = scratch → z.1 / unit = c / unit → y.1 / 32 ≠ z.1 / 32
    let left := fun (t : State) (keeps : Nat × Byte → Bool) => ∃ k', k' ∈ (t.bench b).chains ∧ k'.ticket = k.ticket ∧
      ∃ m', m' ∈ k'.moving ∧ m'.index = m.index ∧ m'.todo = m.todo.filter keeps
    ((s.bench b).pick b = some (i, k) → k ∈ (s.bench b).chains → s1 = s.modBench b (fun h => { h with turn := i }) →
      (∀ code, k.bad = some (k.next, code) →
        Completes (.takeOwnership b) s (fun t => ChainEnded s t b k (statusWord code k.next 0 0))) ∧
      (k.bad = none → k.entries[k.next]? = some e → e.moves = true → s1.entryRanges k e = .ok (s2, sl, dl) →
        s2.entryCount k e = .ok (s3, count) →
        (∀ l, s2.ownedLine ((sl ++ dl).filter (fun x => !isScratch x)) = some l → exec (.takeOwnership b) s = .next s1) ∧
        (s2.ownedLine ((sl ++ dl).filter (fun x => !isScratch x)) = none → (∃ l, l ∈ sl ∧ s3.poisoned.contains (l / 32) = true) →
          k ∈ (s3.bench b).chains → Completes (.takeOwnership b) s (fun t =>
            ∃ m', starts t m' ∧ m'.fails = true ∧ m'.index = k.next)) ∧
        (s2.ownedLine ((sl ++ dl).filter (fun x => !isScratch x)) = none → dl.length = (s4.entryBytes k e sl).length →
          (∀ l, l ∈ sl → s3.poisoned.contains (l / 32) = false) → s3.failingLines sl = [] → s3.failingLines dl = [] →
          s3.onDie (sl ++ dl) = .ok s4 → k ∈ (s4.bench b).chains → Completes (.takeOwnership b) s (fun t =>
            starts t { index := k.next, plan := dl, fails := false, count := count, todo := dl.zip (if e.op = 2
              then (List.replicate (e.len.toNat / 8) (leBytes 8 e.value.toNat)).flatten
              else sl.map ((s4.shareDie k.core sl).byteFor (.die (dieOf k.core)))) } ∧
            (∀ l, l ∈ dl → isScratch l = false → l / 256 ∈ (t.bench b).owned) ∧ MemoryKept (s4.shareDie k.core sl) t)))) ∧
    ((s.bench b).movers[n]? = some (k, m) → s.wf →
      (∀ c, m.todo.find? (fun c => isScratch c.1 == false) = some c → clear false 256 c.1 →
        Completes (.writeLine ⟨b, n⟩) s (fun t =>
          left t (fun x => isScratch x.1 || x.1 / 256 != c.1 / 256) ∧ c.1 / 256 ∉ (t.bench b).owned ∧ t.wf ∧
          (∀ loc v, loc / 256 = c.1 / 256 → isScratch loc = false →
            (m.todo.reverse.find? (fun x => x.1 == loc)).map (·.2) = some v → t.readByte (.die (dieOf k.core)) loc = v))) ∧
      (∀ c, m.todo.find? (fun c => isScratch c.1 == true) = some c → clear true 32 c.1 →
        Completes (.writeScratchpadSector ⟨b, n⟩) s (fun t =>
          left t (fun x => !isScratch x.1 || x.1 / 32 != c.1 / 32) ∧ (t.bench b).owned = (s.bench b).owned ∧ t.wf ∧
          (∀ loc v, loc / 32 = c.1 / 32 → isScratch loc = true →
            (m.todo.reverse.find? (fun x => x.1 == loc)).map (·.2) = some v → t.readByte .host loc = v))) ∧
      (m.todo = [] → k.moving.head? = some m → m.fails = true →
        Completes (.entryComplete ⟨b, n⟩) s (fun t => ChainEnded s t b k (statusWord 0x106 m.index 0 0))) ∧
      (m.todo = [] → k.moving.head? = some m → m.fails = false → m.count = none → k.entries[m.index]? = some e →
        Completes (.entryComplete ⟨b, n⟩) s (fun t =>
          (k.next < k.entries.length ∨ k.moving.drop 1 ≠ [] → ∃ k', k' ∈ (t.bench b).chains ∧ k'.ticket = k.ticket ∧
            k'.next = k.next ∧ k'.moving = k.moving.drop 1) ∧
          (k.entries.length ≤ k.next → k.moving.drop 1 = [] → ChainEnded s t b k (statusWord 0 m.index 0 0)) ∧
          (∀ l, l ∈ m.plan → isScratch l = true →
            t.tile (tileNo l) = { mode := BitVec.ofNat 3 e.dmode.toNat, seq := e.seq }) ∧
          (∀ d, d ∈ t.drained → d.entry = some (b, k.ticket, m.index) → d.reach ≠ .d))))

/-- R246-R252, R269: the copy engine: its instructions, and its steps.
Where it rests on the model's own readings and choices: log entries 5, 41, 42, 43 and 44. -/
def Obligations.CopyEngine : Prop := EngineInstructions ∧ EngineSteps

/-! ## Remote access (R257, R271-R274, R297, R298, R305-R311) -/

/-- R19: a dynamic message from another chip does not arrive at a port that is link-down. -/
def ByLivePort (s : State) (m : Msg) : Prop :=
  m.sched = false → ∀ p, s.arrivalPort m.chip m.dst = some p → s.linkDown p = false

/-- R297, R298: a message keeps the layout, names this chip, and is of a kind; its flits have been counted, which leaves `u`. -/
def Arrives (s u : State) (bytes : List Byte) (kind : Nat) (m : Msg) : Prop :=
  headerOk bytes = true ∧ Msg.ofBytes bytes = m ∧ m.dst = s.chipNumber ∧ m.kind = kind ∧ ByLivePort s m ∧
    u = s.countFabric 0x61 (flitsOf m.len)

/-- R19, R296, R298, R305: from `u` to `t`, something of so many flits has joined the queue of the output port to another chip,
unless no link reaches the chip. -/
def Leaves (u t : State) (input chip : Nat) (what : Out) (flits : Nat) : Prop :=
  (u.linkRefused chip = true → t.waiting = u.waiting) ∧
    (u.linkRefused chip = false → ∃ p, u.portTo chip = some p ∧
      t.waiting = u.waiting ++ [{ port := p, input := input, what := what, flits := flits }])

/-- R298: from `u` to `t`, a message for another chip has left. -/
def Sends (u t : State) (input chip : Nat) (bytes : List Byte) : Prop :=
  Leaves u t input chip (.message chip bytes) (bytes.length / 64)

/-- R306: an entry of a receive queue: data, tag, length and reason. -/
def RxHolds (l : Line) (data : List Byte) (tag : BitVec 16) (len reason : Nat) : Prop :=
  (∀ k, k < data.length → k < 248 → lineByte l k = data.getD k 0) ∧ (lineByte l 248).toNat = tag.toNat % 256 ∧
    (lineByte l 249).toNat = tag.toNat / 256 ∧ (lineByte l 250).toNat = len ∧ (lineByte l 251).toNat = reason

/-- R257, R272, R308, R309: a remote load of the chip's own memory puts its bytes, or the reason of its refusal, into its receive
queue with its tag, one of another chip that a link reaches reserves a slot and leaves as a message, one that no link reaches
is refused with LINK; it waits while the queue is full. One that meets a store in the combining buffer has its bytes from it, or
waits where the store does not cover them. A store of one to 32 doublewords, with the count object that it may name, joins the
combining buffer, in its last entry where that takes it, and waits while the buffer is full; a load or a store that leaves its
line, and a store that is not aligned, is misaligned, and a descriptor out of range an access fault. jrnl gives the number of
entries, waits for the posted ones, shows an entry, frees a refused one, and gives all ones for a selector it does not have. -/
def RemoteInstructions : Prop :=
  ∀ (s s1 : State) (rd a b : BitVec 5) (q la : BitVec 4) (pa : Nat), s.ready →
    let k := s.core s.here
    let n := (s.x b).toNat / 2 ^ 16 % 256
    let tag := BitVec.ofNat 16 (s.x b).toNat
    let rx := fun (t : State) => (t.core s.here).receive q.toNat
    ((s.x a).toNat % 256 + n ≤ 256 → 1 ≤ n → n ≤ 248 → (s.x b).toNat < 2 ^ 24 →
      s.remoteAddress .load (s.x a) n = .ok (s1, pa) → s1.here = s.here → s1.cur = s.cur → s1.core s.here = k →
      let used := (rx s).entries.length + ((rx s).reserved.filter (fun x => !x.cancelled)).length
      (sinkSize ≤ used → exec (.rld q a b la) s = .next (s.modStrand s.here s.cur (fun t => { t with park := some (.rxFull q.toNat) }))) ∧
      (∀ e, used < sinkSize → k.meets pa n = some e →
        (e.group = none → e.paddr ≤ pa → pa + n ≤ e.paddr + e.data.length → Completes (.rld q a b la) s (fun t =>
          ∃ l, (rx t).entries = (rx s).entries ++ [l] ∧ (∀ r, t.x r = s.x r) ∧ Retired s t 4 ∧ MemoryKept s1 t ∧
            RxHolds l ((e.data.drop (pa - e.paddr)).take n) tag n 0)) ∧
        (e.group ≠ none ∨ pa < e.paddr ∨ e.paddr + e.data.length < pa + n → Completes (.rld q a b la) s (fun t =>
          t.me.park = some .combining ∧ rx t = rx s ∧ (∀ r, t.x r = s.x r)))) ∧
      (used < sinkSize → k.meets pa n = none →
        (pa / 2 ^ 42 = s1.chipNumber → Completes (.rld q a b la) s (fun t => ∃ l, (rx t).entries = (rx s).entries ++ [l] ∧
          (rx t).reserved = (rx s).reserved ∧ (∀ r, t.x r = s.x r) ∧ Retired s t 4 ∧ MemoryKept s1 t ∧
          RxHolds l (s1.remoteRead s1.chipNumber k.ld.toNat pa n).1 tag n (s1.remoteRead s1.chipNumber k.ld.toNat pa n).2)) ∧
        (pa / 2 ^ 42 ≠ s1.chipNumber → s1.linkRefused (pa / 2 ^ 42) = true → Completes (.rld q a b la) s (fun t =>
          ∃ l, (rx t).entries = (rx s).entries ++ [l] ∧ RxHolds l (List.replicate n 0) tag n 6 ∧ t.waiting = s1.waiting)) ∧
        (pa / 2 ^ 42 ≠ s1.chipNumber → s1.linkRefused (pa / 2 ^ 42) = false → Completes (.rld q a b la) s (fun t =>
          (rx t).reserved = (rx s).reserved ++
            [{ chip := pa / 2 ^ 42, addr := pa, tag := tag, len := n, cancelled := false }] ∧
          (rx t).entries = (rx s).entries ∧ ∃ bytes, Sends s1 t 24 (pa / 2 ^ 42) bytes)))) ∧
    (256 < (s.x a).toNat % 256 + n →
      exec (.rld q a b la) s = .next (s.takeTrap s.here s.cur causeLoadMisaligned (s.x a))) ∧
    ((s.x a).toNat % 256 + n ≤ 256 → (n = 0 ∨ 248 < n ∨ 2 ^ 24 ≤ (s.x b).toNat) →
      exec (.rld q a b la) s = .next (s.takeTrap s.here s.cur causeLoadAccess (s.x a))) ∧
    (let len := 8 * ((s.x b).toNat % 32 + 1);
      ∀ s0, (if (s.x b).getLsbD 5 then s.useV [] else s.useV [rd]) = .ok s0 →
      ((s.x a).toNat % 8 ≠ 0 ∨ 256 < (s.x a).toNat % 256 + len →
        exec (.rst rd a b la) s = .next (s0.takeTrap s.here s.cur causeStoreMisaligned (s.x a))) ∧
      ((s.x a).toNat % 8 = 0 → (s.x a).toNat % 256 + len ≤ 256 → (s.x b).getLsbD 5 = true → len ≠ 8 →
        exec (.rst rd a b la) s = .next (s0.takeTrap s.here s.cur causeStoreAccess (s.x a))) ∧
      (∀ s2 cl, (s.x a).toNat % 8 = 0 → (s.x a).toNat % 256 + len ≤ 256 → ((s.x b).getLsbD 5 = true → len = 8) →
        s0.countAt (s.x b &&& ~~~0x3F#64) = .ok (s2, cl) → s2.remoteAddress .store (s.x a) len = .ok (s1, pa) →
        s1.here = s.here → s1.cur = s.cur → s1.me = s0.me → s1.me.pp = false →
        let data := if (s.x b).getLsbD 5 then leBytes 8 (s1.x rd).toNat else (lineBytes (s1.v rd)).take len
        let e : Combining :=
          { paddr := pa, data := data, cnt := s.x b &&& ~~~0x3F#64, cntLoc := cl, strand := s.cur, group := none }
        let old := (s1.core s.here).combining
        (16 ≤ old.length → Completes (.rst rd a b la) s (fun t =>
          t.me.park = some .combining ∧ (t.core s.here).combining = old)) ∧
        (old.length < 16 → s1.deferred = true → (∀ w, old.getLast? = some w → w.merges e = false) →
          Completes (.rst rd a b la) s (fun t =>
            (t.core s.here).combining = old ++ [e] ∧ (∀ r, t.x r = s1.x r) ∧ t.me.fpc = s1.me.fpc + 4)) ∧
        (∀ w, old.length < 16 → s1.deferred = true → old.getLast? = some w → w.merges e = true →
          Completes (.rst rd a b la) s (fun t => ∃ w', (t.core s.here).combining = old.dropLast ++ [w'] ∧
            w'.paddr = min w.paddr pa ∧ w'.data.length = max (w.paddr + w.data.length) (pa + data.length) - w'.paddr ∧
            (∀ j, j < data.length → w'.data.getD (pa + j - w'.paddr) 0 = data.getD j 0) ∧
            (∀ j, j < w.data.length → (w.paddr + j < pa ∨ pa + data.length ≤ w.paddr + j) →
              w'.data.getD (w.paddr + j - w'.paddr) 0 = w.data.getD j 0) ∧
            (∀ r, t.x r = s1.x r) ∧ t.me.fpc = s1.me.fpc + 4)) ∧
        (s1.deferred = false → old = [] → (s1.core s.here).journal = [] → e.cnt = 0 →
          pa / 2 ^ 42 = s1.chipNumber → s1.refuses s1.chipNumber (s1.core s.here).ld.toNat pa len = none →
          data.length = len → Completes (.rst rd a b la) s (fun t =>
            (∀ j, j < len → t.readByte .device (pa % 2 ^ 42 + j) = data.getD j 0) ∧
            (t.core s.here).combining = [] ∧ (t.core s.here).journal = [] ∧ (∀ r, t.x r = s1.x r) ∧
            t.me.fpc = s1.me.fpc + 4)))) ∧
    (let w := (s.x b).toNat
      let gives := fun (v : Word) => exec (.jrnl rd a b) s = .next ((s.writeX rd v).retire 4)
      (w % 256 = 0 → w < 2 ^ 14 → gives (BitVec.ofNat 64 k.journal.length)) ∧
      (w = 1 → (∀ e, e ∈ k.journal → e.2.state = .refused) → s.me.park = none →
        gives (BitVec.ofNat 64 k.journal.length)) ∧
      (w = 1 → (∃ e, e ∈ k.journal ∧ e.2.state = .posted) → k.journal.length ≤ 64 → (∀ e, e ∈ k.journal → e.1 < 64) →
        s.me.park = none → Completes (.jrnl rd a b) s (fun t => OnlyStrand s t ∧ ∃ m, t.me = { s.me with
          park := some (.journalMask m (k.journal.filter (fun e => e.2.state == .refused)).length) } ∧
          (∀ n, n < 64 → (m.getLsbD n = true ↔ ∃ e, e ∈ k.journal ∧ e.1 = n ∧ e.2.state = .posted)))) ∧
      (∀ r, w = 1 → s.me.park = some (.journalMask 0 r) → gives (BitVec.ofNat 64 r)) ∧
      (2 ^ 14 ≤ w ∨ 4 ≤ w % 256 → gives (BitVec.allOnes 64)) ∧
      (∀ e u, w % 256 = 2 → w < 2 ^ 14 → (s.x a).toNat % 32 = 0 → mapFind k.journal (w / 256) = some e →
        s.storeBytes (s.x a) (leBytes 8 e.paddr ++ leBytes 2 e.len ++ [if e.state = .posted then 1 else 2, e.reason,
          BitVec.ofNat 8 e.strand, 0, 0, 0] ++ leBytes 8 e.tick.toNat ++ leBytes 8 e.cnt.toNat) = .ok u →
        exec (.jrnl rd a b) s = .next ((u.writeX rd 0).retire 4)) ∧
      (∀ e, w % 256 = 3 → w < 2 ^ 14 → mapFind k.journal (w / 256) = some e → e.state = .refused →
        Completes (.jrnl rd a b) s (fun t => (t.core s.here).journal = mapErase k.journal (w / 256) ∧
          t.x rd = 0 ∧ (∀ r, r ≠ rd → t.x r = s.x r) ∧ Retired s t 4)) ∧
      (w % 256 = 3 → w < 2 ^ 14 → (∀ e, mapFind k.journal (w / 256) = some e → e.state ≠ .refused) → gives 1))

/-- R271, R272, R305, R308, R310: the head of a core's combining buffer departs once a journal entry is free: to the chip itself
it is performed at once, and the entry is free again; over a link it is posted and leaves as a message; where no link reaches,
it is refused with LINK. A message for another chip waits at the port on which it leaves, in dimension order, among what came in
at its input. A remote store that arrives is refused with its reason, or performed at its home and acknowledged; an
acknowledgement frees the journal entry, a refusal marks it; a remote load that arrives is answered with the bytes, and its
answer fills the slot reserved for it. -/
def RemoteSteps : Prop :=
  ∀ (s u : State) (c n : Nat) (e : Combining) (es : List Combining) (bytes : List Byte) (m : Msg),
    ((s.core c).combining = e :: es → (s.core c).freeEntry = some n → e.group = none →
      let chip := e.paddr / 2 ^ 42
      (chip = s.chipNumber → s.refuses chip (s.core c).ld.toNat e.paddr e.data.length = none → e.cnt = 0 →
        Completes (.depart c) s (fun t => (t.core c).combining = es ∧ mapFind (t.core c).journal n = none ∧
          (∀ j, j < e.data.length → t.readByte .device (e.paddr % 2 ^ 42 + j) = e.data.getD j 0) ∧
          (∀ i r, (t.strand c i).readX r = (s.strand c i).readX r))) ∧
      (chip ≠ s.chipNumber → s.linkRefused chip = false → Completes (.depart c) s (fun t =>
        (t.core c).combining = es ∧ (∃ j, mapFind (t.core c).journal n = some j ∧ j.state = .posted ∧ j.paddr = e.paddr ∧
          j.len = e.data.length ∧ j.strand = e.strand ∧ j.tick = s.chip.tick ∧ j.cnt = e.cnt ∧ j.delivered = false) ∧
        ∃ b, Sends s t 24 chip b)) ∧
      (chip ≠ s.chipNumber → s.linkRefused chip = true → Completes (.depart c) s (fun t =>
        (t.core c).combining = es ∧ t.waiting = s.waiting ∧
        ∃ j, mapFind (t.core c).journal n = some j ∧ j.state = .refused ∧ j.reason = 6))) ∧
    (Arrives s u bytes kindRst m →
      (∀ r, u.refuses m.chip m.ld m.addr m.payload.length = some r → Completes (.rstMessage bytes) s (fun t =>
        MemoryKept u t ∧ Sends u t 24 m.chip (Msg.bytes { m with
          kind := kindRstRefuse, chip := s.chipNumber, dst := m.chip, len := 0, aux := r, payload := [] }))) ∧
      (u.refuses m.chip m.ld m.addr m.payload.length = none → Completes (.rstMessage bytes) s (fun t =>
        (∀ j, j < m.payload.length → t.readByte .device (m.addr % 2 ^ 42 + j) = m.payload.getD j 0) ∧
        Sends u t 24 m.chip (Msg.bytes { m with
          kind := kindRstAck, chip := s.chipNumber, dst := m.chip, len := 0, aux := 0, payload := [] })))) ∧
    (∀ j, mapFind (u.core m.core).journal m.index = some j → j.group = none → j.cnt = 0 → u.launches = [] →
      (Arrives s u bytes kindRstAck m → Completes (.rstAck bytes) s (fun t =>
        (t.core m.core).journal = mapErase (u.core m.core).journal m.index ∧ MemoryKept u t)) ∧
      (Arrives s u bytes kindRstRefuse m → j.delivered = false → Completes (.rstRefuse bytes) s (fun t =>
        mapFind (t.core m.core).journal m.index = some { j with state := .refused, reason := BitVec.ofNat 8 m.aux }))) ∧
    (Arrives s u bytes kindRld m → Completes (.rldMessage bytes) s (fun t =>
      MemoryKept u t ∧ Sends u t 24 m.chip (Msg.bytes { m with
        kind := kindRldReply, chip := s.chipNumber, dst := m.chip, len := m.len,
        aux := (u.remoteRead m.chip m.ld m.addr m.len).2, payload := (u.remoteRead m.chip m.ld m.addr m.len).1 }))) ∧
    (∀ x, Arrives s u bytes kindRldReply m → m.index < 16 →
      ((u.core m.core).receive m.index).reserved.find? (fun x => x.answers m) = some x →
      Completes (.rldReply bytes) s (fun t =>
        let r := (u.core m.core).receive m.index
        let r' := (t.core m.core).receive m.index
        r'.reserved = r.reserved.erase x ∧ MemoryKept u t ∧ (x.cancelled = true → r'.entries = r.entries) ∧
        (x.cancelled = false → ∃ l, r'.entries = r.entries ++ [l] ∧
          (m.aux < 256 → m.len < 256 → x.answers m = true → RxHolds l m.payload x.tag m.len m.aux)))) ∧
    (headerOk bytes = true → Msg.ofBytes bytes = m → m.dst ≠ s.chipNumber → m.sched = false → ByLivePort s m →
      u = s.countFabric 0x61 (flitsOf m.len) → bytes.length = 64 * flitsOf m.len →
      Completes (.routerForward bytes) s (fun t =>
        Sends u t ((s.arrivalPort m.chip m.dst).getD 24) m.dst bytes ∧ MemoryKept u t)) ∧
    (headerOk bytes = true → Msg.ofBytes bytes = m → ¬ByLivePort s m → ∀ i, i = .rstMessage bytes ∨ i = .rstAck bytes ∨
      i = .rstRefuse bytes ∨ i = .rldMessage bytes ∨ i = .rldReply bytes ∨ i = .routerForward bytes → exec i s = .next s) ∧
    (headerOk bytes = false → Completes (.malformedMessage bytes) s (fun t =>
      t.chip = { s.chip with framingErrors := s.chip.framingErrors + 1 } ∧ t.outbox = s.outbox ∧ t.waiting = s.waiting ∧
      (NoTrace s → MemoryKept s t)))

/-- R19, R271-R273, R298, R305-R309: remote stores and loads: the instructions, and their messages.
Where it rests on the model's own readings and choices: log entries 5, 45 and 46. -/
def Obligations.RemoteAccess : Prop := RemoteInstructions ∧ RemoteSteps

/-! ## Group commit (R274, R312-R323) -/

/-- R312, R322: a word names the group at entry `l`, which the issuing core owns under its VF. -/
def Owned (s : State) (w : Word) (l : Nat) (g : Group) : Prop :=
  w.toNat = s.chipNumber * 256 + l ∧ l < 256 ∧ mapFind s.groups l = some g ∧ g.core = s.here ∧ g.vf = (s.core s.here).vfNow

/-- R298, R314: the group messages of a kind that `u` sends to chips, with their values, at the output ports on which they
leave; none to a chip that no link reaches. -/
def groupMessages (u : State) (kind : Nat) (group : BitVec 18) (chips : List (Nat × Word)) : List Waiting :=
  chips.filterMap (fun x => if u.linkRefused x.1 then none
    else some { port := (u.portTo x.1).getD 0, input := 24, what := .groupMessage x.1 kind group x.2, flits := 1 })

/-- R19, R314: what leaves in the control lane, which needs a port that is not link-down. -/
def laneMessages (u : State) (os : List Out) : List Out :=
  if (List.range 24).any (fun p => !u.linkDown p) then os else []

/-- R322: the count object that gcommit names, and the state in which it has been found: none, or the device memory of a 64-byte
aligned address, with its generation. -/
def CommitObjectAt (s u : State) (va : Word) (loc : Nat) (gen : BitVec 32) : Prop :=
  (va = 0 ∧ u = s ∧ loc = 0 ∧ gen = 0) ∨
    (va ≠ 0 ∧ va.toNat % 64 = 0 ∧ u.here = s.here ∧ u.cur = s.cur ∧ u.groups = s.groups ∧ u.me = s.me ∧ ∃ locs,
      s.translate (s.xctx s.here s.cur) .store va 32 = .ok (u, locs) ∧ (∀ x, x ∈ locs → isDevice x = true) ∧
      loc = locs.headD 0 ∧ gen = u.coGen loc)

/-- R312, R316-R318, R321, R322: gopen opens the lowest entry that is FREE, COMMITTED or ABORTED for its core, and gives its number, or
all ones. gsel selects an owned group that takes stores; gst raises the group exception where the selected group is none. gcommit
commits an owned group without stores at once, waits until all its stores have departed, and sends prepare with their count to every
destination; where the chip itself is
the only one, with all staged, it publishes. It aborts a FAILED group, and gives
1 for no such group, 2 for no such object. gabort, which gives 2 while the group is publishing, sends abort to every destination
once its stores have departed. gstat gives the state word, the bound, the free entries, the free staging entries, and all ones. -/
def GroupInstructions : Prop :=
  ∀ (s u : State) (rd a b : BitVec 5) (la : BitVec 4) (loc : Nat) (gen : BitVec 32), s.ready →
    let w := s.x a
    let group := BitVec.ofNat 18 w.toNat
    let gives := fun (i : Instr) (u : State) (v : Word) (p : State → Prop) => Completes i s (fun t =>
      (if u.deferred then (∀ q, t.x q = u.x q) ∧ t.me.pending = u.me.pending ++
          [{ dst := .x rd, todo := [], got := leBytes 8 v.toNat, bits := 64, signed := false, window := 0, queued := false }]
        else t.x rd = (if rd = 0 then 0 else v) ∧ (∀ q, q ≠ rd → t.x q = u.x q)) ∧ Retired u t 4 ∧ p t)
    let may := fun (l : Nat) => ∀ g, mapFind s.groups l = some g → g.state = .committed ∨ g.state = .aborted
    let takes := fun (g : Group) => g.state = .opened ∨ g.state = .failed
    let away := fun (g : Group) => ∀ n, (s.chipNumber, n) ∉ g.dests
    let aborts := fun (i : Instr) (u : State) (l : Nat) (g : Group) (reason : BitVec 8) =>
      (u.groupInBuffer l g = true → gives i u 0 (fun t =>
        (∃ h, mapFind t.groups l = some h ∧ h.state = .aborting ∧ h.reason = reason ∧ h.abortSent = false) ∧
        t.waiting = u.waiting)) ∧
      (u.groupInBuffer l g = false → away g → g.dests ≠ [] → gives i u 0 (fun t =>
        (∃ h, mapFind t.groups l = some h ∧ h.state = .aborting ∧ h.reason = reason ∧ h.abortSent = true ∧ h.acked = []) ∧
        t.waiting = u.waiting ++ groupMessages u 4 group (g.dests.map (fun d => (d.1, 0)))))
    (∀ l, l < 256 → may l → (∀ j, j < l → ¬may j) → gives (.gopen rd) s (BitVec.ofNat 64 (s.chipNumber * 256 + l)) (fun t =>
      (∃ g, mapFind t.groups l = some g ∧ g.state = .opened ∧ g.core = s.here ∧ g.vf = (s.core s.here).vfNow ∧ g.dests = [] ∧
        g.reason = 0) ∧ (∀ j, j ≠ l → mapFind t.groups j = mapFind s.groups j))) ∧
    ((∀ l, l < 256 → ¬may l) → gives (.gopen rd) s (BitVec.allOnes 64) (fun t => t.groups = s.groups)) ∧
    (∀ l g, Owned s w l g → takes g → gives (.gsel rd a) s 0 (fun t => t.me.gsel = w ∧ t.groups = s.groups)) ∧
    ((∀ l g, Owned s w l g → ¬takes g) →
      gives (.gsel rd a) s 1 (fun t => t.me.gsel = s.me.gsel) ∧ gives (.gcommit rd a b) s 1 (fun t => t.groups = s.groups)) ∧
    ((∀ l g, Owned s s.me.gsel l g → ¬takes g) →
      exec (.gst rd a b la) s = .next (s.takeTrap s.here s.cur causeGroup s.me.gsel)) ∧
    (∀ l g, Owned s w l g → takes g → s.x b ≠ 0 →
      ((s.x b).toNat % 64 ≠ 0 → gives (.gcommit rd a b) s 2 (fun t => t.groups = s.groups)) ∧
      ((s.x b).toNat % 64 = 0 → (∀ r, s.translate (s.xctx s.here s.cur) .store (s.x b) 32 ≠ .ok r) →
        gives (.gcommit rd a b) s 2 (fun t => t.groups = s.groups))) ∧
    (∀ l g, Owned s w l g → CommitObjectAt s u (s.x b) loc gen → g.state = .opened → g.dests = [] →
      u.groupInBuffer l g = false → s.x b = 0 → gives (.gcommit rd a b) u 0 (fun t => mapFind t.groups l =
        some { g with state := .committed, pubTick := u.chip.tick, count := 0, countLoc := 0, gen := 0 })) ∧
    (∀ l g, Owned s w l g → CommitObjectAt s u (s.x b) loc gen → g.state = .opened →
      let h := { g with state := .preparing, count := s.x b, countLoc := loc, gen := gen, prepared := false }
      (u.groupInBuffer l g = true → gives (.gcommit rd a b) u 0 (fun t =>
        mapFind t.groups l = some h ∧ t.waiting = u.waiting ∧ t.outbox = u.outbox)) ∧
      (u.groupInBuffer l g = false → away g → g.dests ≠ [] → gives (.gcommit rd a b) u 0 (fun t =>
        mapFind t.groups l = some { h with prepared := true, prepareTick := u.chip.tick, answered := [] } ∧
        t.waiting = u.waiting ++ groupMessages u 1 group (g.dests.map (fun d => (d.1, BitVec.ofNat 64 d.2))))) ∧
      (∀ n d, u.groupInBuffer l g = false → g.dests = [(s.chipNumber, n)] → u.destGroup group = some d → d.group = group →
        d.state = .staging → d.count = n → gives (.gcommit rd a b) u 0 (fun t =>
          let at' := u.chip.tick + BitVec.ofNat 64 (256 + 4 * (u.extent 0 / 2 + u.extent 1 / 2 + u.extent 2 / 2))
          (∃ k, mapFind t.groups l = some k ∧ k.state = .publishing ∧ k.pubTick = at') ∧
          t.destGroup group = some { d with state := .applying, atTick := at' }))) ∧
    (∀ l g, Owned s w l g → CommitObjectAt s u (s.x b) loc gen → g.state = .failed → aborts (.gcommit rd a b) u l g g.reason) ∧
    (∀ l g, Owned s w l g → takes g ∨ g.state = .preparing → aborts (.gabort rd a) s l g 17) ∧
    (∀ l g, Owned s w l g → g.state = .publishing → gives (.gabort rd a) s 2 (fun t => t.groups = s.groups)) ∧
    ((∀ l g, Owned s w l g → g.state = .committed ∨ g.state = .aborted ∨ g.state = .aborting) →
      gives (.gabort rd a) s 1 (fun t => t.groups = s.groups)) ∧
    (∀ l g, Owned s w l g → s.x b = 0 → gives (.gstat rd a b) s (BitVec.ofNat 64
      ((if g.state = .publishing ∨ g.state = .committed then g.pubTick.toNat % 2 ^ 32 else 0) * 2 ^ 32 +
        (if g.state = .failed ∨ g.state = .aborting ∨ g.state = .aborted then g.reason.toNat else 0) * 2 ^ 24 +
        g.dests.length * 2 ^ 16 + g.state.code)) (fun t => t.groups = s.groups)) ∧
    ((∀ l g, ¬Owned s w l g) → s.x b = 0 → gives (.gstat rd a b) s (BitVec.allOnes 64) (fun t => t.groups = s.groups)) ∧
    (s.x b = 1 → gives (.gstat rd a b) s
      (BitVec.ofNat 64 (256 + 4 * (s.extent 0 / 2 + s.extent 1 / 2 + s.extent 2 / 2))) (fun t => t.groups = s.groups)) ∧
    (∀ free : Nat → Bool, s.x b = 2 → (∀ l, free l = true ↔ may l) → gives (.gstat rd a b) s
      (BitVec.ofNat 64 ((List.range 256).filter free).length) (fun t => t.groups = s.groups)) ∧
    (s.x b = 3 → gives (.gstat rd a b) s
      (BitVec.ofNat 64 ((s.staging.toList.map (fun n => 32768 - n)).foldl (· + ·) 0)) (fun t => t.groups = s.groups)) ∧
    (4 ≤ (s.x b).toNat → gives (.gstat rd a b) s (BitVec.allOnes 64) (fun t => t.groups = s.groups))

/-- R312, R321: a gst with a selected group that takes stores enters the combining buffer with the group's number, in its last entry
where that takes it, and waits while the buffer is full; it changes no byte of memory in the deferred mode. One that leaves its
line or is not aligned is misaligned, one whose descriptor is out of range an access fault, and one to a 65th destination a group
fault. -/
def GroupStores : Prop :=
  ∀ (s s0 s1 : State) (rd a b : BitVec 5) (la : BitVec 4) (l pa : Nat) (g : Group),
    s.ready → Owned s s.me.gsel l g → g.state = .opened ∨ g.state = .failed →
    let len := 8 * ((s.x b).toNat % 32 + 1)
    (if (s.x b).getLsbD 5 then s.useV [] else s.useV [rd]) = .ok s0 →
    ((s.x a).toNat % 8 ≠ 0 ∨ 256 < (s.x a).toNat % 256 + len →
      exec (.gst rd a b la) s = .next (s0.takeTrap s.here s.cur causeStoreMisaligned (s.x a))) ∧
    ((s.x a).toNat % 8 = 0 → (s.x a).toNat % 256 + len ≤ 256 →
      (64 ≤ (s.x b).toNat ∨ ((s.x b).getLsbD 5 = true ∧ len ≠ 8) →
        exec (.gst rd a b la) s = .next (s0.takeTrap s.here s.cur causeStoreAccess (s.x a))) ∧
      ((s.x b).toNat < 64 → ((s.x b).getLsbD 5 = true → len = 8) →
        s0.remoteAddress .store (s.x a) len = .ok (s1, pa) → s1.here = s.here → s1.cur = s.cur → s1.me.pp = false →
        s1.chipNumber = s.chipNumber →
        (64 ≤ (s1.destChips l g).length → pa / 2 ^ 42 ∉ s1.destChips l g →
          exec (.gst rd a b la) s = .next (s0.takeTrap s.here s.cur causeGroup s0.me.gsel)) ∧
        ((s1.destChips l g).length < 64 ∨ pa / 2 ^ 42 ∈ s1.destChips l g →
          let data := if (s.x b).getLsbD 5 then leBytes 8 (s1.x rd).toNat else (lineBytes (s1.v rd)).take len
          let e : Combining := { paddr := pa, data := data, cnt := 0, cntLoc := 0, strand := s.cur,
                                 group := some (BitVec.ofNat 18 s.me.gsel.toNat) }
          let old := (s1.core s.here).combining
          (old.length < 16 → s1.deferred = true → (∀ w, old.getLast? = some w → w.merges e = false) →
            Completes (.gst rd a b la) s (fun t =>
              (t.core s.here).combining = old ++ [e] ∧ (∀ r, t.x r = s1.x r) ∧ t.me.fpc = s1.me.fpc + 4 ∧ MemoryKept s1 t)) ∧
          (∀ w, old.length < 16 → s1.deferred = true → old.getLast? = some w → w.merges e = true →
            Completes (.gst rd a b la) s (fun t => ∃ w', (t.core s.here).combining = old.dropLast ++ [w'] ∧
              w'.group = e.group ∧ (∀ j, j < data.length → w'.data.getD (pa + j - w'.paddr) 0 = data.getD j 0) ∧
              (∀ r, t.x r = s1.x r) ∧ t.me.fpc = s1.me.fpc + 4 ∧ MemoryKept s1 t)) ∧
          (16 ≤ old.length → Completes (.gst rd a b la) s (fun t =>
            t.me.park = some .combining ∧ (t.core s.here).combining = old)))))

/-- R274, R315, R316, R318, R319: a gst at the head of a combining buffer departs: it counts at its destination. A destination
stages a gst in free staging entries and acknowledges it, and refuses one that may not reach its address, or whose group is ready; a prepare that counts what is staged makes the group ready, and refuses it otherwise; a publish sets the tick at which it
applies; an abort drops a group that is not applying. At its tick, every staged byte is stored and the group is gone, with an
acknowledgement. At the issuing chip, the last ready fixes T at the tick plus the bound and publishes, to every destination; a refusal, and
a reply missing after 65,536 ticks, abort; the last acknowledgement of a publish commits, of an abort ends it. -/
def GroupSteps : Prop :=
  ∀ (s u : State) (bytes : List Byte) (m : Msg) (group : BitVec 18) (chip c n : Nat) (g : Group) (d : DestGroup)
    (e : Combining) (es : List Combining),
    let issuer := group.toNat / 256
    let l := group.toNat % 256
    let v := s.countFabric 0x61 1
    let lane := s.countFabric 0x63 1
    let sends := fun (t : State) (kind : Nat) (x : Word) => t.waiting = v.waiting ++ groupMessages v kind group [(issuer, x)]
    let others := fun (t : State) => ∀ q, q ≠ group → t.destGroup q = s.destGroup q
    ((s.core c).combining = e :: es → (s.core c).freeEntry = some n → e.group = some group →
      e.paddr / 2 ^ 42 ≠ s.chipNumber → mapFind s.groups l = some g → g.state = .opened →
      (s.linkRefused (e.paddr / 2 ^ 42) = false → Completes (.depart c) s (fun t =>
        (t.core c).combining = es ∧ (∃ j, mapFind (t.core c).journal n = some j ∧ j.state = .posted ∧ j.paddr = e.paddr ∧
          j.len = e.data.length ∧ j.group = some group) ∧
        (∃ h, mapFind t.groups l = some h ∧ h.state = .opened ∧ (∃ k, (e.paddr / 2 ^ 42, k) ∈ h.dests)) ∧
        ∃ b, Sends s t 24 (e.paddr / 2 ^ 42) b)) ∧
      (s.linkRefused (e.paddr / 2 ^ 42) = true → s.launches = [] → Completes (.depart c) s (fun t =>
        (t.core c).combining = es ∧ mapFind (t.core c).journal n = none ∧ t.waiting = s.waiting ∧
        mapFind t.groups l = some { g with state := .failed, reason := 6 }))) ∧
    (Arrives s u bytes kindGst m → m.aux = group.toNat → u.destGroup group = some d → d.group = group →
      let reply := fun (kind aux : Nat) => Msg.bytes { m with
        kind := kind, chip := s.chipNumber, dst := m.chip, len := 0, aux := aux, payload := [] }
      (d.state = .staging → m.chip = issuer →
        let die := homeDie (m.addr % 2 ^ 42)
        let used := u.staging[die]?.getD 0
        (u.refuses m.chip m.ld m.addr m.payload.length = none → die < 8 → used + (m.payload.length + 47) / 48 ≤ 32768 →
          Completes (.gstMessage bytes) s (fun t =>
            t.destGroup group = some { d with
              staged := d.staged ++ [(die, cellsAt (m.addr % 2 ^ 42) m.payload)], count := d.count + 1 } ∧
            t.staging[die]?.getD 0 = used + (m.payload.length + 47) / 48 ∧ MemoryKept u t ∧ others t ∧
            Sends u t 24 m.chip (reply kindRstAck 0))) ∧
        (∀ r, (u.refuses m.chip m.ld m.addr m.payload.length = some r ∨
            (u.refuses m.chip m.ld m.addr m.payload.length = none ∧ r = 4 ∧
              32768 < used + (m.payload.length + 47) / 48)) → Completes (.gstMessage bytes) s (fun t =>
          t.destGroup group = some { d with state := .refused, reason := BitVec.ofNat 8 r, staged := [], count := 0 } ∧
          MemoryKept u t ∧ others t ∧ Sends u t 24 m.chip (reply kindRstRefuse r)))) ∧
      (d.state = .ready ∨ d.state = .applying → Completes (.gstMessage bytes) s (fun t =>
        t.destGroup group = some d ∧ MemoryKept u t ∧ Sends u t 24 m.chip (reply kindRstRefuse 5)))) ∧
    (s.launches = [] → s.destGroup group = some d → d.group = group →
      (d.state = .staging → Completes (.prepare group d.count) s (fun t =>
        t.destGroup group = some { d with state := .ready } ∧ sends t 2 0 ∧ others t)) ∧
      (∀ k, d.state = .staging → k ≠ d.count → Completes (.prepare group k) s (fun t =>
        t.destGroup group = some { d with state := .refused, reason := 5, staged := [], count := 0 } ∧ sends t 3 5)) ∧
      (∀ at', d.state = .ready → Completes (.publish group at') s (fun t =>
        t.destGroup group = some { d with state := .applying, atTick := at' } ∧ MemoryKept lane t ∧ others t)) ∧
      (d.state ≠ .applying → Completes (.abort group) s (fun t =>
        t.destGroup group = none ∧ others t ∧ (NoTrace s → MemoryKept s t) ∧
        t.outbox = s.outbox ++ laneMessages s [.groupMessage issuer 7 group 0])) ∧
      (d.state = .applying → d.atTick.toNat ≤ s.chip.tick.toNat → issuer ≠ s.chipNumber → s.wf →
        Completes (.groupApply group) s (fun t =>
          t.destGroup group = none ∧ t.outbox = s.outbox ++ laneMessages s [.groupMessage issuer 6 group 0] ∧ others t ∧ t.wf ∧
          (NoTrace s → ∀ loc x, (d.staged.reverse.findSome? (fun y => cellAt y.2 loc)) = some x →
            t.readByte .device loc = x))) ∧
      (d.state = .applying → s.chip.tick.toNat < d.atTick.toNat → Completes (.groupApply group) s (fun t =>
        t.destGroup group = some d ∧ MemoryKept s t ∧ t.outbox = s.outbox))) ∧
    (s.launches = [] → issuer = s.chipNumber → mapFind s.groups l = some g → g.count = 0 →
      let at' := fun (t : State) => mapFind t.groups l
      let far := g.dests.filter (fun x => x.1 != s.chipNumber)
      let own := g.dests.any (fun x => x.1 == s.chipNumber)
      let aborts := fun (i : Instr) (v : State) (r : BitVec 8) =>
        (v.groupInBuffer l g = true → Completes i s (fun t =>
          at' t = some { g with state := .aborting, reason := r, abortSent := false, acked := [] } ∧ t.waiting = v.waiting)) ∧
        (v.groupInBuffer l g = false → far ≠ [] → Completes i s (fun t =>
          at' t = some { g with state := .aborting, reason := r, abortSent := true,
                                acked := if own then [s.chipNumber] else [] } ∧
          t.waiting = v.waiting ++ groupMessages v 4 group (far.map (fun x => (x.1, 0))) ∧
          (own = true → s.destGroup group = some d → d.group = group → d.state ≠ .applying → t.destGroup group = none)))
      (g.state = .preparing → g.prepared = true → chip ∉ g.answered → (∀ x, x ∈ g.dests → x.1 = chip ∨ x.1 ∈ g.answered) →
        Completes (.ready group chip) s (fun t =>
          let tick := s.chip.tick + BitVec.ofNat 64 (256 + 4 * (s.extent 0 / 2 + s.extent 1 / 2 + s.extent 2 / 2))
          at' t = some { g with state := .publishing, answered := chip :: g.answered, pubTick := tick, acked := [] } ∧
          t.outbox = s.outbox ++ laneMessages s (far.map (fun x => .groupMessage x.1 5 group tick)) ∧
          (own = true → s.destGroup group = some d → d.group = group → d.state = .ready →
            t.destGroup group = some { d with state := .applying, atTick := tick }))) ∧
      (g.state = .preparing → g.prepared = true → chip ∉ g.answered →
        (∃ x, x ∈ g.dests ∧ x.1 ≠ chip ∧ x.1 ∉ g.answered) → Completes (.ready group chip) s (fun t =>
          at' t = some { g with answered := chip :: g.answered } ∧ t.outbox = s.outbox)) ∧
      (∀ r, g.state = .preparing → aborts (.groupRefuse group chip r) v r) ∧
      (g.state = .publishing → chip ∉ g.acked → (∀ x, x ∈ g.dests → x.1 = chip ∨ x.1 ∈ g.acked) →
        Completes (.publishAck group chip) s (fun t =>
          at' t = some { g with state := .committed, acked := chip :: g.acked })) ∧
      (g.state = .aborting → g.abortSent = true → chip ∉ g.acked → (∀ x, x ∈ g.dests → x.1 = chip ∨ x.1 ∈ g.acked) →
        (∀ y, y ∈ (s.core g.core).journal → y.2.group ≠ some group) → Completes (.abortAck group chip) s (fun t =>
          at' t = some { g with state := .aborted, acked := chip :: g.acked })) ∧
      (g.state = .preparing → g.prepared = true → g.prepareTick.toNat + 65536 ≤ s.chip.tick.toNat →
        aborts (.groupTimeout group) s 16))

/-- R310-R323: groups: the instructions, the stores, and the steps of a commit.
Where it rests on the model's own readings and choices: log entry 45. -/
def Obligations.GroupCommit : Prop := GroupInstructions ∧ GroupStores ∧ GroupSteps

/-! ## Launches (R69-R88, R126, R127, R337, R338, R345) -/

/-- R73-R75: what submitting a block leaves, with the word that it gives: a malformed block ends with FORM and the offset of its
first bad field, one of 2^24 vpes or more with RANGE, one that asks for a feature that the chip lacks with FEATURE and the lowest
such, and one of no vpes that could be placed with DONE_EMPTY, no launch joining the queue; an accepted one takes the next LID of
its logical device, and without prerequisites is READY at this tick. -/
def Submitted (s : State) (x : XCtx) (ld : Nat) (b : List Byte) (t : State) (v : Word) : Prop :=
  let refused := fun (code detail : Nat) => v = BitVec.ofNat 64 (detail * 2 ^ 16 + code) ∧ t.launches = s.launches
  let bad := s.blockBad x ld b
  (∀ off, bad = some off → refused 0x101 off) ∧
    (bad = none → lpbDone b = 0 → s.decremented = [] →
      (2 ^ 24 ≤ lpbVpes b → refused 0x102 0) ∧
      (∀ i, lpbVpes b < 2 ^ 24 → i < 128 → (lpbFeature b).testBit i = true → Config.capabilities.getLsbD i = false →
        (∀ j, j < i → (lpbFeature b).testBit j = true → Config.capabilities.getLsbD j = true) → refused 0x103 i) ∧
      ((∀ j, j < 128 → (lpbFeature b).testBit j = true → Config.capabilities.getLsbD j = true) → lpbVpes b < 2 ^ 24 →
        (s.blockFits ld b = false → refused 0x104 0) ∧ (s.blockFits ld b = true → lpbVpes b = 0 → refused 2 0))) ∧
    (s.checkBlock x ld b = .accepted → (∀ i, i < 4 → lpbPrereq b i = 0) →
      let seq := (s.ld ld).seq.toNat
      v = BitVec.ofNat 64 ((ld * 2 ^ 28 + seq) % 2 ^ 32 * 2 ^ 32) ∧
      (t.ld ld).seq.toNat = (if seq = 2 ^ 28 - 1 then 1 else seq + 1) ∧
      ∃ l, l ∈ t.launches ∧ l.lid = BitVec.ofNat 32 (ld * 2 ^ 28 + seq) ∧ l.lpb = b ∧ l.state = .ready ∧
        l.readyTick = s.chip.tick)

/-- R73-R75, R126, R127, R345, R351: launch fences at system scope and submits the block of its address for its core's logical
device; lpoll shows the state of a launch of that logical device, with code and detail once it has ended, and 0 for any other.
The executive on a server core takes the next record of a host-to-device queue of a bound logical device that processes them: it
submits the block of a launch request whose features are accepted, and drops and counts one whose features are not, or that
breaks the layout, and a record of another kind below 0x0100. -/
def LaunchInstructions : Prop :=
  ∀ (s s1 s2 : State) (rd a : BitVec 5) (locs : List Nat), s.ready →
    let ld := (s.core s.here).ld.toNat
    let lid := BitVec.ofNat 32 (s.x a).toNat;
    ((s.x a).toNat % 256 = 0 → s.access .load (s.x a) 256 = .ok (s1, locs) → s1.fence 6 = .ok s2 → s2.here = s.here →
      s2.cur = s.cur → Completes (.launch rd a) s (fun t =>
        (∃ v, Submitted s2 (s2.xctx s.here s.cur) (s2.core s.here).ld.toNat (locs.map (s2.readByte .device)) t v ∧
          t.x rd = (if rd = 0 then 0 else v)) ∧ (∀ q, q ≠ rd → t.x q = s2.x q) ∧ t.me.fpc = s2.me.fpc + 4)) ∧
    ((∀ l, l ∈ s.launches → l.lid = lid → l.issuer ≠ s.chipNumber) →
      exec (.lpoll rd a) s = .next ((s.writeX rd 0).retire 4)) ∧
    (∀ l, s.launch { issuer := s.chipNumber, lid := lid } = some l → lid.toNat / 2 ^ 28 = ld →
      s.laterLids l < 4096 → exec (.lpoll rd a) s = .next ((s.writeX rd (BitVec.ofNat 64 (match l.state with
        | .queued => 1
        | .ready => 2
        | .claiming => 3
        | .running => 4
        | .retired => 5 + l.code.toNat * 2 ^ 16 + l.detail.toNat * 2 ^ 32
        | .discarded => 6 + l.code.toNat * 2 ^ 16 + l.detail.toNat * 2 ^ 32))).retire 4)) ∧
    (∀ c i (ld : BitVec 4) q blk, let d := s.ld ld.toNat
      let executive := s.isServer c = true ∧ (s.strand c i).status = .live ∧ (s.strand c i).priv ≠ .user ∧ d.bound = true ∧
        d.accept.getLsbD 63 = true
      (¬executive ∨ (s.queueBlocks ld.toNat 1)[q]? = none → exec (.launchRequest c i ld q) s = .next s) ∧
      (executive → (s.queueBlocks ld.toNat 1)[q]? = some blk →
        let pi := s.readNat .host (blk + 0x10) 4
        let ci := s.readNat .host (blk + 0x14) 4
        let u := s.commitSystem (cellsAt (blk + 0x14) (leBytes 4 ((ci + 1) % 2 ^ 32)))
        let r := s.readBytes .host
          (s.readNat .device blk 8 % 2 ^ 42 + 32 * (ci % 2 ^ s.readNat .device (blk + 8) 1)) 32
        let request := recNat r 0 2 = 0x20 ∧ recNat r 2 6 = 0 ∧ recNat r 16 16 = 0
        let dropped := Completes (.launchRequest c i ld q) s (fun t => t.launches = s.launches ∧ MemoryKept u t ∧
          (t.ld ld.toNat).framingErrors = d.framingErrors + 1)
        (pi = ci → exec (.launchRequest c i ld q) s = .next s) ∧
        (pi ≠ ci → request → d.accept.getLsbD 1 = true → d.accept.getLsbD 0 = true → (recWord r 8).toNat % 256 = 0 →
          ∀ b, u.unitBytes (u.xctx c i) ld.toNat (recWord r 8) 256 = some b →
          (lpbMulti b = true → d.accept.getLsbD 5 = true) → Completes (.launchRequest c i ld q) s (fun t =>
            ∃ v, Submitted u (u.xctx c i) ld.toNat b t v)) ∧
        (pi ≠ ci → request → d.accept.getLsbD 1 = false ∨ d.accept.getLsbD 0 = false → dropped) ∧
        (pi ≠ ci → recNat r 0 2 < 0x100 → ¬request → dropped) ∧
        (pi ≠ ci → 0x100 ≤ recNat r 0 2 → exec (.launchRequest c i ld q) s = .next u)))

/-- R76-R83: once in each period of 1,024 ticks, a QUEUED launch whose prerequisites are all at 0 without a failure becomes READY, and
one with a failed prerequisite ends with PREREQ; the round visits a bound logical
device, whose deficit rises by its weight up to 512, and its candidate takes free clusters when the deficit covers them, and
runs once its chips have reported; with none taken it waits. The last report that the claims are loaded starts the launch and
wakes the other chips; one that they were taken makes it READY again for 4,096 ticks later; a table that failed discards it with
ROUTE and the chip. A claim of another chip is answered with what it came to. -/
def Placement : Prop :=
  ∀ (s : State) (l : Launch) (chip : Nat) (m : ClaimMsg) (cs : List Nat),
    let own := s.chipNumber;
    (s.launches = [l] → l.state = .queued → s.rechecked ≠ s.chip.tick.toNat / 1024 + 1 →
      (s.prereqVerdict l = .ready → Completes .prereqRecheck s (fun t =>
        t.launches = [{ l with state := .ready, readyTick := s.chip.tick }])) ∧
      (s.prereqVerdict l = .waiting → Completes .prereqRecheck s (fun t => t.launches = [l] ∧
        t.rechecked = s.chip.tick.toNat / 1024 + 1)) ∧
      (∀ n, s.prereqVerdict l = .failed n → lpbDone l.lpb = 0 → Completes .prereqRecheck s (fun t =>
        ∃ k, t.launches = [k] ∧ k.state = .discarded ∧ k.code = 0x106 ∧ k.detail = BitVec.ofNat 16 n))) ∧
    (s.rechecked = s.chip.tick.toNat / 1024 + 1 → exec .prereqRecheck s = .next s) ∧
    (let d := lidLd l.lid;
      s.launches = [l] → l.state = .ready → l.issuer = own → (s.ld d).bound = true →
      (∀ e, e < 16 → e ≠ d → (s.ld e).bound = false) → l.notBefore.toNat ≤ s.chip.tick.toNat → s.roundTick ≠ some s.chip.tick →
      lpbMulti l.lpb = false → let have' := min ((s.ld d).deficit + (s.ld d).weight) 512;
      (have' < s.cost d l.lpb → have' ≠ 512 → Completes .launchRound s (fun t =>
        t.launches = [l] ∧ (t.ld d).deficit = have' ∧ t.roundTick = some s.chip.tick)) ∧
      (s.cost d l.lpb ≤ have' → placeOn l.lpb (s.claimable d own) [] = none → Completes .launchRound s (fun t =>
        t.launches = [l] ∧ (t.ld d).deficit = have')) ∧
      (s.cost d l.lpb ≤ have' → placeOn l.lpb (s.claimable d own) [] = some cs → l.clusters = [] →
        Completes .launchRound s (fun t => (t.ld d).deficit = 0 ∧ ∃ k, t.launches = [k] ∧ k.state = .running ∧ k.lid = l.lid ∧
          k.clusters = cs ∧ k.chips = [own] ∧ k.woken = false))) ∧
    (s.launch l.key = some l → l.state = .claiming → l.issuer = own → chip ∈ l.chips →
      (∀ r, r ∈ l.reports → r.1 ≠ chip ∧ r.2 = .loaded) → (∀ c, c ∈ l.chips → c = chip ∨ c ∈ l.reports.map (·.1)) →
      (Completes (.claimReport l.lid chip .loaded) s (fun t =>
        (∃ k, t.launch l.key = some k ∧ k.state = .running ∧ k.clusters = l.clusters) ∧
        t.outbox = s.outbox ++ laneMessages s ((l.chips.filter (· ≠ own)).map (fun c => .launchMessage c 2 l.lid 0)))) ∧
      Completes (.claimReport l.lid chip .taken) s (fun t =>
        (∃ k, t.launch l.key = some k ∧ k.state = .ready ∧ k.clusters = [] ∧ k.notBefore = s.chip.tick + 4096) ∧
        t.outbox = s.outbox ++ laneMessages s ((l.chips.filter (· ≠ own)).map (fun c => .launchMessage c 4 l.lid 0))) ∧
      (l.active = true → l.pendingCode = none → s.groups = [] → lpbDone l.lpb = 0 →
        Completes (.claimReport l.lid chip .tableFailed) s (fun t =>
          ∃ k, t.launch l.key = some k ∧ k.state = .discarded ∧ k.code = 0x105 ∧ k.detail = BitVec.ofNat 16 chip))) ∧
    (let answers := fun (t : State) (v : Word) => t.outbox = s.outbox ++ laneMessages s [.launchMessage m.issuer 1 m.lid v]
      let found := placeOn m.lpb (s.claimable (lidLd m.lid) own) s.heldClusters;
      (found = none → Completes (.claimMessage m) s (fun t => answers t 1 ∧ t.launches = s.launches)) ∧
      (found = some cs → s.tableBad (lidLd m.lid) m.nroute m.records = true →
        Completes (.claimMessage m) s (fun t => answers t 2 ∧ t.launches = s.launches)) ∧
      (found = some cs → s.tableBad (lidLd m.lid) m.nroute m.records = false →
        Completes (.claimMessage m) s (fun t => answers t 0 ∧ ∃ k, k ∈ t.launches ∧ k.lid = m.lid ∧ k.issuer = m.issuer ∧
          k.state = .claiming ∧ k.clusters = cs ∧ k.chips = m.chips ∧ k.rank = m.rank ∧ k.lpb = m.lpb)))

/-- R69, R84-R88, R337, R338: the wake gives each claimed core its share: with a vpe to each, the core whose rank is `c` runs vpe `c`,
whose control strand is LIVE at its first look-up with the arguments, its VPEID and the exit handle, and whose helpers are FREE.
An end on another chip is noted. A discard stops the strands of every core of the launch and empties its queues, releases the
cores, and leaves the launch DISCARDED with its code; the executive ends a running launch likewise, once its other chips have
reported their end. A core whose vpes all wait stops for debug, and that of another chip's cores is noted.
Where it rests on the model's own readings and choices: log entries 9, 13, 54, 88, 89, 90 and 113. -/
def Obligations.LaunchEnds : Prop :=
  ∀ (s : State) (l : Launch) (code detail : BitVec 16), s.launch l.key = some l →
    let mine := l.cores
    let lo := l.rank * mine.length;
    (l.issuer = s.chipNumber → l.state = .running → l.woken = false → l.pendingCode = none → mine.Nodup →
      0 < mine.length → lo < lpbVpes l.lpb → lpbVpes l.lpb ≤ mine.length * l.chips.length → lpbVpes l.lpb < 2 ^ 24 →
      Completes (.wakeMessage l.key) s (fun t =>
        (∃ k, t.launch l.key = some k ∧ k.state = .running ∧ k.woken = true) ∧
        ∀ a core, mine[a]? = some core →
          let k := t.core core
          k.launch = some l.key ∧ k.fdir = lpbFdir l.lpb ∧ k.nfdir = lpbNfdir l.lpb ∧ k.modtab = lpbModtab l.lpb ∧
          k.nmod = lpbNmod l.lpb ∧ k.helpers = lpbHelpers l.lpb ∧ k.spad = lpbSpad l.lpb ∧ (∀ n, n < 8 → k.fifo n = []) ∧
          (lpbVpes l.lpb ≤ lo + a → k.slots = [] ∧ ∀ i, i < 11 → (t.strand core i).status = .free) ∧
          (lo + a < lpbVpes l.lpb →
            (t.strand core 0).status = .live ∧ (∃ d, (t.strand core 0).pos = .first d) ∧
            (t.strand core 0).readX 10 = lpbArgs l.lpb ∧ (t.strand core 0).readX 11 = BitVec.ofNat 64 (lo + a) ∧
            (t.strand core 0).readX 1 = exitHandle ∧
            (t.strand core 0).readX 2 = BitVec.ofNat 64 (stackTop l.key l.lpb (BitVec.ofNat 24 (lo + a)) 0) ∧
            (t.strand core 0).readX 4 = localBase l.key (BitVec.ofNat 24 (lo + a)) 0 ∧
            (∀ i, i ≤ lpbHelpers l.lpb → ∃ r, r ∈ t.stackRanges ∧ r.launch = l.key ∧ r.vpeid = BitVec.ofNat 24 (lo + a) ∧
              r.strand = i ∧ r.top = stackTop l.key l.lpb r.vpeid i ∧ r.limit = lpbStackBytes l.lpb ∧
              r.mapped = min 16384 r.limit) ∧
            (∀ i, i < 11 → (t.strand core i).vpeid = BitVec.ofNat 24 (lo + a) ∧
              (t.strand core i).vpecnt = BitVec.ofNat 24 (lpbVpes l.lpb)) ∧
            (∀ i, 0 < i → i < 11 → (t.strand core i).status = .free)))) ∧
    (∀ chip, l.issuer = s.chipNumber → l.active = true → chip ∈ l.chips → chip ∉ l.endedChips → l.localDone = false → l.pendingCode = none →
      Completes (.endedMessage l.lid chip) s (fun t => t.launch l.key = some { l with endedChips := l.endedChips ++ [chip] })) ∧
    (let stopped := fun (t : State) => (∃ k, t.launch l.key = some k ∧ k.state = .discarded ∧ k.code = code ∧ k.detail = detail) ∧
        (∀ r, r ∈ t.routes → r.launch ≠ l.key) ∧ (∀ r, r ∈ t.stackRanges → r.launch ≠ l.key) ∧
        ∀ c, c ∈ s.heldCores l → let k := t.core c
          k.launch = none ∧ k.vqueue = [] ∧ k.mqueue = [] ∧ k.syscalls = [] ∧ k.combining = [] ∧ k.slots = [] ∧
          k.samask = 0 ∧ ∀ i, i < 11 → (t.strand c i).status = .free ∧ (t.strand c i).pos = .nowhere;
      l.active = true → l.pendingCode = none → s.groups = [] → code ≠ codeDone →
      (l.issuer ≠ s.chipNumber → Completes (.launchDiscardMessage l.key code detail) s stopped) ∧
      (l.issuer = s.chipNumber → l.state = .running →
        code = codeFault ∨ (code = codeStackLimit ∧ s.limitPassed l detail = true) → lpbDone l.lpb = 0 →
        ((∀ c, c ∈ l.chips → c = s.chipNumber ∨ c ∈ l.endedChips) →
          Completes (.launchEndByExecutive l.key code detail) s stopped) ∧
        ((∃ c, c ∈ l.chips ∧ c ≠ s.chipNumber ∧ c ∉ l.endedChips) →
          Completes (.launchEndByExecutive l.key code detail) s (fun t => ∃ k, t.launch l.key = some k ∧ k.state = .running ∧
            k.pendingCode = some (code, detail))))) ∧
    (∀ c, (s.core c).launch = some l.key → l.debugStop = true → l.state = .running → (s.core c).debugStopped = false →
      s.debugMayStop c = true → Completes (.coreDebugStopped ⟨none, c⟩) s (fun t => (t.core c).debugStopped = true)) ∧
    (∀ chip low c, l.issuer = s.chipNumber → l.debugStop = true → l.state = .running → chip ≠ s.chipNumber → chip ∈ l.chips →
      Completes (.coreDebugStopped ⟨some (chip, l.lid, low), c⟩) s (fun t =>
        t.launch l.key = some { l with stoppedChips := (chip, low) :: l.stoppedChips.filter (·.1 ≠ chip) }))

/-- R72-R83, R126, R127, R345: submitting a launch, and placing it.
Where it rests on the model's own readings and choices: log entries 49, 50, 51, 52, 53, 55 and 56. -/
def Obligations.LaunchAndPlacement : Prop := LaunchInstructions ∧ Placement

/-! ## The control queue (R234, R250, R336, R337, R341, R359, R374) -/

/-- R341: an entry stands at CI, apart from the block's CI. -/
def EntryStands (s : State) : Prop :=
  s.ctlPi ≠ s.ctlCi ∧ (s.ctlEntry + 8 ≤ s.ctlLoc + 0x14 ∨ s.ctlLoc + 0x18 ≤ s.ctlEntry + 4)

/-- R341: the entry at CI has completed: host and device read its status, and the next index at CI. -/
def EntryDone (s t : State) (status : Nat) : Prop :=
  ∀ a, a = .host ∨ a = .device → t.readNat a (s.ctlEntry + 4) 4 = status ∧ t.readNat a (s.ctlLoc + 0x14) 4 = (s.ctlCi + 1) % 2 ^ 32

/-- R341: an entry with a bad operand has status 2 and has changed nothing else of the machine. -/
def BadEntry (i : Instr) (s : State) : Prop :=
  Completes i s (fun t => EntryDone s t 2 ∧
    t = { s with mem := t.mem, drained := t.drained, reservations := t.reservations, watches := t.watches,
                 poisoned := t.poisoned })

/-- R341: an entry has completed as done, with an effect. -/
def GoodEntry (i : Instr) (s : State) (P : State → Prop) : Prop := Completes i s (fun t => EntryDone s t 0 ∧ P t)

/-- R45, R78, R95, R99, R216, R305, R336, R337, R341, R343, R347: the setting entries, the pre-emption request and the debug
stops, which are passed on to the other chips of the launch and taken from its issuing chip: what each sets, which operands are bad, and what an entry of an unknown OP, or of a logical device above 15 or a virtual
function above 63, comes to. -/
def ControlSettings : Prop :=
  ∀ (s : State) (e : CtlArgs), EntryStands s →
    let named := e.ld.toNat < 16 ∧ e.vf.toNat < 64
    let ld := e.ld.toNat
    Completes (.controlUnknownOp e) s (fun t => EntryDone s t 1 ∧ t.lds = s.lds) ∧
    (¬named → ∀ i, i ∈ [Instr.setWeight e, .setPartition e, .setTrust e, .setModstore e, .setSpad e, .setRamap e, .setWindow e,
      .setQueues e, .setCdlim e, .preempt e, .debugStop ⟨none, e⟩, .debugResume ⟨none, e⟩, .shootdown ⟨none, e⟩, .counterReply e, .engineReply e,
      .loadKey e] → BadEntry i s) ∧
    (named →
      (if e.a0.toNat < 256 then GoodEntry (.setWeight e) s (fun t => (t.ld ld).weight = max 1 e.a0.toNat)
        else BadEntry (.setWeight e) s) ∧
      (if s.chipExists e.a0.toNat then GoodEntry (.setPartition e) s (fun t => ∀ i, i < 256 →
          (mapGet 0 (t.ld ld).partition e.a0.toNat).getLsbD i = ([e.a1, e.a2, e.a3, e.a4].getD (i / 64) 0).getLsbD (i % 64))
        else BadEntry (.setPartition e) s) ∧
      (if e.a0.toNat % 64 = 0 then GoodEntry (.setTrust e) s (fun t => t.trust = some (e.a0.toNat % 2 ^ 42))
        else BadEntry (.setTrust e) s) ∧
      (if ∃ n, n < 64 ∧ e.a1.toNat = 2 ^ n then GoodEntry (.setModstore e) s (fun t =>
          t.modStore = e.a0.toNat ∧ t.nslot = e.a1.toNat)
        else BadEntry (.setModstore e) s) ∧
      (if e.a0.toNat % 4096 = 0 ∧ e.a1.toNat % 4096 = 0 ∧ e.a0.toNat + e.a1.toNat ≤ 2 ^ 28 then
          GoodEntry (.setSpad e) s (fun t => (t.ld ld).spadOff = e.a0.toNat ∧ (t.ld ld).spadLen = e.a1.toNat)
        else BadEntry (.setSpad e) s) ∧
      GoodEntry (.setRamap e) s (fun t => (t.ld ld).ramap = e.a0.toNat % 2 ^ 42 ∧
        (e.a0 = 0 → ∀ loc, t.granuleOpen ld loc = false)) ∧
      GoodEntry (.setWindow e) s (fun t => (t.ld ld).window = e.a0.toNat % 2 ^ 42 ∧ (t.ld ld).windowInvalid = false) ∧
      (if 1 ≤ e.a1.toNat ∧ e.a1.toNat ≤ 16 then GoodEntry (.setQueues e) s (fun t =>
          (t.ld ld).queues = e.a0.toNat % 2 ^ 42 ∧ (t.ld ld).nqueues = e.a1.toNat)
        else BadEntry (.setQueues e) s) ∧
      (if e.a0.toNat < 256 then GoodEntry (.setCdlim e) s (fun t =>
          (t.cluster e.a0.toNat).cdlim = BitVec.ofNat 7 (max 1 (min 64 e.a1.toNat)))
        else BadEntry (.setCdlim e) s) ∧
      (if e.a0.toNat < 4096 then GoodEntry (.preempt e) s (fun t => ∀ i, i < 11 →
          (t.strand e.a0.toNat i).ip = (if e.a1.getLsbD i then (s.strand e.a0.toNat i).ip ||| (1#64 <<< 18)
            else (s.strand e.a0.toNat i).ip))
        else BadEntry (.preempt e) s) ∧
      (∀ l, s.launch { issuer := s.chipNumber, lid := e.a0.setWidth 32 } = some l → l.active = true → e.a0.toNat < 2 ^ 32 →
        NoTrace s ∨ (∀ c, c ∈ l.chips → c = s.chipNumber) →
        let told := fun (v : Word) => s.outbox ++ laneMessages s ((l.chips.filter (· ≠ s.chipNumber)).map (fun c =>
          .launchMessage c 6 l.lid v))
        GoodEntry (.debugStop ⟨none, e⟩) s (fun t =>
          t.launch l.key = some { l with debugStop := true, stoppedChips := [] } ∧ t.outbox = told 1) ∧
        GoodEntry (.debugResume ⟨none, e⟩) s (fun t =>
          t.launch l.key = some { l with debugStop := false, stoppedChips := [] } ∧ t.outbox = told 0 ∧
          ∀ c, c ∈ s.heldCores l → (t.core c).debugStopped = false)) ∧
      ((∀ l, l ∈ s.launches → l.lid.toNat ≠ e.a0.toNat ∨ l.issuer ≠ s.chipNumber ∨ l.active = false) →
        BadEntry (.debugStop ⟨none, e⟩) s ∧ BadEntry (.debugResume ⟨none, e⟩) s)) ∧
    (∀ l chip, s.launch { issuer := chip, lid := e.a0.setWidth 32 } = some l → l.active = true → chip ≠ s.chipNumber →
      Completes (.debugStop ⟨some chip, e⟩) s (fun t =>
        t.launch l.key = some { l with debugStop := true, stoppedChips := [] } ∧ t.outbox = s.outbox) ∧
      Completes (.debugResume ⟨some chip, e⟩) s (fun t =>
        t.launch l.key = some { l with debugStop := false, stoppedChips := [] } ∧ t.outbox = s.outbox ∧
        ∀ c, c ∈ s.heldCores l → (t.core c).debugStopped = false))

/-- R234, R341: a shootdown takes the matching entries out of the TLBs of every core of its mask on this chip and of their benches,
keeps every other entry, is sent to the other chips of its mask, and completes once each target on every chip has acknowledged; one
with no target completes at once. One that another chip asks for acts on the cores here in the same way. A target here
acknowledges, to each chip that has asked it, when the requests that it had translated have reached their destinations, and not
before. -/
def Shootdowns : Prop :=
  ∀ (s : State) (e : CtlArgs) (d : Shootdown) (c chip : Nat) (mask : BitVec 4096), EntryStands s →
    let own := s.chipNumber
    let hit := fun (x : TlbEntry) => x.vf.toNat = e.vf.toNat ∧
      (e.a0.toNat = 2 ^ 16 ∨ x.global = true ∨ x.asid.toNat = e.a0.toNat) ∧
      (e.a2 = 0 ∨ ∃ v, (x.vpn * 2 ^ x.sizeBits ≤ v ∧ v < (x.vpn + 1) * 2 ^ x.sizeBits) ∧
        (e.a1.toNat % 2 ^ 48 ≤ v ∧ v < e.a1.toNat % 2 ^ 48 + e.a2.toNat ∨
          e.a1.toNat % 2 ^ 48 ≤ v + 2 ^ 48 ∧ v + 2 ^ 48 < e.a1.toNat % 2 ^ 48 + e.a2.toNat))
    let emptied := fun (t : State) =>
      (∀ x, x ∈ (t.core c).tlb ↔ x ∈ (s.core c).tlb ∧ ¬hit x) ∧
      (∀ x, x ∈ (t.bench (benchOf c)).tlb ↔ x ∈ (s.bench (benchOf c)).tlb ∧ ¬hit x) ∧
      (∀ x, x ∈ (t.bench (benchOf c)).pipeTlb ↔ x ∈ (s.bench (benchOf c)).pipeTlb ∧ ¬hit x)
    (e.ld.toNat < 16 → e.vf.toNat < 64 → e.a0.toNat ≤ 2 ^ 16 →
      let chips := (List.range 1024).filter (fun k =>
        (s.readNat .device (e.a4.toNat % 2 ^ 42) 128).testBit k && s.chipExists k)
      let cores := s.readNat .device (e.a3.toNat % 2 ^ 42) 512
      let others := chips.filter (· ≠ own)
      (others = [] → own ∉ chips ∨ cores % 2 ^ 4096 = 0 →
        GoodEntry (.shootdown ⟨none, e⟩) s (fun t => t.cores = s.cores ∧ t.shootdown = none)) ∧
      (own ∈ chips → cores.testBit c = true → c < 4096 → Completes (.shootdown ⟨none, e⟩) s (fun t =>
        emptied t ∧ t.outbox = s.outbox ++ laneMessages s (others.map (fun k => .shootdown k e (BitVec.ofNat 4096 cores))) ∧
        (NoTrace s → t.ctlCi = s.ctlCi) ∧
        ∃ d, t.shootdown = some d ∧ d.issuer = own ∧ (∀ k, k ∈ d.waiting ↔ k < 4096 ∧ cores.testBit k = true) ∧
          (∀ k n, (k, n) ∈ d.others ↔ k ∈ others ∧ n < 4096 ∧ cores.testBit n = true)))) ∧
    (e.ld.toNat < 16 → e.vf.toNat < 64 → 2 ^ 16 < e.a0.toNat → BadEntry (.shootdown ⟨none, e⟩) s) ∧
    (e.ld.toNat < 16 → e.vf.toNat < 64 → e.a0.toNat ≤ 2 ^ 16 → chip ≠ own → mask.getLsbD c = true →
      Completes (.shootdown ⟨some (chip, mask), e⟩) s (fun t => emptied t ∧ t.outbox = s.outbox ∧ t.shootdown = s.shootdown ∧
        ∃ d, t.foreignShootdowns = s.foreignShootdowns ++ [d] ∧ d.issuer = chip ∧
          (∀ k, k ∈ d.waiting ↔ k < 4096 ∧ mask.getLsbD k = true))) ∧
    ((s.core c).mqueue = [] → (s.core c).combining = [] → (s.core c).journal = [] → (s.bench (benchOf c)).chains = [] →
      (∀ i, i < 11 → (s.strand c i).storeBuf = [] ∧ (s.strand c i).pending = []) →
      (s.shootdown = some d → s.foreignShootdowns = [] →
        ((∀ k, k ∈ d.waiting → k = c) → d.others = [] →
          GoodEntry (.shootdownAck ⟨own, c⟩) s (fun t => t.shootdown = none)) ∧
        ((∃ k, k ∈ d.waiting ∧ k ≠ c) ∨ d.others ≠ [] → Completes (.shootdownAck ⟨own, c⟩) s (fun t =>
          t.shootdown = some { d with waiting := d.waiting.filter (· ≠ c) } ∧ t.ctlCi = s.ctlCi))) ∧
      (s.shootdown = none → s.foreignShootdowns = [d] → c ∈ d.waiting → Completes (.shootdownAck ⟨own, c⟩) s (fun t =>
        t.outbox = s.outbox ++ laneMessages s [.shootdownAck d.issuer c] ∧
        t.foreignShootdowns = (if d.waiting.filter (· ≠ c) = [] then []
          else [{ d with waiting := d.waiting.filter (· ≠ c) }])))) ∧
    (∀ i w, i < 11 → w ∈ (s.strand c i).storeBuf → w.early = true → exec (.shootdownAck ⟨own, c⟩) s = .next s) ∧
    (chip ≠ own → s.shootdown = some d →
      (d.waiting = [] → d.others.filter (· ≠ (chip, c)) = [] → NoTrace s →
        GoodEntry (.shootdownAck ⟨chip, c⟩) s (fun t => t.shootdown = none)) ∧
      (d.waiting ≠ [] ∨ d.others.filter (· ≠ (chip, c)) ≠ [] → Completes (.shootdownAck ⟨chip, c⟩) s (fun t =>
        t.shootdown = some { d with others := d.others.filter (· ≠ (chip, c)) } ∧ t.outbox = s.outbox)))

/-- R250, R341, R359: an engine reply 0 lets the chain that stands at a page fault read again, and 1 ends it with EPAGE; a
counter reply 0 retires the parked access with A2, 1 performs it, and 2 raises the illegal-instruction fault; each is a bad entry
where nothing waits for it or its action is another. -/
def ControlReplies : Prop :=
  ∀ (s : State) (e : CtlArgs) (k : Chain) (csr : BitVec 12) (op : Nat) (v tick : Word) (offered : Option Word)
    (limit : Option (BitVec 24)),
    EntryStands s → e.ld.toNat < 16 → e.vf.toNat < 64 →
    let b := e.a0.toNat
    let c := e.a0.toNat
    let i := e.a1.toNat
    ((s.bench b).chain (e.a1.setWidth 32) = some k → e.a1.toNat < 2 ^ 32 → b < 1024 → k.phase = .faulted limit →
      (e.a2 = 0 → GoodEntry (.engineReply e) s (fun t => (t.bench b).chain k.ticket = some { k with phase := .waiting })) ∧
      (e.a2 = 1 → GoodEntry (.engineReply e) s (fun t => (t.bench b).chain k.ticket = none ∧
        (t.bench b).chainsEnded = ((k.ticket, chainStatus ePage k.next 0 0) ::
          (s.bench b).chainsEnded.filter (fun x => x.1 ≠ k.ticket)).take 64)) ∧
      (1 < e.a2.toNat → BadEntry (.engineReply e) s)) ∧
    ((∀ k, (s.bench b).chain (e.a1.setWidth 32) = some k → ∀ n, k.phase ≠ .faulted n) → BadEntry (.engineReply e) s) ∧
    (c < 4096 → i < 11 → (s.strand c i).park = some (.counterReply csr op v tick offered) → NoTrace s →
      let u := { s with here := c, cur := i }
      let rd : BitVec 5 := u.currentWord.extractLsb' 7 5
      (e.a3 = 0 → GoodEntry (.counterReply e) s (fun t =>
        (t.strand c i).readX rd = (if rd = 0 then 0 else e.a2) ∧ (∀ q, q ≠ rd → (t.strand c i).readX q = (s.strand c i).readX q) ∧
        (t.strand c i).fpc = (s.strand c i).fpc + 4 ∧ (t.strand c i).instret = (s.strand c i).instret + 1 ∧
        (t.strand c i).park = none ∧ t.here = s.here ∧ t.cur = s.cur)) ∧
      (∀ n, e.a3 = 1 → n < 4 → field u.currentWord 12 3 = 1 → u.currentWord.toNat / 2 ^ 20 % 2 ^ 12 = 0x5C5 + n →
        GoodEntry (.counterReply e) s (fun t =>
          (t.core c).evsel[n]? = some ((s.strand c i).readX (u.currentWord.extractLsb' 15 5) &&& evselMask) ∧
          (rd ≠ 0 → some ((t.strand c i).readX rd) = (s.core c).evsel[n]?) ∧
          (t.strand c i).fpc = (s.strand c i).fpc + 4 ∧ (t.strand c i).park = none)) ∧
      (e.a3 = 2 → Completes (.counterReply e) s (fun t =>
        t.core c = (u.takeTrap c i causeIllegal u.currentWord).core c)) ∧
      (2 < e.a3.toNat → BadEntry (.counterReply e) s)) ∧
    ((∀ csr op v tick offered, (s.strand c i).park ≠ some (.counterReply csr op v tick offered)) ∨ 4096 ≤ c ∨ 11 ≤ i →
      BadEntry (.counterReply e) s)

/-- R373-R375, R341: a key record of a legal form that unwraps installs its key in its slot for its logical device and virtual
function; one that breaks its layout, that names a slot of another logical device, or that does not unwrap is refused with
status 3, and no key changes; an address that is not a multiple of 256 in device memory is a bad operand. -/
def TenantKeys : Prop :=
  ∀ (s : State) (e : CtlArgs), EntryStands s → e.ld.toNat < 16 → e.vf.toNat < 64 →
    let loc := e.a0.toNat % 2 ^ 42
    let r := s.readBytes .device loc 1280
    let slot := recNat r 0 2
    let ld := recNat r 2 1
    let legal := 1 ≤ slot ∧ slot < 128 ∧ ld < 16 ∧ recNat r 3 1 / 4 = ld ∧ (∀ n, 4 ≤ n ∧ n < 32 ∨ 0x4A8 ≤ n ∧ n < 0x500 → r.getD n 0 = 0)
    let mine := ∀ k, mapFind s.security.keys slot = some k → k.owner = some (BitVec.ofNat 4 ld)
    (loc % 256 = 0 → s.paLoc 0 e.a0.toNat = some loc → isDevice (loc + 1279) = true →
      (legal → mine → Completes (.loadKey e) s (fun t => match unwrapKey r with
        | some key => EntryDone s t 0 ∧ mapFind t.security.keys slot =
            some { key := key, serial := s.security.keysLoaded + 1, owner := some (BitVec.ofNat 4 ld), vf := BitVec.ofNat 6 (recNat r 3 1) } ∧
            ∀ j, j ≠ slot → mapFind t.security.keys j = mapFind s.security.keys j
        | none => EntryDone s t 3 ∧ t.security = s.security)) ∧
      (¬legal ∨ ¬mine → Completes (.loadKey e) s (fun t => EntryDone s t 3 ∧ t.security = s.security))) ∧
    (loc % 256 ≠ 0 ∨ s.paLoc 0 e.a0.toNat ≠ some loc ∨ isDevice (loc + 1279) = false → BadEntry (.loadKey e) s)

/-- The control queue: its settings, its shootdowns, its replies and its keys.
Where it rests on the model's own readings and choices: log entries 85, 86, 87, 88, 91 and 92. -/
def Obligations.ControlQueue : Prop := ControlSettings ∧ Shootdowns ∧ ControlReplies ∧ TenantKeys

/-! ## Hosts and their logical devices (R346, R350, R351, R375) -/

/-- R350, R375: a logical device has been quiesced: it reads no further record; its launches have ended, with HOST_RESET where no
launch waits on another and no other chip runs them; its queue pairs are in error, with no send and no posted receive; its window
is invalid, in every TLB too, and no store to it is in flight; PI, CI and OVF of its queues are 0, and its deficit; and, once no
launch of it is active, it owns no key slot. -/
def Quiesced (s t : State) (ld : BitVec 4) : Prop :=
  let d := s.ld ld.toNat
  (t.ld ld.toNat).windowInvalid = true ∧ (t.ld ld.toNat).deficit = 0 ∧
    (s.groups = [] → (s.launches.map (·.key)).Nodup → (∀ l, l ∈ s.launches → l.pendingCode = none) →
      ∀ l, l ∈ s.launches → lidLd l.lid = ld.toNat → l.active = true →
        let waits := l.issuer = s.chipNumber ∧ l.state = .running ∧ ∃ c, c ∈ l.chips ∧ c ≠ s.chipNumber ∧ c ∉ l.endedChips
        (¬waits → ∃ k, t.launch l.key = some k ∧ k.state = .discarded ∧
          ((∀ m, m ∈ s.launches → lpbDone m.lpb = 0) → k.code = 0x10A ∧ k.detail = 0)) ∧
        (waits → ∃ k, t.launch l.key = some k ∧ k.state = .running ∧ k.pendingCode = some (0x10A, 0))) ∧
    (∀ l, l ∈ s.launches → (s.launches.map (·.key)).Nodup → (l.active = false ∨ lidLd l.lid ≠ ld.toNat ∧
      ∀ m, m ∈ s.launches → lpbDone m.lpb = 0) → t.launch l.key = some l) ∧
    (∀ c e, c ∈ s.cores.map (·.1) → e ∈ (t.core c).tlb ∨ e ∈ (t.bench (benchOf c)).tlb ∨ e ∈ (t.bench (benchOf c)).pipeTlb →
      e.vf.toNat / 4 ≠ ld.toNat) ∧
    (∀ c i w x, i < 11 → w ∈ (t.strand c i).storeBuf → x ∈ w.cells → isHostMemory ld.toNat x.1 = false) ∧
    (∀ w x, w ∈ t.drained → w.reach ≠ .s → x ∈ w.cells → isHostMemory ld.toNat x.1 = false) ∧
    (∀ q, q ∈ t.qps → q.ld = ld → q.error = true ∧ q.sends = []) ∧ (∀ b, b ∈ t.srqBuffers → b.ld ≠ ld) ∧
    (∀ q, q.ld ≠ ld → (q ∈ t.qps ↔ q ∈ s.qps)) ∧
    (∀ n, n < d.nqueues → let q := d.queues + 32 * n
      t.readNat .host (q + 0x10) 8 = 0 ∧ t.readNat .host (q + 0xC) 4 % 2 = 0) ∧
    (∀ k, k ∈ t.security.keys ↔ k ∈ s.security.keys ∧ ((t.ld ld.toNat).quiescing = true ∨ k.2.owner ≠ some ld)) ∧
    ((t.ld ld.toNat).quiescing = true ↔ ∃ l, l ∈ t.launches ∧ l.active = true ∧ lidLd l.lid = ld.toNat)

/-- R74, R346, R350, R351, R375: binding an unbound logical device whose quiescing is over gives it its range of device memory,
its LID sequence starts at 1, and the launches it issued earlier are forgotten; a CXL reset and an unbind of a bound one quiesce
it, and an unbind leaves it unbound. A read of the DVSEC answers with OFFER, ACCEPT, or the chip model and the queue table. A
write of ACCEPT stores the features that are offered and ENABLE; one that changes the features while ENABLE is 1 is ignored, and
one that clears ENABLE quiesces. A CXL.mem access inside the range reads what the host sees of device memory, or stores at system
scope. A logical device that no host has does none of these.
Where it rests on the model's own readings and choices: log entries 82 and 83. -/
def Obligations.Hosts : Prop :=
  ∀ (s : State) (ld : BitVec 4) (base size : Nat) (v : Word) (off len : Nat) (data : List Byte),
    let n := ld.toNat
    let d := s.ld n
    let other := fun (t : State) => ∀ m, m < 16 → m ≠ n → s.ld m = t.ld m
    let features := fun (v : Word) => v.toNat % 64
    let offered := fun (t : State) => ∀ i, i < 64 → (t.ld n).accept.getLsbD i =
      (v.getLsbD i && (decide (i < 6) && Config.offer.getLsbD i || decide (i = 63)))
    (d.bound = false → d.quiescing = false → exec (.bindVppb ld base size) s =
      .next (({ s with launches := s.launches.filter (fun l => l.issuer ≠ s.chipNumber ∨ lidLd l.lid ≠ n) } : State).modLd n
        (fun d => { d with bound := true, seq := 1, hdmBase := base, hdmSize := size }))) ∧
    (d.bound = true ∨ d.quiescing = true → exec (.bindVppb ld base size) s = .next s) ∧
    (d.bound = true → Completes (.hostWarmRestart ld) s (fun t => Quiesced s t ld ∧
      (t.ld n).accept = d.accept &&& 0x7FFFFFFFFFFFFFFF#64 ∧ (s.launches = [] → other t))) ∧
    (d.bound = true →
      exec (.dvsecAcceptWrite ld ⟨some 0x0C, v⟩) s = .next (s.send (.host ld (leBytes 8 Config.offer.toNat))) ∧
      exec (.dvsecAcceptWrite ld ⟨some 0x14, v⟩) s = .next (s.send (.host ld (leBytes 8 d.accept.toNat))) ∧
      exec (.dvsecAcceptWrite ld ⟨some 0x1C, v⟩) s =
        .next (s.send (.host ld (leBytes 4 Config.chipModel.toNat ++ leBytes 8 d.queues)))) ∧
    (d.bound = true → Completes (.unbindVppb ld) s (fun t => Quiesced s t ld ∧ (t.ld n).bound = false)) ∧
    (d.bound = false → exec (.unbindVppb ld) s = .next s ∧ exec (.hostWarmRestart ld) s = .next s ∧
      (∀ r, exec (.dvsecAcceptWrite ld ⟨r, v⟩) s = .next s) ∧
      exec (.cxlMemRequest ld true off len data) s = .next s ∧ exec (.cxlMemRequest ld false off len data) s = .next s) ∧
    (d.bound = true → d.accept.getLsbD 63 = false → Completes (.dvsecAcceptWrite ld ⟨none, v⟩) s (fun t =>
      offered t ∧ other t ∧ t = s.modLd n (fun d => { d with accept := (t.ld n).accept }))) ∧
    (d.bound = true → d.accept.getLsbD 63 = true → features (v &&& Config.offer.setWidth 64) ≠ features d.accept →
      exec (.dvsecAcceptWrite ld ⟨none, v⟩) s = .next s) ∧
    (d.bound = true → d.accept.getLsbD 63 = true → features (v &&& Config.offer.setWidth 64) = features d.accept →
      (v.getLsbD 63 = false → Completes (.dvsecAcceptWrite ld ⟨none, v⟩) s (fun t => offered t ∧ Quiesced s t ld)) ∧
      (v.getLsbD 63 = true → Completes (.dvsecAcceptWrite ld ⟨none, v⟩) s (fun t => offered t ∧ t.launches = s.launches))) ∧
    (d.bound = true → d.hdmBase + d.hdmSize ≤ 864 * 2 ^ 30 →
      (off + len ≤ d.hdmSize → data.length = len →
        (∃ uses, exec (.cxlMemRequest ld false off len data) s =
          .next (({ s with cacheUses := uses } : State).send (.host ld ((List.range len).map (fun k =>
            s.readByte .host (d.hdmBase + off + k)))))) ∧
        Completes (.cxlMemRequest ld true off len data) s (fun t => ∀ a, a = .host ∨ a = .device →
          (∀ k, k < len → t.readByte a (d.hdmBase + off + k) = data.getD k 0))) ∧
      (d.hdmSize < off + len → exec (.cxlMemRequest ld true off len data) s = .next s ∧
        exec (.cxlMemRequest ld false off len data) s = .next s))

/-! ## Bring-up (R13, R296, R340, R367-R369, R373, R377-R379) -/

/-- R368: both signatures of an image verify over its SHA-384 digest, under public keys whose hashes stand in the fuses. -/
def Signed (b : BootInput) (i : SignedImage) : Prop :=
  let d := leBytes 48 (sha384 i.bytes).toNat
  let fused := fun (key : List Byte) => ∃ n, n < b.rootKeyHashes.length / 48 ∧
    (b.rootKeyHashes.drop (48 * n)).take 48 = leBytes 48 (sha384 key).toNat
  fused i.edPub ∧ fused i.mlPub ∧ Config.ed25519Verify i.edPub d i.edSig = true ∧ Config.mldsaVerify i.mlPub d i.mlSig = true

/-- R369: the identity record holds the device's keys, its serial and its chip model, and its signatures verify. -/
def Identified (b : BootInput) : Prop :=
  b.identity.bytes = b.device.edKey ++ b.device.mlKey ++ b.device.serial ++ leBytes 4 b.device.model.toNat ∧ Signed b b.identity

/-- R367: a measurement register, extended with measured bytes. -/
def extended (old : BitVec 384) (bytes : List Byte) : BitVec 384 :=
  sha384 (leBytes 48 old.toNat ++ leBytes 48 (sha384 bytes).toNat)

/-- R378: start has stopped, or waits, in a stage with a code. -/
def AtStage (t : State) (stage stop : Nat) : Prop :=
  t.chip.stage.toNat = stage ∧ t.chip.stop.toNat = stop ∧ t.chip.locked = false ∧ t.launches = [] ∧ t.drained = [] ∧
    (∀ c i, (t.strand c i).status = .free)

/-- R378, R367-R369: a cold reset stops in the stage of the first check that fails, with its code, or comes to stage 5. -/
def ColdResetStops : Prop :=
  ∀ (s : State) (b : BootInput), Completes (.coldReset b) s (fun t =>
    let reached := fun (stage stop : Nat) => AtStage t stage stop ∧ (stop ≠ 0 → t.mem = [] ∧ t.security.frozen = false)
    (b.railsOk = false → reached 1 1) ∧
    (b.railsOk = true →
      (¬Signed b b.firmware → reached 2 2) ∧
      (Signed b b.firmware → ¬Identified b → reached 2 3) ∧
      (Signed b b.firmware → Identified b → ¬Signed b b.microcode ∨ ¬Signed b b.portFirmware → reached 2 2) ∧
      (Signed b b.firmware → Identified b → Signed b b.microcode → Signed b b.portFirmware →
        (b.memoryOk = false → reached 3 4) ∧ (b.memoryOk = true → b.bootRecord = none → reached 4 5) ∧
        (∀ r, b.memoryOk = true → b.bootRecord = some r → reached 5 0))))

/-- R13, R340, R367, R369, R373, R378: a cold reset that comes to stage 5 has measured in order and frozen the registers, kept the
identity record, put the executive's key in slot 0, the executive and the boot record in memory, and set the server mask. The
executive's images are those of the boot flash whose FuncDigest a record holds that the handles of records reach from ENTRY. -/
def ColdResetMeasures : Prop :=
  ∀ (s : State) (b : BootInput) (r : List Byte),
    b.railsOk = true → b.memoryOk = true → b.bootRecord = some r → r.length = 256 →
    let mask := (recNat r 0x80 128)
    let bad := r.take 4 ≠ [0x4B, 0x42, 0x4F, 0x54] ∨ mask = 0
    Completes (.coldReset b) s (fun t =>
      Signed b b.firmware → Identified b → Signed b b.microcode → Signed b b.portFirmware →
      t.security.mr.toList = [extended 0 (leBytes 4 0x4B4D0100 ++ leBytes 4 b.romVersion.toNat), extended 0 b.firmware.bytes,
        extended 0 b.rootKeyHashes, extended 0 b.microcode.bytes, extended 0 b.portFirmware.bytes, extended 0 r,
        (t.executiveImages b r).foldl extended 0, extended 0 (leBytes 128 t.chip.serverMask.toNat), 0, 0, 0, 0, 0, 0, 0, 0] ∧
      (let fdir := recNat r 0x18 8
        let nfdir := recNat r 0x20 8
        ∀ image, image ∈ t.executiveImages b r ↔ ∃ path : Nat → Nat, ∃ n, path 0 = (recNat r 8 8 - fdir) / 64 ∧
          (∀ j, j < n → path (j + 1) ∈ t.storedImports fdir nfdir (path j)) ∧
          b.bundles.find? (fun i => funcDigest i (recNat (t.storedRecord fdir (path n)) 32 2) ==
            recDigest (t.storedRecord fdir (path n))) = some image) ∧
      (∀ p k, b.loaded = [p] → k < p.2.length → p.1 + k < 0x0D7FFFFFF00 → t.readByte .device (p.1 + k) = p.2.getD k 0) ∧
      t.security.identity = some b.device ∧ t.security.frozen = true ∧
      t.security.keys = [(0, { key := b.executiveKey, serial := 0, owner := none, vf := 0 })] ∧
      (∀ k, k < 256 → t.readByte .device (0x0D7FFFFFF00 + k) = r.getD k 0) ∧ t.ctlq = recNat r 0x10 8 ∧
      (∀ n, n < 1024 → t.chip.serverMask.getLsbD n =
        (decide (n = 0) || (if bad then decide (n % 128 = 0) else mask.testBit n))))

/-- R13, R296, R340, R377-R379: the tick of a chip in stage 5 locks, at 0 on chip 0 and at the pod's value on another, and the
server cores start: strand 0 of each is LIVE in machine mode at ENTRY with the record's address and the exit handle in ra, and the helpers are FREE; or
start stops with 6, every strand FREE, when ENTRY fails CheckHandle. Before stage 5, and once locked or stopped, nothing changes.
PODCFG takes a write that fits its extents until the tick locks. A throttle and its end change neither the tick nor anything
else. -/
def TickAndThrottle : Prop :=
  ∀ (s : State) (v : Word) (w : BitVec 32),
    let tick := if s.chipNumber = 0 then s.chip.tick else v
    let u := s.serverCores.foldl (fun s c => s.modCore c (fun k => k.bootValues s.chip))
      { s with chip := { s.chip with locked := true, tick := tick } }
    (s.chip.locked = true ∨ s.chip.stage ≠ 5 ∨ s.chip.stop ≠ 0 → exec (.tickLock v) s = .next s) ∧
    (s.chip.locked = false → s.chip.stage = 5 → s.chip.stop = 0 →
      (∀ r gp, u.bootEntryRecord (u.serverCores.headD 0) = some (r, gp) → Completes (.tickLock v) s (fun t =>
        t.chip.locked = true ∧ t.chip.tick = tick ∧ t.chip.stage = 6 ∧ t.chip.stop = 0 ∧
        ∀ c, c < 4096 → s.isServer c = true →
          (t.core c).fdir = s.chip.bootFdir ∧ (t.core c).nfdir = s.chip.bootNfdir ∧ (t.core c).modtab = s.chip.bootModtab ∧
          (t.core c).nmod = s.chip.bootNmod ∧ (t.strand c 0).status = .live ∧ (t.strand c 0).priv = .machine ∧
          (t.strand c 0).readX 10 = 0x0D7FFFFFF00 ∧ (t.strand c 0).readX 3 = gp ∧ (t.strand c 0).readX 1 = exitHandle ∧
          (t.strand c 0).curdir.toNat = recDirIdx r % 2 ^ 24 ∧ (t.strand c 0).pos = .first r ∧
          ∀ i, 0 < i → i < 11 → t.strand c i = s.strand c i)) ∧
      (u.bootEntryRecord (u.serverCores.headD 0) = none → Completes (.tickLock v) s (fun t =>
        t.chip.locked = true ∧ t.chip.stage = 6 ∧ t.chip.stop = 6 ∧ ∀ c i, t.strand c i = s.strand c i))) ∧
    (let fits := w.toNat % 2 ^ 3 ≤ w.toNat / 2 ^ 10 % 2 ^ 3 ∧ w.toNat / 2 ^ 3 % 2 ^ 3 ≤ w.toNat / 2 ^ 13 % 2 ^ 3 ∧
        w.toNat / 2 ^ 6 % 2 ^ 4 ≤ w.toNat / 2 ^ 16 % 2 ^ 4;
      (s.chip.locked = false → fits → exec (.podcfgWrite w) s =
        .next { s with chip := { s.chip with podcfg := BitVec.ofNat 32 (w.toNat % 2 ^ 20) } }) ∧
      (s.chip.locked = true ∨ ¬fits → exec (.podcfgWrite w) s = .next s)) ∧
    exec .throttle s = .next { s with chip := { s.chip with throttled := true } } ∧
    exec .throttleRestore s = .next { s with chip := { s.chip with throttled := false } }

/-- The bring-up of the module: cold reset, measured start, the lock of the tick, the server cores, PODCFG and throttling.
Where it rests on the model's own readings and choices: log entries 95, 96, 97, 98, 99, 122 and 148. -/
def Obligations.BringUp : Prop := ColdResetStops ∧ ColdResetMeasures ∧ TickAndThrottle

/-! ## The security core's responder (R367, R370-R372) -/

/-- R370: an endpoint has answered: one response, and no other endpoint's connection has changed. -/
def Answered (s t : State) (ep : Nat) (rsp : List Byte) : Prop :=
  t.outbox = s.outbox ++ [.spdm ep rsp] ∧ ∀ n, n ≠ ep → t.endpoint n = s.endpoint n

/-- R370-R372: each request at an endpoint that there is: VERSION begins a new connection; CAPABILITIES, ALGORITHMS, DIGESTS and the
portions of the CERTIFICATE join the transcript with their requests; CHALLENGE_AUTH and signed MEASUREMENTS carry both
signatures over the hash of their parts of the transcript, behind the prefix of SPDM 1.3; MEASUREMENTS give the registers asked for as raw
digests of 48 bytes, or their number; any other request is unsupported. A request before its condition is answered with
UnexpectedRequest, and no error joins a transcript. The certificate slots and indexes that there are not are answered as invalid
requests, which is the model's choice.
Where it rests on the model's own readings and choices: log entries 93, 94, 122 and 149. -/
def Obligations.Responder : Prop :=
  ∀ (s : State) (ep : Nat) (req : List Byte),
    let e := s.endpoint ep
    let answers := fun (i : Instr) (f : List Byte → Endpoint → Prop) => Completes i s (fun t => ∃ rsp, Answered s t ep rsp ∧
      f rsp (t.endpoint ep))
    let fails := fun (i : Instr) (code : Byte) => answers i (fun rsp e' => rsp = [0x13, 0x7F, code, 0] ∧ e' = e)
    let opens := fun (rsp : List Byte) (e' : Endpoint) =>
      e'.opening = e.opening ++ req ++ rsp ∧ e'.certificates = e.certificates ∧ e'.measurements = e.measurements
    let joins := fun (rsp : List Byte) (e' : Endpoint) =>
      e' = { e with certificates := e.certificates ++ req ++ rsp, measurements := [] }
    let digest := fun (bytes : List Byte) => leBytes 48 (sha384 bytes).toNat
    let ascii := fun (text : String) => text.toList.map (fun c => BitVec.ofNat 8 c.toNat)
    let prefixed := fun (context : String) => (List.replicate 4 (ascii "dmtf-spdm-v1.3.*")).flatten ++
      List.replicate (36 - (ascii context).length) 0 ++ ascii context
    let signs := fun (context : String) (part rsp head requester : List Byte) =>
      let h := prefixed context ++ digest (e.opening ++ part ++ req ++ head ++ [0xED, 0x0C] ++ requester)
      ∃ ed ml, (ed, ml) = ((s.security.identity.map (fun i => (i.edKey, i.mlKey))).getD ([], [])) ∧
        rsp = head ++ [0xED, 0x0C] ++ sized 3309 (Config.mldsaSign ml h) ++ requester ++ sized 64 (Config.ed25519Sign ed h)
    let requests := [(Instr.getVersion ep req, 0), (.getCapabilities ep req, 1), (.negotiateAlgorithms ep req, 2),
      (.getDigests ep req, 3), (.getCertificate ep req, 3), (.challenge ep req, 3), (.getMeasurements ep req, 3),
      (.spdmUnsupportedRequest ep req, 0)]
    (ep ≠ 16 → (16 ≤ ep ∨ (s.ld ep).bound = false) → ∀ r, r ∈ requests → exec r.1 s = .next s) ∧
    (ep = 16 ∨ ep < 16 ∧ (s.ld ep).bound = true →
      (∀ r, r ∈ requests → e.stage < r.2 → fails r.1 0x04) ∧
      answers (.spdmUnsupportedRequest ep req) (fun rsp e' => rsp = [0x13, 0x7F, 0x07] ++ leBytes 1 (recNat req 1 1) ∧ e' = e) ∧
      answers (.getVersion ep req) (fun rsp e' => rsp = [0x10, 0x04, 0, 0, 0, 1, 0, 0x13] ∧
        e' = { stage := 1, opening := req ++ rsp, certificates := [], measurements := [] }) ∧
      (1 ≤ e.stage → answers (.getCapabilities ep req) (fun rsp e' => opens rsp e' ∧ e'.stage = max e.stage 2 ∧
        rsp.take 4 = [0x13, 0x61, 0, 0] ∧ recNat rsp 8 4 = 0x16 ∧ rsp.length = 20)) ∧
      (2 ≤ e.stage → answers (.negotiateAlgorithms ep req) (fun rsp e' => opens rsp e' ∧ e'.stage = 3 ∧
        rsp.take 4 = [0x13, 0x63, 0, 0] ∧ recNat rsp 4 2 = 36 ∧ recNat rsp 8 4 = 4 ∧ recNat rsp 12 4 = 0x400 ∧
        recNat rsp 16 4 = 2 ∧ rsp.length = 36)) ∧
      (3 ≤ e.stage →
        answers (.getDigests ep req) (fun rsp e' => joins rsp e' ∧ rsp = [0x13, 0x01, 1, 1] ++ digest s.security.chain) ∧
        (let off := recNat req 4 2
          let len := recNat req 6 2
          let portion := (s.security.chain.drop off).take len;
          (recNat req 2 1 % 16 = 0 → off < s.security.chain.length → s.security.chain.length < 2 ^ 16 →
            answers (.getCertificate ep req) (fun rsp e' => joins rsp e' ∧ rsp = [0x13, 0x02, 0, 0] ++
              leBytes 2 portion.length ++ leBytes 2 (s.security.chain.length - off - portion.length) ++ portion)) ∧
          (recNat req 2 1 % 16 ≠ 0 ∨ s.security.chain.length ≤ off → fails (.getCertificate ep req) 0x01)) ∧
        (recNat req 2 1 % 16 = 0 → answers (.challenge ep req) (fun rsp e' =>
          e' = { e with certificates := [], measurements := [] } ∧ ∃ nonce : List Byte, nonce.length = 32 ∧
          signs "responder-challenge_auth signing" e.certificates rsp ([0x13, 0x03, 0, 1] ++ digest s.security.chain ++ nonce ++ (if recNat req 3 1 = 0 then []
            else digest (s.security.mr.toList.flatMap (fun m => leBytes 48 m.toNat)))) ((req.drop 36).take 8))) ∧
        (recNat req 2 1 % 16 ≠ 0 → fails (.challenge ep req) 0x01) ∧
        (let index := recNat req 3 1
          let asked := if index = 0 then [] else if index = 0xFF then List.range 16 else [index - 1]
          let block := fun (kind : Byte) (n : Nat) => leBytes 1 (n + 1) ++ [1, 51, 0, kind &&& 0x7F, 48, 0] ++
            leBytes 48 (s.security.mr[n]?.getD 0).toNat
          let head := fun (kind : Byte) (nonce : List Byte) => [0x13, 0x60, (if index = 0 then 16 else 0), 0] ++
            leBytes 1 asked.length ++ leBytes 3 (55 * asked.length) ++ asked.flatMap (block kind) ++ nonce;
          (index ≤ 16 ∨ index = 0xFF →
            (recNat req 2 1 % 2 = 1 → answers (.getMeasurements ep req) (fun rsp e' =>
              e' = { e with certificates := [], measurements := [] } ∧ ∃ kind nonce, nonce.length = 32 ∧
              signs "responder-measurements signing" e.measurements rsp (head kind nonce) ((req.drop 37).take 8))) ∧
            (recNat req 2 1 % 2 = 0 → answers (.getMeasurements ep req) (fun rsp e' =>
              e' = { e with certificates := [], measurements := e.measurements ++ req ++ rsp } ∧ ∃ kind nonce, nonce.length = 32 ∧
              rsp = head kind nonce ++ [0, 0] ++ (req.drop 4).take 8))) ∧
          (16 < index → index ≠ 0xFF → fails (.getMeasurements ep req) 0x01))))

/-! ## Fetching code (R58, R92-R102, R140, R141) -/

/-- R93: what a source shows a fetch of a cluster: copies of the shelves of this die, or of the other dies; what the module store
holds; or what a peer or the host has sent. -/
def Shown (s : State) (l : Nat) (f : Fetch) (source : Nat) (offers : List Offer) : List Candidate :=
  if source = 1 then s.shelfForms l f true
  else if source = 2 then s.shelfForms l f false
  else if source = 3 then (s.storeOffers f.digest Config.chipModel).map .offered
  else offers.map .offered

/-- R93: the source that a fetch asks after one has shown nothing that it takes: 2 and 3 after 1 and 2, then the first peer of
the trust entry after the last one asked that a link reaches, then the host. -/
def NextSource (s : State) (f : Fetch) (g : Fetch) : Prop :=
  let first := if f.next = 3 then 0 else f.peer + 1
  let reached := fun (j : Nat) => first ≤ j ∧ j < f.peers.length ∧ s.linkRefused (f.peers.getD j 0) = false
  if f.next < 3 then g = { f with next := f.next + 1 }
  else (∃ j, reached j ∧ (∀ k, k < j → ¬reached k) ∧ g = { f with next := 4, peer := j }) ∨
    ((∀ j, ¬reached j) ∧ g = { f with next := 5 })

/-- R93, R297: from `u`, a fetch has asked its next source, holding a portable form or none; to a peer a code request leaves. -/
def Asked (u t : State) (l : Nat) (f : Fetch) (held : Option Form) : Prop :=
  ∃ g, NextSource u { f with held := held } g ∧ (t.cluster l).fetch f.digest f.vf = some g ∧
    (g.next ≠ 4 → t.waiting = u.waiting) ∧
    (g.next = 4 → let chip := f.peers.getD g.peer 0
      Leaves u t 24 chip (.codeRequest chip f.digest Config.chipModel) u.codeFlits)

/-- No strand of the cluster waits on a fetch of the digest. -/
def NoneWaits (s : State) (l : Nat) (d : Digest) (except : Nat → Nat → Prop) : Prop :=
  ∀ c i, clusterOf c = l → i < 11 → ¬except c i →
    (∀ m, (s.strand c i).pos = .miss m → m.digest ≠ d) ∧ (∀ rd, (s.strand c i).park ≠ some (.fetch d rd))

/-- Two clusters have the same directory, but for HOLD. -/
def SameDirectory (k k' : Cluster) : Prop :=
  k.dir.map (fun e => (e.1, { e.2 with hold := false })) = k'.dir.map (fun e => (e.1, { e.2 with hold := false }))

/-- R93: HOLD of an entry of the pair says whether a fetch of another cluster asks the source among which the entry is. -/
def HoldsStand (t : State) (digest : Digest) (vf : BitVec 6) : Prop :=
  ∀ l k e d, (l, k) ∈ t.clusters → (e, d) ∈ k.dir → d.digest = digest → d.vf = vf →
    (d.hold = true ↔ ∃ l' k', (l', k') ∈ t.clusters ∧ l' ≠ l ∧ ∃ f, f ∈ k'.fetches ∧ f.digest = digest ∧ f.vf = vf ∧
      f.install = none ∧ f.next = (if l / 32 = l' / 32 then 1 else 2))

/-- R93-R98, R101, R133, R141: a source's answer, from `u`, the state in which a peer's message has been counted. One that the fetch
has not asked, or while the fetch waits for room, changes nothing. A source that shows nothing sends the fetch on, or ends it after
the host: it is dropped, and a strand that waited takes a code-fetch fault. A form that fails a check counts its reason, and the
fetch goes on; it goes on too after a form that it does not take, and a fetch that takes only portable forms checks no native one. A
native form that passes, for a fetch that takes it, is installed at once; a portable one is held, and is installed when the fetch
takes no native form or no source before the host is left. A strand that waited on the installed form for an entry goes on at its
offset 0, and a cpin that waited pins it and completes. HOLD follows the copies under way. -/
def SourceAnswers : Prop :=
  ∀ (s : State) (l : Nat) (f : Fetch) (source : Nat) (offers : List Offer) (k : Candidate),
    let i := Instr.sourceAnswer l f.digest f.vf source offers
    let u := if source = 4 then s.codeArrives else s
    let skips := k.native = true ∧ f.portOnly = true
    let asksOn := source < 3 ∨ source < 5 ∧ ∃ j, (if source = 3 then 0 else f.peer + 1) ≤ j ∧ j < f.peers.length ∧
      s.linkRefused (f.peers.getD j 0) = false
    ((s.cluster l).fetch f.digest f.vf = none → exec i s = .next s) ∧
    ((s.cluster l).fetch f.digest f.vf = some f → f.next ≠ source ∨ f.install ≠ none → exec i s = .next s) ∧
    ((s.cluster l).fetch f.digest f.vf = some f → f.next = source → f.install = none → f.held = none → 1 ≤ source → source ≤ 5 →
      clusterOf f.core = l →
      Completes i s (fun t => HoldsStand t f.digest f.vf) ∧
      (Shown s l f source offers = [] → source ≠ 5 → Completes i s (fun t => Asked u t l f none)) ∧
      (Shown s l f source offers = [] → source = 5 → NoneWaits s l f.digest (fun _ _ => False) → Completes i s (fun t =>
        (∀ g, (g ∈ (t.cluster l).fetches ↔ g ∈ (s.cluster l).fetches ∧ ¬(g.digest = f.digest ∧ g.vf = f.vf))) ∧
        SameDirectory (t.cluster l) (s.cluster l))) ∧
      (∀ c n m, Shown s l f source offers = [] → source = 5 → clusterOf c = l → n < 11 → (s.strand c n).pos = .miss m →
        m.digest = f.digest → m.resume.accept = f.accept → (s.core c).vfNow = f.vf →
        NoneWaits s l f.digest (fun a b => a = c ∧ b = n) → Completes i s (fun t =>
          t.core c = ((s.modCluster l (fun k => k.dropFetch f)).missFault c n m causeCodeFetch (digestTval f.digest)).core c)) ∧
      (∀ r, Shown s l f source offers = [k] → ¬skips → u.verify f source k = .error r → r < 8 →
        source ≠ 5 → Completes i s (fun t => ∃ v, (s.cluster l).rejections[r]? = some v ∧
          (t.cluster l).rejections[r]? = some (if v = BitVec.allOnes 32 then v else v + 1) ∧
          ∃ g, NextSource s f g ∧ (t.cluster l).fetch f.digest f.vf = some g)) ∧
      (Shown s l f source offers = [k] → skips ∨ (∃ g, u.verify f source k = .ok g ∧ f.takes g = false) → source ≠ 5 →
        Completes i s (fun t => Asked u t l f none)) ∧
      (∀ g, Shown s l f source offers = [k] → k.native = false → u.verify f source k = .ok g → f.takes g = true →
        f.portOnly = false → asksOn → Completes i s (fun t => Asked u t l f (some g))) ∧
      (∀ g v, Shown s l f source offers = [k] → u.verify f source k = .ok g → f.takes g = true →
        (k.native = true ∧ f.portOnly = false ∨ k.native = false ∧ (f.portOnly = true ∨ ¬asksOn)) →
        u.installForm l f.digest f.vf g = .done v →
        (NoneWaits s l f.digest (fun _ _ => False) → Completes i s (fun t => SameDirectory (t.cluster l) v ∧
          (t.cluster l).pages = v.pages ∧ (t.cluster l).fetch f.digest f.vf = none)) ∧
        (∀ c n e d, clusterOf c = l → n < 11 → (s.core c).vfNow = f.vf →
          NoneWaits s l f.digest (fun a b => a = c ∧ b = n) → v.lookup f.digest f.vf = some (e, d) →
          (∀ m, (s.strand c n).pos = .miss m → m.digest = f.digest → m.resume = .entry →
            Completes i s (fun t => (t.strand c n).pos = .inForm e ∧ (t.strand c n).fpc = 0)) ∧
          (∀ rd a, (s.strand c n).pos = .inForm a → (s.strand c n).park = some (.fetch f.digest (some rd)) →
            Completes i s (fun t => (t.strand c n).park = none ∧ (t.strand c n).fpc = (s.strand c n).fpc + 4 ∧
              (rd ≠ 0 → (t.strand c n).readX rd = (v.pin e d).2) ∧
              ((v.pin e d).2 = 0 → ∃ d', (t.cluster l).entry e = some d' ∧ d'.pinned = true))))))

/-- R89, R91, R101, R102: with no resident form of the pair, a free entry within cdlim and enough free pages, the form takes the
lowest free entry, and its pages are those of its length. A fetch that waits for room installs its form once there is room, and
else goes on waiting. R102: once in each period of 2^30 cycles, the LAST of an entry whose age has passed 2^31 is raised to that age, and no other. -/
def Installs : Prop :=
  ∀ (s : State) (l : Nat) (digest : Digest) (vf : BitVec 6) (g : Form) (f : Fetch),
    let k := s.cluster l
    (k.lookup digest vf = none → k.dir.length < k.cdlim.toNat → pagesOf g.code.length ≤ k.freePages.length → ∀ e, e < 64 →
      k.entry e = none → (∀ j, j < e → k.entry j ≠ none) →
      ∃ u d, s.installForm l digest vf g = .done u ∧ u.lookup digest vf = some (e, d) ∧ d.code = g.code ∧ d.kind = g.kind ∧
        d.content = g.content ∧ d.nwp = g.nwp ∧ d.wptab = g.wptab ∧ d.pinned = false ∧ d.hold = false ∧ d.isOver = false ∧
        (∀ j, j ≠ e → u.entry j = k.entry j)) ∧
    (k.fetches = [f] → f.install = some g → NoneWaits s l f.digest (fun _ _ => False) →
      (s.installForm l f.digest f.vf g = .waits → exec (.fetchRetry l) s = .next s) ∧
      (∀ u, s.installForm l f.digest f.vf g = .done u → Completes (.fetchRetry l) s (fun t =>
        (t.cluster l).fetches = [] ∧ (t.cluster l).dir = u.dir))) ∧
    (s.clusterCycle l / 2 ^ 30 < k.aged → exec (.lastAging l) s = .next s) ∧
    (∀ e d, k.entry e = some d → k.aged ≤ s.clusterCycle l / 2 ^ 30 → Completes (.lastAging l) s (fun t => ∃ d', (t.cluster l).entry e = some d' ∧
      (2 ^ 31 < d.age (s.clusterCycle l) → d'.last = BitVec.ofNat 32 (s.clusterCycle l) - 0x80000000#32) ∧
      (d.age (s.clusterCycle l) ≤ 2 ^ 31 → d' = d)))

/-- R95-R98: the checks of a translation, in order, each with its reason; and of a portable bundle image. -/
def Checks : Prop :=
  ∀ (s : State) (f : Fetch) (src : Nat) (object : List Byte) (len m : Nat),
    let b := object.take len
    let code := (b.drop (xlatCode (recNat b 6 2))).take (recNat b 0xC 4)
    let key := s.translatorKey f.entry (BitVec.ofNat 256 (recNat b 0x30 32))
    let verdict := s.verifyNative f src object len
    (xlatForm b len f.digest = false → verdict = .error 1) ∧
    (xlatForm b len f.digest = true →
      (recNat b 8 4 ≠ 0x4B4D0100 → verdict = .error 2) ∧
      (recNat b 8 4 = 0x4B4D0100 →
        (f.executive = true → verdict = .error 3) ∧
        (f.executive = false → verdict = (match key with
          | none => .error 3
          | some (ed, ml) =>
            if Config.ed25519Verify ed (xlatMessage b) ((b.drop 0x70).take 64) = false then .error 4
            else if Config.mldsaVerify ml (xlatMessage b) ((b.drop 0xB0).take 3309) = false then .error 5
            else if sha3 code ≠ BitVec.ofNat 256 (recNat b 0x50 32) then .error 6
            else .ok { kind := .native, content := sha3 code, nwp := recNat b 6 2, wptab := xlatTable b, code := code,
                       src := src, keyId := BitVec.ofNat 256 (recNat b 0x30 32) })))) ∧
    (let n := recNat object 4 2
      let portable := verifyPortable f.digest src object m
      (object.take 4 ≠ [0x54, 0x52, 0x4B, 0x42] ∨ n = 0 ∨ n ≤ m ∨ (∀ cs, memberCodes n n (object.drop 6) ≠ some (cs, [])) →
        portable = .error 1) ∧
      (∀ cs, object.take 4 = [0x54, 0x52, 0x4B, 0x42] → m < n → memberCodes n n (object.drop 6) = some (cs, []) →
        (funcDigest object m ≠ f.digest → portable = .error 7) ∧
        (funcDigest object m = f.digest → ∃ g, portable = .ok g ∧ g.kind = .portable ∧ g.content = f.digest ∧
          g.code = cs.getD m [] ∧ g.nwp = (callSites g.code).length)))

/-- R99, R141, R297: a pod peer is sent every object that the slots of the digest hold, translations for its model first; the slots are
probed from the one that the digest's first bytes name, up to the first empty one. -/
def CodeRequests : Prop :=
  ∀ (s : State) (chip : Nat) (d : Digest) (model : BitVec 32),
    let start := d.toNat % 2 ^ 32
    let slot := fun (n : Nat) => s.storeSlot ((start + n) % s.nslot)
    let object := fun (x : StoreSlot) => s.readBytes .device x.addr x.len
    Completes (.codeRequest chip d model) s (fun t => ∃ u, u = s.codeArrives ∧
      Leaves u t 24 chip (.code chip d (s.storeOffers d model)) u.codeFlits ∧ MemoryKept u t) ∧
    (s.nslot = 0 → s.storeOffers d model = []) ∧
    (0 < s.nslot → (slot 0).kind = 0xFF → s.storeOffers d model = []) ∧
    (2 < s.nslot → (slot 0).digest = d → (slot 1).digest = d → (slot 2).kind = 0xFF →
      ((slot 0).kind = 0 → (slot 1).kind = 1 → s.storeOffers d model =
        [.translation (object (slot 1)) (slot 1).len, .portable (object (slot 0)) (slot 0).member]) ∧
      ((slot 0).kind = 1 → (slot 1).kind = 1 → (slot 0).model ≠ model.toNat → (slot 1).model = model.toNat → s.storeOffers d model =
        [.translation (object (slot 1)) (slot 1).len, .translation (object (slot 0)) (slot 0).len]))

/-- Fetching code: the walk over the sources, installing and ageing, the checks of what is offered, and what peers are sent.
Where it rests on the model's own readings and choices: log entries 12, 76, 78, 79, 80, 131, 132, 133, 140 and 141. -/
def Obligations.CodeFetch : Prop := SourceAnswers ∧ Installs ∧ Checks ∧ CodeRequests

/-! ## Scheduled routes, key routes (R255, R256, R280, R302-R304) -/

/-- R302: the launch's route with a number. -/
def routeAt (t : State) (key : LaunchKey) (route : Nat) : Option Route :=
  t.routes.find? (fun q => q.launch == key && q.route == route)

/-- R297: a scheduled message of a route's firing, on a port. -/
def routeOut (s : State) (r : Route) (port kind : Nat) (payload : List Byte) : Out :=
  .scheduled port (leBytes 1 kind ++ leBytes 1 ((32 + payload.length + 63) / 64 - 1 + 64) ++
    leBytes 2 (s.chipNumber + 1024 * lidLd r.launch.lid) ++ leBytes 2 r.route ++ leBytes 2 payload.length ++ leBytes 8 r.firing ++
    leBytes 16 0 ++ (payload ++ List.replicate (64 * ((32 + payload.length + 63) / 64) - 32 - payload.length) 0))

/-- R19, R302: scheduled messages leave on those of the ports whose links are up. -/
def routeOuts (s : State) (r : Route) (ports : List Nat) (kind : Nat) (payload : List Byte) : List Out :=
  (ports.filter (fun p => !s.linkDown p)).map (fun p => routeOut s r p kind payload)

/-- R19, R280, R302: nothing comes in at a port whose link is down. A message of a port that the route takes inputs from is kept for its firing, once, unless the firing is over, and
an armed route becomes READY at this tick when it has all its inputs, and reads its local source; a release reaches a waiting
barrier, and goes on to the ports from which its arrivals came, whether or not members wait here. Any other message is dropped. -/
def RouteInputs : Prop :=
  ∀ (s : State) (r : Route) (port firing : Nat) (payload : List Byte), routeAt s r.launch r.route = some r →
    let i := Instr.routeMessage r.launch r.route port firing payload
    let kept := { r with inputs := r.inputs ++ [(port, firing, payload)] }
    let all := firing = r.firing ∧ ∀ p, p ∈ r.inports → p = port ∨ ∃ b, (p, firing, b) ∈ r.inputs
    let u := s.countFabric 0x61 (flitsOf payload.length)
    let reads := (r.records.find? (fun x => (rrInmask x).testBit 24)).map (fun x =>
      (List.range (rrLen x)).map (fun n => u.readByte .device (rrBuf x + n)))
    (s.linkDown port = true → Completes i s (fun t => t.routes = s.routes ∧ t.outbox = s.outbox)) ∧
    (s.linkDown port = false →
    (port ∈ r.inports → firing < r.firing ∨ (∃ p, (port, firing, p) ∈ r.inputs) → Completes i s (fun t =>
      t.routes = s.routes ∧ t.outbox = s.outbox)) ∧
    (port ∈ r.inports → r.firing ≤ firing → (∀ p, (port, firing, p) ∉ r.inputs) →
      (r.state = .ready ∨ r.state = .armed ∧ (∃ p, p ∈ r.inports ∧ p ≠ port ∧ ∀ b, (p, r.firing, b) ∉ r.inputs) ∨
        r.state = .idle ∧ reads ≠ none → Completes i s (fun t => routeAt t r.launch r.route = some kept)) ∧
      (r.state = .armed ∨ r.state = .idle ∧ reads = none → r.isBar = false → all → Completes i s (fun t =>
        routeAt t r.launch r.route = some { kept with state := .ready, readyTick := s.chip.tick, source := reads }))) ∧
    (port ∉ r.inports → r.isBar = true → Completes i s (fun t =>
      routeAt t r.launch r.route = some (if r.waiting then { r with release := some (recWord payload 0) } else r) ∧
      t.outbox = s.outbox ++ routeOuts s r r.inports 10 (leBytes 8 (recWord payload 0).toNat))) ∧
    (port ∉ r.inports → r.isBar = false → Completes i s (fun t => t.routes = s.routes ∧ t.outbox = s.outbox)))

/-- R302: record `k` of a route's firing has acted: the route goes on, or, with every record acted, takes up its next firing. -/
def RecordActed (t : State) (r : Route) (k : Nat) : Prop :=
  let next := { r with state := .idle, firing := r.firing + 1, acted := [], source := none,
                       inputs := r.inputs.filter (fun x => x.2.1 ≠ r.firing) }
  ((∃ j, j < r.records.length ∧ j ≠ k ∧ j ∉ r.acted) → routeAt t r.launch r.route = some { r with acted := r.acted ++ [k] }) ∧
    ((∀ j, j < r.records.length → j = k ∨ j ∈ r.acted) → r.isBar = false → r.hasSource = true →
      (r.triggers = 0 → routeAt t r.launch r.route = some next) ∧
      (0 < r.triggers → (∃ p, p ∈ r.inports ∧ ∀ x, x ∈ r.inputs → x.1 ≠ p) →
        routeAt t r.launch r.route = some { next with state := .armed, triggers := r.triggers - 1 }))

/-- R280, R302: a record acts once for a firing, at the first tick at or after its route became READY whose low byte is its slot: it
sends the result on its port, or writes it at BUF; at a barrier's root the release tick is the ready tick and the bound, the arrivals
are kept, and the tick goes to the ports from which they came. Nothing leaves on a port whose link is down. -/
def RouteRecords : Prop :=
  ∀ (s : State) (r : Route) (k index : Nat) (x : List Byte), s.recordAt r.launch index = some (r, k, x) →
    routeAt s r.launch r.route = some r → k < r.records.length →
    let i := Instr.routeRecordTick r.launch index
    let due := ∃ d, d < 256 ∧ (r.readyTick.toNat + d) % 256 = rrSlot x ∧ s.chip.tick = r.readyTick + BitVec.ofNat 64 d
    let rank := s.rankOf r
    let out := r.result rank (rrOp x) (rrLen x)
    (¬due ∨ r.state ≠ .ready ∨ k ∈ r.acted → exec i s = .next s) ∧
    (due → r.state = .ready → k ∉ r.acted →
      (rrOutport x ≠ 0xFF → Completes i s (fun t => RecordActed t r k ∧ (NoTrace s → t.mem = s.mem) ∧
        t.outbox = s.outbox ++ routeOuts s r [rrOutport x] (if r.isBar then 10 else 9) out)) ∧
      (rrOutport x = 0xFF → r.isBar = false → rrObj x = 0 → Completes i s (fun t => RecordActed t r k ∧ t.outbox = s.outbox ∧
        ∀ n, n < rrLen x → t.readByte .device (rrBuf x + n) = out.getD n 0)) ∧
      (rrOutport x = 0xFF → r.isBar = true → Completes i s (fun t =>
        let T := r.readyTick + BitVec.ofNat 64 (rrBound x)
        t.outbox = s.outbox ++ routeOuts s r r.inports 10 (leBytes 8 T.toNat) ∧
        ((∃ j, j < r.records.length ∧ j ≠ k ∧ j ∉ r.acted) → routeAt t r.launch r.route = some { r with
          acted := r.acted ++ [k], release := some T, source := some (r.result rank 5 32) }))))

/-- R282, R303, R304: the result of a firing: the contributions in ascending port order, the local source last, folded from the left; and
what each operator makes of two payloads: sums, maxima, RSC with its special cases, and the arrival record of both groups. -/
def Junctions : Prop :=
  ∀ (rank : Nat → Nat) (r : Route) (op n : Nat) (c d : List Byte) (cs : List (List Byte)), c.length = n → d.length = n → (∀ e, e ∈ cs → e.length = n) →
    let junction := junction rank
    (r.contributions = [] → r.result rank op n = List.replicate n 0) ∧ (r.contributions = [c] → r.result rank op n = c) ∧
    (r.contributions = c :: (cs ++ [d]) → op ≤ 5 → (op = 4 → 20 ≤ n) → (op = 5 → n = 32) → n % 4 = 0 →
      ∀ q : Route, q.contributions = c :: cs → r.result rank op n = junction op n (q.result rank op n) d) ∧
    (n = 32 →
      let early := min (recNat c 0 8) (recNat d 0 8)
      let lag := fun (b : List Byte) => recNat b 0x10 8 + recNat b 0x1C 4 * (recNat b 0 8 - early)
      let later := recNat c 8 8 < recNat d 8 8 ∨ recNat c 8 8 = recNat d 8 8 ∧ (rank (recNat c 0x1A 2) < rank (recNat d 0x1A 2) ∨
        rank (recNat c 0x1A 2) = rank (recNat d 0x1A 2) ∧ recNat c 0x18 2 < recNat d 0x18 2)
      let record := junction 5 n c d;
      recNat record 0 8 = early ∧ recNat record 8 8 = max (recNat c 8 8) (recNat d 8 8) ∧
      recNat record 0x10 8 = (lag c + lag d) % 2 ^ 64 ∧
      recNat record 0x1C 4 = (recNat c 0x1C 4 + recNat d 0x1C 4) % 2 ^ 32 ∧
      (later → recNat record 0x18 4 = recNat d 0x18 4) ∧ (¬later → recNat record 0x18 4 = recNat c 0x18 4)) ∧
    (n % 4 = 0 → ∀ i, i < n / 4 → let lane := fun (b : List Byte) => recNat b (4 * i) 4
      lane (junction 1 n c d) = addF32 (lane c) (lane d) % 2 ^ 32 ∧ lane (junction 2 n c d) = maxF32 (lane c) (lane d) % 2 ^ 32 ∧
      lane (junction 3 n c d) = (lane c + lane d) % 2 ^ 32) ∧
    (n % 4 = 0 → 20 ≤ n → ∀ i, i < n / 4 → let lane := fun (b : List Byte) => recNat b (4 * i) 4
      (fmtF32.decode (recNat c 0 4) = .nan ∨ fmtF32.decode (recNat d 0 4) = .nan → i < 2 ∨ 4 ≤ i →
        lane (junction 4 n c d) = fmtF32.nanWord) ∧
      (recNat c 0 4 = 0xFF800000 → recNat d 0 4 = 0xFF800000 → lane (junction 4 n c d) = (if i = 0 then 0xFF800000 else 0)))

/-- Scheduled routes: what arrives, when a record acts, and what the junctions make.
Where it rests on the model's own readings and choices: log entries 57, 58, 59, 60, 61 and 136. -/
def Obligations.ScheduledRoutes : Prop := RouteInputs ∧ RouteRecords ∧ Junctions

/-- R256: a record of a key route arrives at its bench: with no bin word its rd gets 2; at a full bin 1; else it is stored in the
next place of its bin, whose fill rises, and rd gets 0. A record that is not on its way changes nothing. -/
def KeyArrivals : Prop :=
  ∀ (s : State) (k : KeySend) (p : Pending), k.strand < 11 →
    let i := Instr.ksendArrival k.core k.strand k.bench
    let h := s.bench k.bench
    let b := k.key.toNat / 2 ^ binShift h.bin % 2 ^ binLogbin h.bin
    let fill := mapGet 0 h.fills b
    let off := 256 * binBase h.bin + 16 * (b * binCap h.bin + fill)
    let loc := 2 ^ 44 + (16 * (k.bench / 4) + off / 2 ^ 18) * 2 ^ 18 + off % 2 ^ 18
    let reports := fun (v : Word) (t : State) => t.sends = s.sends.erase k ∧ (t.strand k.core k.strand).pending = [] ∧
      (t.strand k.core k.strand).readX k.rd = (if k.rd = 0 then 0 else v)
    ((∀ q, q ∈ s.sends → ¬(q.core = k.core ∧ q.strand = k.strand ∧ q.bench = k.bench)) → exec i s = .next s) ∧
    (s.sends.find? (fun q => q.core == k.core && q.strand == k.strand && q.bench == k.bench) = some k →
      (s.strand k.core k.strand).pending = [p] → p.queued = true → p.dst = .x k.rd →
      (h.bin = 0 → Completes i s (reports 2)) ∧ (h.bin ≠ 0 → fill = binCap h.bin → Completes i s (reports 1)) ∧
      (h.bin ≠ 0 → fill ≠ binCap h.bin → Completes i s (fun t => reports 0 t ∧
        mapGet 0 (t.bench k.bench).fills b = fill + 1 ∧
        (∀ c, c ≠ b → mapGet 0 (t.bench k.bench).fills c = mapGet 0 h.fills c) ∧
        t.readNat (.die (dieOf k.core)) loc 8 = k.key.toNat ∧ t.readNat (.die (dieOf k.core)) (loc + 8) 8 = k.value.toNat)))

/-- R255, R256: key routes: the words of bins and routes, sending, and arriving. -/
def Obligations.KeyRoutes : Prop := KeyBins ∧ KeySends ∧ KeyArrivals

/-! ## Steps, decoding, reset, and what every step keeps -/

/-- R23, R25, R28, R104-R106, R229: when the core `here` has a cycle, the first strand of its order that may issue, with no
interrupt to take and no wait, executes the instruction that its bytes decode to: the step is that instruction's own effect, with
the strand noted as the last to issue, its windows counted and the retired event counted, after which the core cycle passes and the
caches serve its accesses; or the fault or the refusal that it ends in. Code that ends within an instruction takes the step of the
end of the form, and bytes that are no instruction that of an illegal word. Unless it is illegal, an instruction that depends on an
outstanding result stalls the core, which considers its strand first in the next cycle, and a long-latency one waits while the
strand holds eight results; poisoned code, and a poisoned v register that the instruction reads, are memory errors.
Where it rests on the model's own readings and choices: log entries 1, 67, 108, 110 and 145. -/
def Obligations.StepRunsDecoded : Prop :=
  ∀ (s : State) (i e : Nat) (before after : List Nat), s.moves = [] → s.here < 4096 → s.chip.stop = 0 →
    let c := s.here
    let u := s.settleQueue c
    let v := { u with here := c, cur := i }
    let code := v.bytesAt c i
    (s.core c).debugStopped = false → (s.core c).stopping = false →
    (s.core c).stall.toList ++ (List.range 11).map (fun n => ((s.core c).last + 1 + n) % 11) = before ++ i :: after →
    (∀ m, m ∈ before → (u.strand c m).mayIssue = false) → (u.strand c i).status = .live → (u.strand c i).onHold = false →
    (∀ p, p ∈ (u.strand c i).pending → p.window ≠ 0) → (u.strand c i).pos = .inForm e → (u.strand c i).park = none →
    v.interruptFor c i = none →
    let passes := fun (t : State) (written : Option Nat) => (Host.Outcome.next
      (((t.coreCycle written c).endAging c).serveCaches.writeReleases) : Host.Outcome State Fault Refusal)
    let goesOn := fun (t : State) => t.modCore c (fun k => { k with stall := none })
    let closes := fun (t : State) (j : Instr) => passes (goesOn (v.closeIssue t c i j)) (counterWritten j)
    let reads := fun (j : Instr) => (∃ len, decode code = .ok (j, len)) ∨ decode code = .error .tooShort ∧ j = .formEndReached ∨
      ∃ x, decode code = .error x ∧ x ≠ .tooShort ∧ j = .illegalWord (v.currentWord.setWidth 32)
    (∀ j, reads j → v.codePoisoned c i = false →
      let illegal := v.foundIllegal (exec j v) = true
      let many := v.tooMany c i j = true
      let stalls := v.mustStall c i j = true
      (illegal ∨ ¬many ∧ ¬stalls →
        (∀ t, exec j v = .next t → (illegal ∨ v.linePoison c i j = none → step s = closes t j) ∧
          (∀ va, ¬illegal → v.linePoison c i j = some va → step s = passes (goesOn (v.takeTrap c i causeMemory va)) none)) ∧
        (∀ f, exec j v = .fault f → step s = .fault f) ∧ (∀ r, exec j v = .refused r → step s = .refused r)) ∧
      (¬illegal → ¬many → stalls →
        step s = passes ((u.modCore c (fun k => { k with stall := some i })).countEvent c evStall 1) none) ∧
      (¬illegal → many → step s = passes (goesOn (v.modStrand c i (fun t => { t with park := some .results }))) none)) ∧
    (v.codePoisoned c i = true →
      step s = passes (goesOn (v.takeTrap c i causeMemory ((v.strand c i).fpc.setWidth 64))) none) ∧
    (∀ t j, i < 11 → (t.strand c i).pending = [] →
      let z := v.closeIssue t c i j
      z.strand c i = t.strand c i ∧ z.chip = t.chip ∧ (NoTrace t → z.mem = t.mem ∧ z.drained = t.drained) ∧
      (z.core c).last = (if (t.strand c i).park.all Park.issued then i else (t.core c).last))

/-- R23: a parcel whose low two bits are not both 1 is an instruction of its own, of 2 bytes, or illegal, and 0 is illegal; one whose
low two bits are both 1, with bits 4 to 2 not all 1, is the first half of a word of 4 bytes, whose bits 31 to 16 the next parcel
holds; one whose low five bits are all 1 is illegal. The step of what is illegal takes the illegal-instruction fault. -/
def Obligations.ParcelLengths : Prop :=
  ∀ (a b c d : Byte) (rest : List Byte) (s : State),
    (a.toNat % 4 ≠ 3 → ∀ i n, decode (a :: b :: rest) = .ok (i, n) → n = 2 ∧ decode [a, b] = .ok (i, 2)) ∧
    decode (0 :: 0 :: rest) = .error .zeroParcel ∧
    (a.toNat % 4 = 3 → a.toNat % 32 ≠ 31 →
      (∀ i n, decode (a :: b :: c :: d :: rest) = .ok (i, n) →
        n = 4 ∧ decode [a, b, c, d] = .ok (i, 4)) ∧
      decode [a, b] = .error .tooShort) ∧
    (a.toNat % 32 = 31 → decode (a :: b :: rest) = .error .reservedLength) ∧
    ∀ w, exec (.illegalWord w) s = .next ((s.modMe (fun t => { t with pp := false })).takeTrap s.here s.cur causeIllegal
      s.currentWord)

/-- R29: whatever its fields hold, fence does what fence.s does at scope 4; every other MISC-MEM word is illegal. -/
def Obligations.StandardFence : Prop :=
  (∀ (s : State) (rd rs1 : BitVec 5) (fm pred succ : BitVec 4), exec (.fence rd rs1 fm pred succ) s = exec (.fenceS 4) s) ∧
  (∀ (hi : BitVec 17) (f3 : BitVec 3) (rd : BitVec 5), let w : BitVec 32 := hi ++ f3 ++ rd ++ 0x0F#7
    (f3 = 0 → ∃ i n, decode [w.extractLsb' 0 8, w.extractLsb' 8 8, w.extractLsb' 16 8, w.extractLsb' 24 8] = .ok (i, n) ∧
      ∀ s, exec i s = exec (.fenceS 4) s) ∧
    (f3 ≠ 0 → ∃ e, decode [w.extractLsb' 0 8, w.extractLsb' 8 8, w.extractLsb' 16 8, w.extractLsb' 24 8] = .error e ∧
      e ≠ .tooShort))

/-- R23-R41: words written out from the encoding tables, and the instructions that they are. -/
def Obligations.DecodeWords : Prop :=
  let reads := fun (w : BitVec 32) (i : Instr) =>
    decode [w.extractLsb' 0 8, w.extractLsb' 8 8, w.extractLsb' 16 8, w.extractLsb' 24 8] = .ok (i, 4)
  reads 0b111111111111_00110_000_00101_0010011 (.addi 5 6 0xFFF) ∧ reads 0b0100000_00111_00110_000_00101_0110011 (.sub 5 6 7) ∧
  reads 0b0000001_00111_00110_011_01000_0100011 (.sd 6 7 0x028) ∧ reads 0b0_000000_00010_00001_001_0100_0_1100011 (.bne 1 2 4) ∧
  reads 0b00000_11_00111_00110_011_00101_0101111 (.amoaddD 5 6 7 1 1) ∧ reads 0b001101000000_00110_001_00000_1110011 (.csrrw 0 6 0x340) ∧
  reads 0b00000_01_00011_00010_0_10_00001_0101011 (.vadd 1 2 3 1 2) ∧
  decode [0x85, 0x62] = .ok (.cLui 5 1, 2) ∧ decode [0, 0] = .error .zeroParcel ∧ decode [0x1F, 0, 0, 0] = .error .reservedLength ∧
  decode [0x93, 0x02] = .error .tooShort

/-- R4, R23-R41: decoding what a well-formed instruction is encoded as gives it back, with its length, whatever follows; for every
instruction, at every value of its operands. -/
def Obligations.RoundTrip : Prop :=
  ∀ i, i.wf = true → ∀ b rest, encode i = some b →
    decode (b ++ rest) = .ok (i, b.length) ∧ (b.length = 4 ∨ b.length = 2)

/-- R109: the instructions of a strand that accept no prefix. -/
def acceptsNoPrefix : Instr → Bool
  | .vqred _ _ _ _ | .erun _ _ _ | .ewait _ _ | .estat _ _ | .qpush _ _ | .qpop _ _ | .qpushv _ _ | .qpopv _ _ | .qstat _ _
  | .qbind _ _ | .vld _ _ _ _ _ | .vst _ _ _ _ _ | .vldx _ _ _ _ _ | .vstx _ _ _ _ _ | .vldl _ _ _ _ _ | .vstl _ _ _ _ _
  | .vldk _ _ _ _ _ | .vldt _ _ _ _ _ | .ldk _ _ _ _ | .ldt _ _ _ _ | .rld _ _ _ _ | .rst _ _ _ _ | .gst _ _ _ _
  | .ksend _ _ _ _ | .famoAddBf16x2 _ _ _ _ | .famoAddF16x2 _ _ _ _ | .famoAddF32 _ _ _ _ | .famoAddF64 _ _ _ _
  | .famoMinBf16x2 _ _ _ _ | .famoMinF16x2 _ _ _ _ | .famoMinF32 _ _ _ _ | .famoMinF64 _ _ _ _ | .famoMaxBf16x2 _ _ _ _
  | .famoMaxF16x2 _ _ _ _ | .famoMaxF32 _ _ _ _ | .famoMaxF64 _ _ _ _ | .cas128 _ _ _ _ | .iaddD _ _ _ _ | .iaddW _ _ _ _
  | .iorD _ _ _ _ | .iandD _ _ _ _ | .fenceS _ | .sldAcq _ _ _ | .sstRel _ _ _ | .barr _ | .bwait _ | .bmask _ _ _ | .tickrd _
  | .tickw _ _ | .sstep _ | .abarr _ _ _ | .abwait _ _ | .abinit _ _ _ | .gopen _ | .gsel _ _ | .gcommit _ _ _ | .gabort _ _
  | .gstat _ _ _ | .tset _ _ _ | .tmode _ _ _ | .kbin _ _ _ | .jrnl _ _ _ | .calld _ | .tcalld _ | .callh _ | .tcallh _
  | .reth _ | .start _ _ _ | .hend | .hjoin _ _ | .hpoll _ | .pfx _ _ _ _ _ | .launch _ _ | .lpoll _ _ | .sysc _ _ _ | .sysw _ _
  | .nfy _ _ _ | .fhand _ _ | .cprobe _ _ _ | .cpin _ _ | .cunpin _ _ | .cevict _ _ | .ctxflush _ _ | .ctxload _ _ | .wsw _ _ _
  | .waitev _ _ _ | .mark _ | .lui _ _ | .auipc _ _ | .jal _ _ | .jalr _ _ _ | .beq _ _ _ | .bne _ _ _ | .blt _ _ _ | .bge _ _ _
  | .bltu _ _ _ | .bgeu _ _ _ | .lb _ _ _ | .lh _ _ _ | .lw _ _ _ | .ld _ _ _ | .lbu _ _ _ | .lhu _ _ _ | .lwu _ _ _ | .sb _ _ _
  | .sh _ _ _ | .sw _ _ _ | .sd _ _ _ | .addi _ _ _ | .slti _ _ _ | .sltiu _ _ _ | .xori _ _ _ | .ori _ _ _ | .andi _ _ _
  | .slli _ _ _ | .srli _ _ _ | .srai _ _ _ | .addiw _ _ _ | .slliw _ _ _ | .srliw _ _ _ | .sraiw _ _ _ | .add _ _ _
  | .sll _ _ _ | .slt _ _ _ | .sltu _ _ _ | .xor _ _ _ | .srl _ _ _ | .or _ _ _ | .and _ _ _ | .sub _ _ _ | .sra _ _ _
  | .mul _ _ _ | .mulh _ _ _ | .mulhsu _ _ _ | .mulhu _ _ _ | .div _ _ _ | .divu _ _ _ | .rem _ _ _ | .remu _ _ _ | .addw _ _ _
  | .sllw _ _ _ | .srlw _ _ _ | .subw _ _ _ | .sraw _ _ _ | .mulw _ _ _ | .divw _ _ _ | .divuw _ _ _ | .remw _ _ _
  | .remuw _ _ _ | .fence _ _ _ _ _ | .lrW _ _ _ _ | .lrD _ _ _ _ | .scW _ _ _ _ _ | .scD _ _ _ _ _ | .amoswapW _ _ _ _ _
  | .amoswapD _ _ _ _ _ | .amoaddW _ _ _ _ _ | .amoaddD _ _ _ _ _ | .amoxorW _ _ _ _ _ | .amoxorD _ _ _ _ _ | .amoandW _ _ _ _ _
  | .amoandD _ _ _ _ _ | .amoorW _ _ _ _ _ | .amoorD _ _ _ _ _ | .amominW _ _ _ _ _ | .amominD _ _ _ _ _ | .amomaxW _ _ _ _ _
  | .amomaxD _ _ _ _ _ | .amominuW _ _ _ _ _ | .amominuD _ _ _ _ _ | .amomaxuW _ _ _ _ _ | .amomaxuD _ _ _ _ _ | .csrrw _ _ _
  | .csrrs _ _ _ | .csrrc _ _ _ | .csrrwi _ _ _ | .csrrsi _ _ _ | .csrrci _ _ _ | .sret | .mret | .wfi | .sfenceVma _ _
  | .cAddi4spn _ _ | .cLw _ _ _ | .cLd _ _ _ | .cSw _ _ _ | .cSd _ _ _ | .cNop _ | .cAddi _ _ | .cAddiw _ _ | .cLi _ _
  | .cAddi16sp _ | .cLui _ _ | .cSrli _ _ | .cSrai _ _ | .cAndi _ _ | .cSub _ _ | .cXor _ _ | .cOr _ _ | .cAnd _ _ | .cSubw _ _
  | .cAddw _ _ | .cJ _ | .cBeqz _ _ | .cBnez _ _ | .cSlli _ _ | .cLwsp _ _ | .cLdsp _ _ | .cJr _ | .cMv _ _ | .cJalr _
  | .cAdd _ _ | .cSwsp _ _ | .cSdsp _ _ => true
  | _ => false

/-- R25, R109: an instruction that accepts no prefix, while one is pending, takes the illegal-instruction exception; the prefix is no
longer pending, and nothing else has been done before it. -/
def Obligations.PendingPrefix : Prop :=
  ∀ (s : State) (i : Instr), acceptsNoPrefix i = true → s.me.pp = true →
    exec i s = .next ((s.modMe (fun t => { t with pp := false })).takeTrap s.here s.cur causeIllegal s.currentWord)

/-- R13, R45, R100, R104, R105, R296, R367, R379: what reset leaves, of what the rules state: every strand is FREE, in no prefix; p0
is all ones; each core considers strand 0 first, and each cluster's directory may hold 64 entries, of which none is valid, with
no rejection counted; the tick is 0 and has not locked; STAGE, STOP and PODCFG are 0; the default server mask stands; the
measurement registers are 0. -/
def Obligations.ResetValues : Prop :=
  let s := State.reset
  (∀ c i, (s.strand c i).status = .free ∧ (s.strand c i).pp = false ∧ (s.strand c i).readP 0 = BitVec.allOnes 256 ∧
    (s.strand c i).readX 0 = 0 ∧ (s.strand c i).vround = 0 ∧ (s.strand c i).vfflags = 0 ∧ (s.strand c i).mcfgw = 0) ∧
  (∀ c, (s.core c).last = 10 ∧ (s.core c).evmode = 0 ∧ (∀ n : Nat, n < 4 → (s.core c).evsel[n]? = some 0 ∧
    (s.core c).evcnt[n]? = some 0 ∧ (s.core c).evallow[n]? = some 0)) ∧
  (∀ l, (s.cluster l).cdlim = 64 ∧ (s.cluster l).dir = [] ∧ ∀ n : Nat, n < 8 → (s.cluster l).rejections[n]? = some 0) ∧
  s.chip.tick = 0 ∧ s.chip.locked = false ∧ s.chip.stage = 0 ∧ s.chip.stop = 0 ∧ s.chip.podcfg = 0 ∧
  (∀ n : Nat, n < 1024 → s.chip.serverMask.getLsbD n = decide (n % 128 = 0)) ∧
  (∀ n : Nat, n < 16 → s.security.mr[n]? = some 0)

/-- At reset the memory is in its canonical form, and lists nothing. -/
def Obligations.ResetMemory : Prop := State.reset.wf ∧ State.reset.mem = []

/-- Every step that answers a next state keeps the canonical form of memory: its locations rise strictly, and no listed byte is what
an unlisted one reads as. -/
def Obligations.MemoryStaysCanonical : Prop := ∀ s t : State, s.wf → step s = .next t → t.wf
end

