-- ==== Sys2Proof/Laws/Decode.lean ====
section
/-! SUPPORT. Fields of concatenated words, and what the decoder makes of the bytes of a word or of a parcel. -/

namespace Sys2Proof

/-! ## Fields -/

/-- A field that lies in the high part. -/
theorem ext_hi {n m : Nat} (x : BitVec n) (y : BitVec m) (s l : Nat) (h : m ≤ s) :
    (x ++ y).extractLsb' s l = x.extractLsb' (s - m) l := by
  apply BitVec.eq_of_getLsbD_eq
  intro i hi
  have h1 : ¬s + i < m := by omega
  simp [BitVec.getLsbD_append, h1, hi, show s + i - m = s - m + i by omega]

/-- A field that lies in the low part. -/
theorem ext_lo {n m : Nat} (x : BitVec n) (y : BitVec m) (s l : Nat) (h : s + l ≤ m) :
    (x ++ y).extractLsb' s l = y.extractLsb' s l := by
  apply BitVec.eq_of_getLsbD_eq
  intro i hi
  simp [BitVec.getLsbD_append, hi, show s + i < m by omega]

/-- The field that is everything. -/
theorem ext_all {n : Nat} (x : BitVec n) : x.extractLsb' 0 n = x := by
  ext i hi
  simp

/-- A field of a field. -/
theorem ext_ext {n : Nat} (x : BitVec n) (a b c d : Nat) (h : c + d ≤ b) :
    (x.extractLsb' a b).extractLsb' c d = x.extractLsb' (a + c) d := by
  apply BitVec.eq_of_getLsbD_eq
  intro i hi
  simp only [BitVec.getLsbD_extractLsb']
  have : c + i < b := by omega
  simp [this, Nat.add_assoc]

/-- Adjacent fields joined. -/
theorem ext_append {n : Nat} (x : BitVec n) (a b c d : Nat) (h : a = c + d) :
    x.extractLsb' a b ++ x.extractLsb' c d = x.extractLsb' c (b + d) := by
  apply BitVec.eq_of_getLsbD_eq
  intro i hi
  simp only [BitVec.getLsbD_append, BitVec.getLsbD_extractLsb', hi, decide_true, Bool.true_and]
  split
  · simp [*]
  · have : i - d < b := by omega
    simp [this, show a + (i - d) = c + i by omega]

/-! ## Bytes and parcels -/

/-- Two bytes of a word as a parcel. -/
theorem parcelOf_bytes {n : Nat} (w : BitVec n) (a b : Nat) (h : b = a + 8) :
    parcelOf (w.extractLsb' a 8) (w.extractLsb' b 8) = w.extractLsb' a 16 := ext_append w b 8 a 8 h

/-- The bytes of a 32-bit word decode as the word does. -/
theorem decode_word {w : BitVec 32} {i : Instr} {op : BitVec 7} (hop : w.extractLsb' 0 7 = op)
    (h1 : op.extractLsb' 0 2 = 3#2) (h2 : op.extractLsb' 2 3 ≠ 7#3) (hd : decodeMajor w = .ok i) (hw : i.wf = true)
    (rest : List Byte) :
    decode ([w.extractLsb' 0 8, w.extractLsb' 8 8, w.extractLsb' 16 8, w.extractLsb' 24 8] ++ rest) = .ok (i, 4) := by
  have lo : ∀ s l, s + l ≤ 7 → (w.extractLsb' 0 16).extractLsb' s l = op.extractLsb' s l := by
    intro s l h
    rw [ext_ext _ _ _ _ _ (by omega), ← hop, ext_ext _ _ _ _ _ h]
  have hl : isLong (w.extractLsb' 0 16) = true := by
    simp only [isLong]
    rw [lo 0 2 (by omega), lo 2 3 (by omega), h1]
    simp [h2]
  have hr : isReservedLength (w.extractLsb' 0 16) = false := by
    simp only [isReservedLength, beq_eq_false_iff_ne, ne_eq]
    rw [lo 0 5 (by omega)]
    intro e
    apply h2
    have := congrArg (·.extractLsb' 2 3) e
    rwa [ext_ext _ _ _ _ _ (by omega)] at this
  have hw32 : w.extractLsb' 16 16 ++ w.extractLsb' 0 16 = w := (ext_append w 16 16 0 16 rfl).trans (ext_all w)
  simp only [List.cons_append, decode, parcelOf_bytes w 0 8 rfl, parcelOf_bytes w 16 24 rfl, hl, hr, hw32,
    Bool.false_eq_true, ↓reduceIte, decodeWord, hd, checked, hw, Except.map]

/-- The quadrant of a parcel picks its table. -/
theorem decode_parcel {p : BitVec 16} {i : Instr} {q : BitVec 2} (hq : p.extractLsb' 0 2 = q) (h1 : q ≠ 3#2)
    (hz : p ≠ 0#16)
    (hd : (match q.toNat with
      | 0 => decodeC0 p
      | 1 => decodeC1 p
      | _ => decodeC2 p) = .ok i) (hw : i.wf = true) (rest : List Byte) :
    decode ([p.extractLsb' 0 8, p.extractLsb' 8 8] ++ rest) = .ok (i, 2) := by
  have hl : isLong p = false := by simp [isLong, hq, h1]
  have hr : isReservedLength p = false := by
    simp only [isReservedLength, beq_eq_false_iff_ne, ne_eq]
    intro e
    apply h1
    have := congrArg (·.extractLsb' 0 2) e
    rwa [ext_ext _ _ _ _ _ (by omega), hq] at this
  have hp : decodeParcel p = .ok i := by
    unfold decodeParcel
    rw [if_neg hz, hq]
    exact (congrArg checked hd).trans (by simp only [checked, hw, ↓reduceIte])
  simp only [List.cons_append, decode, parcelOf_bytes p 0 8 rfl, ext_all, hl, hr, Bool.false_eq_true, ↓reduceIte, hp,
    Except.map]

/-- The bytes that an instruction with a word is encoded in. -/
theorem encode_of_word {i : Instr} {w : BitVec 32} (h : encodeWord i = some w) :
    encode i = some [w.extractLsb' 0 8, w.extractLsb' 8 8, w.extractLsb' 16 8, w.extractLsb' 24 8] := by
  simp [encode, h]

/-- The bytes that an instruction with a parcel is encoded in. -/
theorem encode_of_parcel {i : Instr} {p : BitVec 16} (h0 : encodeWord i = none) (h : encodeParcel i = some p) :
    encode i = some [p.extractLsb' 0 8, p.extractLsb' 8 8] := by
  simp [encode, h0, h]

end Sys2Proof
end

