-- ==== Sys2Proof/Laws/Map.lean ====
section
/-! SUPPORT. Sparse maps and byte memory: what a read after a write gives, and the canonical form that every write keeps. -/

namespace Sys2Proof.Machine

section
variable {α : Type} [DecidableEq α] (d : α)

/-! ## Reading after a put -/

omit [DecidableEq α] in
@[simp] theorem mapFind_mapPut_same (m : SMap α) (k : Nat) (v : α) : mapFind (mapPut m k v) k = some v := by
  induction m with
  | nil => simp [mapPut, mapFind]
  | cons e m ih =>
    obtain ⟨k', v'⟩ := e
    rcases Nat.lt_trichotomy k k' with h | h | h
    · simp [mapPut, mapFind, h]
    · simp [mapPut, mapFind, h]
    · have h1 : ¬k < k' := by omega
      have h2 : k ≠ k' := by omega
      simpa [mapPut, mapFind, h1, h2] using ih

omit [DecidableEq α] in
theorem mapFind_mapPut_other (m : SMap α) {j k : Nat} (v : α) (h : j ≠ k) : mapFind (mapPut m k v) j = mapFind m j := by
  induction m with
  | nil => simp [mapPut, mapFind, h]
  | cons e m ih =>
    obtain ⟨k', v'⟩ := e
    rcases Nat.lt_trichotomy k k' with g | g | g
    · simp [mapPut, mapFind, g, h]
    · subst g; simp [mapPut, mapFind, h]
    · have h1 : ¬k < k' := by omega
      have h2 : k ≠ k' := by omega
      by_cases hj : j = k' <;> simp [mapPut, mapFind, h1, h2, hj, ih]

omit [DecidableEq α] in
@[simp] theorem mapGet_mapPut_same (m : SMap α) (k : Nat) (v : α) : mapGet d (mapPut m k v) k = v := by simp [mapGet]

omit [DecidableEq α] in
theorem mapGet_mapPut_other (m : SMap α) {j k : Nat} (v : α) (h : j ≠ k) :
    mapGet d (mapPut m k v) j = mapGet d m j := by simp [mapGet, mapFind_mapPut_other m v h]

omit [DecidableEq α] in
/-- A put at a key that already holds the value changes no read. -/
theorem mapGet_mapPut (m : SMap α) (j k : Nat) (v : α) :
    mapGet d (mapPut m k v) j = if j = k then v else mapGet d m j := by
  split
  · subst_vars; simp
  · exact mapGet_mapPut_other d m v ‹_›

/-! ## The canonical form -/

/-- What the canonical form says of a list with a first entry. -/
theorem wfAbove_cons (b : Option Nat) (k : Nat) (v : α) (m : SMap α) :
    mapWfAbove d b ((k, v) :: m) = true ↔ (∀ x, b = some x → x < k) ∧ v ≠ d ∧ mapWfAbove d (some k) m = true := by
  cases b <;> simp [mapWfAbove, and_assoc]

theorem mapWfAbove_mono {d : α} {m : SMap α} {b c : Option Nat} (h : mapWfAbove d c m = true)
    (hb : ∀ x, b = some x → ∃ y, c = some y ∧ x ≤ y) : mapWfAbove d b m = true := by
  cases m with
  | nil => rfl
  | cons e m =>
    obtain ⟨k, v⟩ := e
    rw [wfAbove_cons] at h ⊢
    refine ⟨fun x hx => ?_, h.2⟩
    obtain ⟨y, hy, hxy⟩ := hb x hx
    have := h.1 y hy
    omega

/-- A key that is not above the bound of a canonical map is not listed. -/
theorem mapFind_of_wfAbove {m : SMap α} {b k : Nat} (h : mapWfAbove d (some b) m = true) (hk : k ≤ b) :
    mapFind m k = none := by
  induction m generalizing b with
  | nil => rfl
  | cons e m ih =>
    obtain ⟨k', v'⟩ := e
    rw [wfAbove_cons] at h
    have hb := h.1 b rfl
    have : k ≠ k' := by omega
    simp only [mapFind, this, ↓reduceIte]
    exact ih h.2.2 (by omega)

theorem mapSet_wfAbove {m : SMap α} {b : Option Nat} {k : Nat} (v : α) (h : mapWfAbove d b m = true)
    (hk : v = d ∨ ∀ x, b = some x → x < k) : mapWfAbove d b (mapSet d m k v) = true := by
  induction m generalizing b with
  | nil =>
    unfold mapSet
    split
    · rfl
    · exact (wfAbove_cons d b k v []).2 ⟨hk.resolve_left ‹_›, ‹_›, rfl⟩
  | cons e m ih =>
    obtain ⟨k', v'⟩ := e
    have h' := (wfAbove_cons d b k' v' m).1 h
    have hm : mapWfAbove d b m = true := mapWfAbove_mono h'.2.2 (fun x hx => ⟨k', rfl, by have := h'.1 x hx; omega⟩)
    unfold mapSet
    split
    · split
      · exact ih hm (.inl ‹_›)
      · exact (wfAbove_cons ..).2 ⟨h'.1, h'.2.1, ih h'.2.2 (.inl ‹_›)⟩
    · have hb := hk.resolve_left ‹_›
      split
      · exact (wfAbove_cons ..).2 ⟨hb, ‹_›, (wfAbove_cons ..).2 ⟨fun x hx => by cases hx; assumption, h'.2⟩⟩
      · split
        · subst_vars
          exact (wfAbove_cons ..).2 ⟨hb, ‹_›, h'.2.2⟩
        · exact (wfAbove_cons ..).2 ⟨h'.1, h'.2.1, ih h'.2.2 (.inr (fun x hx => by cases hx; omega))⟩

/-- Writing keeps the canonical form of a map. -/
theorem mapSet_wf {m : SMap α} (k : Nat) (v : α) (h : mapWf d m = true) : mapWf d (mapSet d m k v) = true :=
  mapSet_wfAbove d v h (.inr (fun _ h => nomatch h))

/-! ## Reading after a write -/

/-- Reading after writing, whatever the map. -/
theorem mapGet_mapSet (m : SMap α) (j k : Nat) (v : α) :
    mapGet d (mapSet d m k v) j = if j = k then v else mapGet d m j := by
  induction m with
  | nil =>
    unfold mapSet
    by_cases h : v = d <;> by_cases hj : j = k <;> simp [mapGet, mapFind, h, hj]
  | cons e m ih =>
    obtain ⟨k', v'⟩ := e
    simp only [mapGet] at ih ⊢
    unfold mapSet
    by_cases hv : v = d
    · by_cases hk : k = k'
      · by_cases hj : j = k' <;> simp_all [mapFind]
      · by_cases hj : j = k' <;> simp_all [mapFind, eq_comm]
    · by_cases hlt : k < k'
      · by_cases hj : j = k <;> simp [mapFind, hv, hlt, hj]
      · by_cases hk : k = k'
        · by_cases hj : j = k' <;> simp [mapFind, hv, hk, hj]
        · rw [if_neg hv, if_neg hlt, if_neg hk]
          by_cases hj : j = k'
          · subst hj
            simp [mapFind, Ne.symm hk]
          · simpa [mapFind, hj] using ih

theorem mapGet_mapSet_other (m : SMap α) {j k : Nat} (v : α) (h : j ≠ k) :
    mapGet d (mapSet d m k v) j = mapGet d m j := by simp [mapGet_mapSet, h]

end

/-! ## Memory -/

/-- Storing a byte keeps the canonical form of memory. -/
theorem Memory.store_wf {m : Memory} (loc : Nat) (b : Byte) (h : Memory.wf m = true) :
    Memory.wf (Memory.store m loc b) = true := mapSet_wf emptyByte loc b h

/-- Storing cells keeps the canonical form of memory. -/
theorem Memory.storeAll_wf {m : Memory} (cells : List (Nat × Byte)) (h : Memory.wf m = true) :
    Memory.wf (Memory.storeAll m cells) = true := by
  induction cells with
  | nil => exact h
  | cons c cs ih => exact Memory.store_wf c.1 c.2 ih

/-- A read after a store to the same location gives the byte stored. -/
theorem Memory.byte_store_same (m : Memory) (loc : Nat) (b : Byte) :
    Memory.byte (Memory.store m loc b) loc = b := by simp [Memory.byte, Memory.store, mapGet_mapSet]

/-- A store leaves every other location as it was. -/
theorem Memory.byte_store_other (m : Memory) {loc j : Nat} (b : Byte) (h : j ≠ loc) :
    Memory.byte (Memory.store m loc b) j = Memory.byte m j := mapGet_mapSet_other emptyByte m b h

/-- Stores leave every location that none of them names as it was. -/
theorem Memory.byte_storeAll_other (m : Memory) (cells : List (Nat × Byte)) {j : Nat} (h : ∀ c ∈ cells, c.1 ≠ j) :
    Memory.byte (Memory.storeAll m cells) j = Memory.byte m j := by
  induction cells with
  | nil => rfl
  | cons c cs ih =>
    have h1 := ih (fun x hx => h x (List.mem_cons_of_mem _ hx))
    rw [← h1]
    exact Memory.byte_store_other _ c.2 (fun e => h c List.mem_cons_self e.symm)

end Sys2Proof.Machine
end

