-- ==== Sys2Proof/Laws/State.lean ====
section
/-! SUPPORT. What each update of the state leaves as it was, one lemma for each field; and what is read after an update of a
core, of a strand and of a register. -/

namespace Sys2Proof.Machine

/-! ## Updates of cores -/

section
variable (s : State) (c : Nat) (k : Core)
@[simp] theorem State.setCore_benches : (s.setCore c k).benches = s.benches := rfl
@[simp] theorem State.setCore_clusters : (s.setCore c k).clusters = s.clusters := rfl
@[simp] theorem State.setCore_lds : (s.setCore c k).lds = s.lds := rfl
@[simp] theorem State.setCore_chip : (s.setCore c k).chip = s.chip := rfl
@[simp] theorem State.setCore_mem : (s.setCore c k).mem = s.mem := rfl
@[simp] theorem State.setCore_drained : (s.setCore c k).drained = s.drained := rfl
@[simp] theorem State.setCore_l1 : (s.setCore c k).l1 = s.l1 := rfl
@[simp] theorem State.setCore_l2 : (s.setCore c k).l2 = s.l2 := rfl
@[simp] theorem State.setCore_l3 : (s.setCore c k).l3 = s.l3 := rfl
@[simp] theorem State.setCore_cacheUses : (s.setCore c k).cacheUses = s.cacheUses := rfl
@[simp] theorem State.setCore_walks : (s.setCore c k).walks = s.walks := rfl
@[simp] theorem State.setCore_watches : (s.setCore c k).watches = s.watches := rfl
@[simp] theorem State.setCore_reservations : (s.setCore c k).reservations = s.reservations := rfl
@[simp] theorem State.setCore_tiles : (s.setCore c k).tiles = s.tiles := rfl
@[simp] theorem State.setCore_tilesInFlight : (s.setCore c k).tilesInFlight = s.tilesInFlight := rfl
@[simp] theorem State.setCore_poisoned : (s.setCore c k).poisoned = s.poisoned := rfl
@[simp] theorem State.setCore_images : (s.setCore c k).images = s.images := rfl
@[simp] theorem State.setCore_sealedLines : (s.setCore c k).sealedLines = s.sealedLines := rfl
@[simp] theorem State.setCore_launches : (s.setCore c k).launches = s.launches := rfl
@[simp] theorem State.setCore_stackRanges : (s.setCore c k).stackRanges = s.stackRanges := rfl
@[simp] theorem State.setCore_endedRecords : (s.setCore c k).endedRecords = s.endedRecords := rfl
@[simp] theorem State.setCore_decremented : (s.setCore c k).decremented = s.decremented := rfl
@[simp] theorem State.setCore_rechecked : (s.setCore c k).rechecked = s.rechecked := rfl
@[simp] theorem State.setCore_roundTick : (s.setCore c k).roundTick = s.roundTick := rfl
@[simp] theorem State.setCore_trust : (s.setCore c k).trust = s.trust := rfl
@[simp] theorem State.setCore_modStore : (s.setCore c k).modStore = s.modStore := rfl
@[simp] theorem State.setCore_nslot : (s.setCore c k).nslot = s.nslot := rfl
@[simp] theorem State.setCore_ctlq : (s.setCore c k).ctlq = s.ctlq := rfl
@[simp] theorem State.setCore_groups : (s.setCore c k).groups = s.groups := rfl
@[simp] theorem State.setCore_destGroups : (s.setCore c k).destGroups = s.destGroups := rfl
@[simp] theorem State.setCore_staging : (s.setCore c k).staging = s.staging := rfl
@[simp] theorem State.setCore_routes : (s.setCore c k).routes = s.routes := rfl
@[simp] theorem State.setCore_waiting : (s.setCore c k).waiting = s.waiting := rfl
@[simp] theorem State.setCore_portTurns : (s.setCore c k).portTurns = s.portTurns := rfl
@[simp] theorem State.setCore_sends : (s.setCore c k).sends = s.sends := rfl
@[simp] theorem State.setCore_qps : (s.setCore c k).qps = s.qps := rfl
@[simp] theorem State.setCore_srqBuffers : (s.setCore c k).srqBuffers = s.srqBuffers := rfl
@[simp] theorem State.setCore_shootdown : (s.setCore c k).shootdown = s.shootdown := rfl
@[simp] theorem State.setCore_foreignShootdowns : (s.setCore c k).foreignShootdowns = s.foreignShootdowns := rfl
@[simp] theorem State.setCore_security : (s.setCore c k).security = s.security := rfl
@[simp] theorem State.setCore_outbox : (s.setCore c k).outbox = s.outbox := rfl
@[simp] theorem State.setCore_moves : (s.setCore c k).moves = s.moves := rfl
@[simp] theorem State.setCore_here : (s.setCore c k).here = s.here := rfl
@[simp] theorem State.setCore_cur : (s.setCore c k).cur = s.cur := rfl
@[simp] theorem State.setCore_deferred : (s.setCore c k).deferred = s.deferred := rfl
@[simp] theorem State.setCore_fresh : (s.setCore c k).fresh = s.fresh := rfl
@[simp] theorem State.setCore_retired : (s.setCore c k).retired = s.retired := rfl
@[simp] theorem State.setCore_heldTraces : (s.setCore c k).heldTraces = s.heldTraces := rfl
end

section
variable (s : State) (c : Nat) (f : Core → Core)
@[simp] theorem State.modCore_benches : (s.modCore c f).benches = s.benches := rfl
@[simp] theorem State.modCore_clusters : (s.modCore c f).clusters = s.clusters := rfl
@[simp] theorem State.modCore_lds : (s.modCore c f).lds = s.lds := rfl
@[simp] theorem State.modCore_chip : (s.modCore c f).chip = s.chip := rfl
@[simp] theorem State.modCore_mem : (s.modCore c f).mem = s.mem := rfl
@[simp] theorem State.modCore_drained : (s.modCore c f).drained = s.drained := rfl
@[simp] theorem State.modCore_l1 : (s.modCore c f).l1 = s.l1 := rfl
@[simp] theorem State.modCore_l2 : (s.modCore c f).l2 = s.l2 := rfl
@[simp] theorem State.modCore_l3 : (s.modCore c f).l3 = s.l3 := rfl
@[simp] theorem State.modCore_cacheUses : (s.modCore c f).cacheUses = s.cacheUses := rfl
@[simp] theorem State.modCore_walks : (s.modCore c f).walks = s.walks := rfl
@[simp] theorem State.modCore_watches : (s.modCore c f).watches = s.watches := rfl
@[simp] theorem State.modCore_reservations : (s.modCore c f).reservations = s.reservations := rfl
@[simp] theorem State.modCore_tiles : (s.modCore c f).tiles = s.tiles := rfl
@[simp] theorem State.modCore_tilesInFlight : (s.modCore c f).tilesInFlight = s.tilesInFlight := rfl
@[simp] theorem State.modCore_poisoned : (s.modCore c f).poisoned = s.poisoned := rfl
@[simp] theorem State.modCore_images : (s.modCore c f).images = s.images := rfl
@[simp] theorem State.modCore_sealedLines : (s.modCore c f).sealedLines = s.sealedLines := rfl
@[simp] theorem State.modCore_launches : (s.modCore c f).launches = s.launches := rfl
@[simp] theorem State.modCore_stackRanges : (s.modCore c f).stackRanges = s.stackRanges := rfl
@[simp] theorem State.modCore_endedRecords : (s.modCore c f).endedRecords = s.endedRecords := rfl
@[simp] theorem State.modCore_decremented : (s.modCore c f).decremented = s.decremented := rfl
@[simp] theorem State.modCore_rechecked : (s.modCore c f).rechecked = s.rechecked := rfl
@[simp] theorem State.modCore_roundTick : (s.modCore c f).roundTick = s.roundTick := rfl
@[simp] theorem State.modCore_trust : (s.modCore c f).trust = s.trust := rfl
@[simp] theorem State.modCore_modStore : (s.modCore c f).modStore = s.modStore := rfl
@[simp] theorem State.modCore_nslot : (s.modCore c f).nslot = s.nslot := rfl
@[simp] theorem State.modCore_ctlq : (s.modCore c f).ctlq = s.ctlq := rfl
@[simp] theorem State.modCore_groups : (s.modCore c f).groups = s.groups := rfl
@[simp] theorem State.modCore_destGroups : (s.modCore c f).destGroups = s.destGroups := rfl
@[simp] theorem State.modCore_staging : (s.modCore c f).staging = s.staging := rfl
@[simp] theorem State.modCore_routes : (s.modCore c f).routes = s.routes := rfl
@[simp] theorem State.modCore_waiting : (s.modCore c f).waiting = s.waiting := rfl
@[simp] theorem State.modCore_portTurns : (s.modCore c f).portTurns = s.portTurns := rfl
@[simp] theorem State.modCore_sends : (s.modCore c f).sends = s.sends := rfl
@[simp] theorem State.modCore_qps : (s.modCore c f).qps = s.qps := rfl
@[simp] theorem State.modCore_srqBuffers : (s.modCore c f).srqBuffers = s.srqBuffers := rfl
@[simp] theorem State.modCore_shootdown : (s.modCore c f).shootdown = s.shootdown := rfl
@[simp] theorem State.modCore_foreignShootdowns : (s.modCore c f).foreignShootdowns = s.foreignShootdowns := rfl
@[simp] theorem State.modCore_security : (s.modCore c f).security = s.security := rfl
@[simp] theorem State.modCore_outbox : (s.modCore c f).outbox = s.outbox := rfl
@[simp] theorem State.modCore_moves : (s.modCore c f).moves = s.moves := rfl
@[simp] theorem State.modCore_here : (s.modCore c f).here = s.here := rfl
@[simp] theorem State.modCore_cur : (s.modCore c f).cur = s.cur := rfl
@[simp] theorem State.modCore_deferred : (s.modCore c f).deferred = s.deferred := rfl
@[simp] theorem State.modCore_fresh : (s.modCore c f).fresh = s.fresh := rfl
@[simp] theorem State.modCore_retired : (s.modCore c f).retired = s.retired := rfl
@[simp] theorem State.modCore_heldTraces : (s.modCore c f).heldTraces = s.heldTraces := rfl
end

section
variable (s : State) (c i : Nat) (f : Strand → Strand)
@[simp] theorem State.modStrand_benches : (s.modStrand c i f).benches = s.benches := rfl
@[simp] theorem State.modStrand_clusters : (s.modStrand c i f).clusters = s.clusters := rfl
@[simp] theorem State.modStrand_lds : (s.modStrand c i f).lds = s.lds := rfl
@[simp] theorem State.modStrand_chip : (s.modStrand c i f).chip = s.chip := rfl
@[simp] theorem State.modStrand_mem : (s.modStrand c i f).mem = s.mem := rfl
@[simp] theorem State.modStrand_drained : (s.modStrand c i f).drained = s.drained := rfl
@[simp] theorem State.modStrand_l1 : (s.modStrand c i f).l1 = s.l1 := rfl
@[simp] theorem State.modStrand_l2 : (s.modStrand c i f).l2 = s.l2 := rfl
@[simp] theorem State.modStrand_l3 : (s.modStrand c i f).l3 = s.l3 := rfl
@[simp] theorem State.modStrand_cacheUses : (s.modStrand c i f).cacheUses = s.cacheUses := rfl
@[simp] theorem State.modStrand_walks : (s.modStrand c i f).walks = s.walks := rfl
@[simp] theorem State.modStrand_watches : (s.modStrand c i f).watches = s.watches := rfl
@[simp] theorem State.modStrand_reservations : (s.modStrand c i f).reservations = s.reservations := rfl
@[simp] theorem State.modStrand_tiles : (s.modStrand c i f).tiles = s.tiles := rfl
@[simp] theorem State.modStrand_tilesInFlight : (s.modStrand c i f).tilesInFlight = s.tilesInFlight := rfl
@[simp] theorem State.modStrand_poisoned : (s.modStrand c i f).poisoned = s.poisoned := rfl
@[simp] theorem State.modStrand_images : (s.modStrand c i f).images = s.images := rfl
@[simp] theorem State.modStrand_sealedLines : (s.modStrand c i f).sealedLines = s.sealedLines := rfl
@[simp] theorem State.modStrand_launches : (s.modStrand c i f).launches = s.launches := rfl
@[simp] theorem State.modStrand_stackRanges : (s.modStrand c i f).stackRanges = s.stackRanges := rfl
@[simp] theorem State.modStrand_endedRecords : (s.modStrand c i f).endedRecords = s.endedRecords := rfl
@[simp] theorem State.modStrand_decremented : (s.modStrand c i f).decremented = s.decremented := rfl
@[simp] theorem State.modStrand_rechecked : (s.modStrand c i f).rechecked = s.rechecked := rfl
@[simp] theorem State.modStrand_roundTick : (s.modStrand c i f).roundTick = s.roundTick := rfl
@[simp] theorem State.modStrand_trust : (s.modStrand c i f).trust = s.trust := rfl
@[simp] theorem State.modStrand_modStore : (s.modStrand c i f).modStore = s.modStore := rfl
@[simp] theorem State.modStrand_nslot : (s.modStrand c i f).nslot = s.nslot := rfl
@[simp] theorem State.modStrand_ctlq : (s.modStrand c i f).ctlq = s.ctlq := rfl
@[simp] theorem State.modStrand_groups : (s.modStrand c i f).groups = s.groups := rfl
@[simp] theorem State.modStrand_destGroups : (s.modStrand c i f).destGroups = s.destGroups := rfl
@[simp] theorem State.modStrand_staging : (s.modStrand c i f).staging = s.staging := rfl
@[simp] theorem State.modStrand_routes : (s.modStrand c i f).routes = s.routes := rfl
@[simp] theorem State.modStrand_waiting : (s.modStrand c i f).waiting = s.waiting := rfl
@[simp] theorem State.modStrand_portTurns : (s.modStrand c i f).portTurns = s.portTurns := rfl
@[simp] theorem State.modStrand_sends : (s.modStrand c i f).sends = s.sends := rfl
@[simp] theorem State.modStrand_qps : (s.modStrand c i f).qps = s.qps := rfl
@[simp] theorem State.modStrand_srqBuffers : (s.modStrand c i f).srqBuffers = s.srqBuffers := rfl
@[simp] theorem State.modStrand_shootdown : (s.modStrand c i f).shootdown = s.shootdown := rfl
@[simp] theorem State.modStrand_foreignShootdowns : (s.modStrand c i f).foreignShootdowns = s.foreignShootdowns := rfl
@[simp] theorem State.modStrand_security : (s.modStrand c i f).security = s.security := rfl
@[simp] theorem State.modStrand_outbox : (s.modStrand c i f).outbox = s.outbox := rfl
@[simp] theorem State.modStrand_moves : (s.modStrand c i f).moves = s.moves := rfl
@[simp] theorem State.modStrand_here : (s.modStrand c i f).here = s.here := rfl
@[simp] theorem State.modStrand_cur : (s.modStrand c i f).cur = s.cur := rfl
@[simp] theorem State.modStrand_deferred : (s.modStrand c i f).deferred = s.deferred := rfl
@[simp] theorem State.modStrand_fresh : (s.modStrand c i f).fresh = s.fresh := rfl
@[simp] theorem State.modStrand_retired : (s.modStrand c i f).retired = s.retired := rfl
@[simp] theorem State.modStrand_heldTraces : (s.modStrand c i f).heldTraces = s.heldTraces := rfl
end

section
variable (s : State) (f : Strand → Strand)
@[simp] theorem State.modMe_benches : (s.modMe f).benches = s.benches := rfl
@[simp] theorem State.modMe_clusters : (s.modMe f).clusters = s.clusters := rfl
@[simp] theorem State.modMe_lds : (s.modMe f).lds = s.lds := rfl
@[simp] theorem State.modMe_chip : (s.modMe f).chip = s.chip := rfl
@[simp] theorem State.modMe_mem : (s.modMe f).mem = s.mem := rfl
@[simp] theorem State.modMe_drained : (s.modMe f).drained = s.drained := rfl
@[simp] theorem State.modMe_l1 : (s.modMe f).l1 = s.l1 := rfl
@[simp] theorem State.modMe_l2 : (s.modMe f).l2 = s.l2 := rfl
@[simp] theorem State.modMe_l3 : (s.modMe f).l3 = s.l3 := rfl
@[simp] theorem State.modMe_cacheUses : (s.modMe f).cacheUses = s.cacheUses := rfl
@[simp] theorem State.modMe_walks : (s.modMe f).walks = s.walks := rfl
@[simp] theorem State.modMe_watches : (s.modMe f).watches = s.watches := rfl
@[simp] theorem State.modMe_reservations : (s.modMe f).reservations = s.reservations := rfl
@[simp] theorem State.modMe_tiles : (s.modMe f).tiles = s.tiles := rfl
@[simp] theorem State.modMe_tilesInFlight : (s.modMe f).tilesInFlight = s.tilesInFlight := rfl
@[simp] theorem State.modMe_poisoned : (s.modMe f).poisoned = s.poisoned := rfl
@[simp] theorem State.modMe_images : (s.modMe f).images = s.images := rfl
@[simp] theorem State.modMe_sealedLines : (s.modMe f).sealedLines = s.sealedLines := rfl
@[simp] theorem State.modMe_launches : (s.modMe f).launches = s.launches := rfl
@[simp] theorem State.modMe_stackRanges : (s.modMe f).stackRanges = s.stackRanges := rfl
@[simp] theorem State.modMe_endedRecords : (s.modMe f).endedRecords = s.endedRecords := rfl
@[simp] theorem State.modMe_decremented : (s.modMe f).decremented = s.decremented := rfl
@[simp] theorem State.modMe_rechecked : (s.modMe f).rechecked = s.rechecked := rfl
@[simp] theorem State.modMe_roundTick : (s.modMe f).roundTick = s.roundTick := rfl
@[simp] theorem State.modMe_trust : (s.modMe f).trust = s.trust := rfl
@[simp] theorem State.modMe_modStore : (s.modMe f).modStore = s.modStore := rfl
@[simp] theorem State.modMe_nslot : (s.modMe f).nslot = s.nslot := rfl
@[simp] theorem State.modMe_ctlq : (s.modMe f).ctlq = s.ctlq := rfl
@[simp] theorem State.modMe_groups : (s.modMe f).groups = s.groups := rfl
@[simp] theorem State.modMe_destGroups : (s.modMe f).destGroups = s.destGroups := rfl
@[simp] theorem State.modMe_staging : (s.modMe f).staging = s.staging := rfl
@[simp] theorem State.modMe_routes : (s.modMe f).routes = s.routes := rfl
@[simp] theorem State.modMe_waiting : (s.modMe f).waiting = s.waiting := rfl
@[simp] theorem State.modMe_portTurns : (s.modMe f).portTurns = s.portTurns := rfl
@[simp] theorem State.modMe_sends : (s.modMe f).sends = s.sends := rfl
@[simp] theorem State.modMe_qps : (s.modMe f).qps = s.qps := rfl
@[simp] theorem State.modMe_srqBuffers : (s.modMe f).srqBuffers = s.srqBuffers := rfl
@[simp] theorem State.modMe_shootdown : (s.modMe f).shootdown = s.shootdown := rfl
@[simp] theorem State.modMe_foreignShootdowns : (s.modMe f).foreignShootdowns = s.foreignShootdowns := rfl
@[simp] theorem State.modMe_security : (s.modMe f).security = s.security := rfl
@[simp] theorem State.modMe_outbox : (s.modMe f).outbox = s.outbox := rfl
@[simp] theorem State.modMe_moves : (s.modMe f).moves = s.moves := rfl
@[simp] theorem State.modMe_here : (s.modMe f).here = s.here := rfl
@[simp] theorem State.modMe_cur : (s.modMe f).cur = s.cur := rfl
@[simp] theorem State.modMe_deferred : (s.modMe f).deferred = s.deferred := rfl
@[simp] theorem State.modMe_fresh : (s.modMe f).fresh = s.fresh := rfl
@[simp] theorem State.modMe_retired : (s.modMe f).retired = s.retired := rfl
@[simp] theorem State.modMe_heldTraces : (s.modMe f).heldTraces = s.heldTraces := rfl
end

section
variable (s : State) (f : Core → Core)
@[simp] theorem State.modMyCore_benches : (s.modMyCore f).benches = s.benches := rfl
@[simp] theorem State.modMyCore_clusters : (s.modMyCore f).clusters = s.clusters := rfl
@[simp] theorem State.modMyCore_lds : (s.modMyCore f).lds = s.lds := rfl
@[simp] theorem State.modMyCore_chip : (s.modMyCore f).chip = s.chip := rfl
@[simp] theorem State.modMyCore_mem : (s.modMyCore f).mem = s.mem := rfl
@[simp] theorem State.modMyCore_drained : (s.modMyCore f).drained = s.drained := rfl
@[simp] theorem State.modMyCore_l1 : (s.modMyCore f).l1 = s.l1 := rfl
@[simp] theorem State.modMyCore_l2 : (s.modMyCore f).l2 = s.l2 := rfl
@[simp] theorem State.modMyCore_l3 : (s.modMyCore f).l3 = s.l3 := rfl
@[simp] theorem State.modMyCore_cacheUses : (s.modMyCore f).cacheUses = s.cacheUses := rfl
@[simp] theorem State.modMyCore_walks : (s.modMyCore f).walks = s.walks := rfl
@[simp] theorem State.modMyCore_watches : (s.modMyCore f).watches = s.watches := rfl
@[simp] theorem State.modMyCore_reservations : (s.modMyCore f).reservations = s.reservations := rfl
@[simp] theorem State.modMyCore_tiles : (s.modMyCore f).tiles = s.tiles := rfl
@[simp] theorem State.modMyCore_tilesInFlight : (s.modMyCore f).tilesInFlight = s.tilesInFlight := rfl
@[simp] theorem State.modMyCore_poisoned : (s.modMyCore f).poisoned = s.poisoned := rfl
@[simp] theorem State.modMyCore_images : (s.modMyCore f).images = s.images := rfl
@[simp] theorem State.modMyCore_sealedLines : (s.modMyCore f).sealedLines = s.sealedLines := rfl
@[simp] theorem State.modMyCore_launches : (s.modMyCore f).launches = s.launches := rfl
@[simp] theorem State.modMyCore_stackRanges : (s.modMyCore f).stackRanges = s.stackRanges := rfl
@[simp] theorem State.modMyCore_endedRecords : (s.modMyCore f).endedRecords = s.endedRecords := rfl
@[simp] theorem State.modMyCore_decremented : (s.modMyCore f).decremented = s.decremented := rfl
@[simp] theorem State.modMyCore_rechecked : (s.modMyCore f).rechecked = s.rechecked := rfl
@[simp] theorem State.modMyCore_roundTick : (s.modMyCore f).roundTick = s.roundTick := rfl
@[simp] theorem State.modMyCore_trust : (s.modMyCore f).trust = s.trust := rfl
@[simp] theorem State.modMyCore_modStore : (s.modMyCore f).modStore = s.modStore := rfl
@[simp] theorem State.modMyCore_nslot : (s.modMyCore f).nslot = s.nslot := rfl
@[simp] theorem State.modMyCore_ctlq : (s.modMyCore f).ctlq = s.ctlq := rfl
@[simp] theorem State.modMyCore_groups : (s.modMyCore f).groups = s.groups := rfl
@[simp] theorem State.modMyCore_destGroups : (s.modMyCore f).destGroups = s.destGroups := rfl
@[simp] theorem State.modMyCore_staging : (s.modMyCore f).staging = s.staging := rfl
@[simp] theorem State.modMyCore_routes : (s.modMyCore f).routes = s.routes := rfl
@[simp] theorem State.modMyCore_waiting : (s.modMyCore f).waiting = s.waiting := rfl
@[simp] theorem State.modMyCore_portTurns : (s.modMyCore f).portTurns = s.portTurns := rfl
@[simp] theorem State.modMyCore_sends : (s.modMyCore f).sends = s.sends := rfl
@[simp] theorem State.modMyCore_qps : (s.modMyCore f).qps = s.qps := rfl
@[simp] theorem State.modMyCore_srqBuffers : (s.modMyCore f).srqBuffers = s.srqBuffers := rfl
@[simp] theorem State.modMyCore_shootdown : (s.modMyCore f).shootdown = s.shootdown := rfl
@[simp] theorem State.modMyCore_foreignShootdowns : (s.modMyCore f).foreignShootdowns = s.foreignShootdowns := rfl
@[simp] theorem State.modMyCore_security : (s.modMyCore f).security = s.security := rfl
@[simp] theorem State.modMyCore_outbox : (s.modMyCore f).outbox = s.outbox := rfl
@[simp] theorem State.modMyCore_moves : (s.modMyCore f).moves = s.moves := rfl
@[simp] theorem State.modMyCore_here : (s.modMyCore f).here = s.here := rfl
@[simp] theorem State.modMyCore_cur : (s.modMyCore f).cur = s.cur := rfl
@[simp] theorem State.modMyCore_deferred : (s.modMyCore f).deferred = s.deferred := rfl
@[simp] theorem State.modMyCore_fresh : (s.modMyCore f).fresh = s.fresh := rfl
@[simp] theorem State.modMyCore_retired : (s.modMyCore f).retired = s.retired := rfl
@[simp] theorem State.modMyCore_heldTraces : (s.modMyCore f).heldTraces = s.heldTraces := rfl
end

section
variable (s : State) (r : BitVec 5) (w : Word)
@[simp] theorem State.writeX_benches : (s.writeX r w).benches = s.benches := rfl
@[simp] theorem State.writeX_clusters : (s.writeX r w).clusters = s.clusters := rfl
@[simp] theorem State.writeX_lds : (s.writeX r w).lds = s.lds := rfl
@[simp] theorem State.writeX_chip : (s.writeX r w).chip = s.chip := rfl
@[simp] theorem State.writeX_mem : (s.writeX r w).mem = s.mem := rfl
@[simp] theorem State.writeX_drained : (s.writeX r w).drained = s.drained := rfl
@[simp] theorem State.writeX_l1 : (s.writeX r w).l1 = s.l1 := rfl
@[simp] theorem State.writeX_l2 : (s.writeX r w).l2 = s.l2 := rfl
@[simp] theorem State.writeX_l3 : (s.writeX r w).l3 = s.l3 := rfl
@[simp] theorem State.writeX_cacheUses : (s.writeX r w).cacheUses = s.cacheUses := rfl
@[simp] theorem State.writeX_walks : (s.writeX r w).walks = s.walks := rfl
@[simp] theorem State.writeX_watches : (s.writeX r w).watches = s.watches := rfl
@[simp] theorem State.writeX_reservations : (s.writeX r w).reservations = s.reservations := rfl
@[simp] theorem State.writeX_tiles : (s.writeX r w).tiles = s.tiles := rfl
@[simp] theorem State.writeX_tilesInFlight : (s.writeX r w).tilesInFlight = s.tilesInFlight := rfl
@[simp] theorem State.writeX_poisoned : (s.writeX r w).poisoned = s.poisoned := rfl
@[simp] theorem State.writeX_images : (s.writeX r w).images = s.images := rfl
@[simp] theorem State.writeX_sealedLines : (s.writeX r w).sealedLines = s.sealedLines := rfl
@[simp] theorem State.writeX_launches : (s.writeX r w).launches = s.launches := rfl
@[simp] theorem State.writeX_stackRanges : (s.writeX r w).stackRanges = s.stackRanges := rfl
@[simp] theorem State.writeX_endedRecords : (s.writeX r w).endedRecords = s.endedRecords := rfl
@[simp] theorem State.writeX_decremented : (s.writeX r w).decremented = s.decremented := rfl
@[simp] theorem State.writeX_rechecked : (s.writeX r w).rechecked = s.rechecked := rfl
@[simp] theorem State.writeX_roundTick : (s.writeX r w).roundTick = s.roundTick := rfl
@[simp] theorem State.writeX_trust : (s.writeX r w).trust = s.trust := rfl
@[simp] theorem State.writeX_modStore : (s.writeX r w).modStore = s.modStore := rfl
@[simp] theorem State.writeX_nslot : (s.writeX r w).nslot = s.nslot := rfl
@[simp] theorem State.writeX_ctlq : (s.writeX r w).ctlq = s.ctlq := rfl
@[simp] theorem State.writeX_groups : (s.writeX r w).groups = s.groups := rfl
@[simp] theorem State.writeX_destGroups : (s.writeX r w).destGroups = s.destGroups := rfl
@[simp] theorem State.writeX_staging : (s.writeX r w).staging = s.staging := rfl
@[simp] theorem State.writeX_routes : (s.writeX r w).routes = s.routes := rfl
@[simp] theorem State.writeX_waiting : (s.writeX r w).waiting = s.waiting := rfl
@[simp] theorem State.writeX_portTurns : (s.writeX r w).portTurns = s.portTurns := rfl
@[simp] theorem State.writeX_sends : (s.writeX r w).sends = s.sends := rfl
@[simp] theorem State.writeX_qps : (s.writeX r w).qps = s.qps := rfl
@[simp] theorem State.writeX_srqBuffers : (s.writeX r w).srqBuffers = s.srqBuffers := rfl
@[simp] theorem State.writeX_shootdown : (s.writeX r w).shootdown = s.shootdown := rfl
@[simp] theorem State.writeX_foreignShootdowns : (s.writeX r w).foreignShootdowns = s.foreignShootdowns := rfl
@[simp] theorem State.writeX_security : (s.writeX r w).security = s.security := rfl
@[simp] theorem State.writeX_outbox : (s.writeX r w).outbox = s.outbox := rfl
@[simp] theorem State.writeX_moves : (s.writeX r w).moves = s.moves := rfl
@[simp] theorem State.writeX_here : (s.writeX r w).here = s.here := rfl
@[simp] theorem State.writeX_cur : (s.writeX r w).cur = s.cur := rfl
@[simp] theorem State.writeX_deferred : (s.writeX r w).deferred = s.deferred := rfl
@[simp] theorem State.writeX_fresh : (s.writeX r w).fresh = s.fresh := rfl
@[simp] theorem State.writeX_retired : (s.writeX r w).retired = s.retired := rfl
@[simp] theorem State.writeX_heldTraces : (s.writeX r w).heldTraces = s.heldTraces := rfl
end

section
variable (s : State) (r : BitVec 5) (l : Line)
@[simp] theorem State.writeV_benches : (s.writeV r l).benches = s.benches := rfl
@[simp] theorem State.writeV_clusters : (s.writeV r l).clusters = s.clusters := rfl
@[simp] theorem State.writeV_lds : (s.writeV r l).lds = s.lds := rfl
@[simp] theorem State.writeV_chip : (s.writeV r l).chip = s.chip := rfl
@[simp] theorem State.writeV_mem : (s.writeV r l).mem = s.mem := rfl
@[simp] theorem State.writeV_drained : (s.writeV r l).drained = s.drained := rfl
@[simp] theorem State.writeV_l1 : (s.writeV r l).l1 = s.l1 := rfl
@[simp] theorem State.writeV_l2 : (s.writeV r l).l2 = s.l2 := rfl
@[simp] theorem State.writeV_l3 : (s.writeV r l).l3 = s.l3 := rfl
@[simp] theorem State.writeV_cacheUses : (s.writeV r l).cacheUses = s.cacheUses := rfl
@[simp] theorem State.writeV_walks : (s.writeV r l).walks = s.walks := rfl
@[simp] theorem State.writeV_watches : (s.writeV r l).watches = s.watches := rfl
@[simp] theorem State.writeV_reservations : (s.writeV r l).reservations = s.reservations := rfl
@[simp] theorem State.writeV_tiles : (s.writeV r l).tiles = s.tiles := rfl
@[simp] theorem State.writeV_tilesInFlight : (s.writeV r l).tilesInFlight = s.tilesInFlight := rfl
@[simp] theorem State.writeV_poisoned : (s.writeV r l).poisoned = s.poisoned := rfl
@[simp] theorem State.writeV_images : (s.writeV r l).images = s.images := rfl
@[simp] theorem State.writeV_sealedLines : (s.writeV r l).sealedLines = s.sealedLines := rfl
@[simp] theorem State.writeV_launches : (s.writeV r l).launches = s.launches := rfl
@[simp] theorem State.writeV_stackRanges : (s.writeV r l).stackRanges = s.stackRanges := rfl
@[simp] theorem State.writeV_endedRecords : (s.writeV r l).endedRecords = s.endedRecords := rfl
@[simp] theorem State.writeV_decremented : (s.writeV r l).decremented = s.decremented := rfl
@[simp] theorem State.writeV_rechecked : (s.writeV r l).rechecked = s.rechecked := rfl
@[simp] theorem State.writeV_roundTick : (s.writeV r l).roundTick = s.roundTick := rfl
@[simp] theorem State.writeV_trust : (s.writeV r l).trust = s.trust := rfl
@[simp] theorem State.writeV_modStore : (s.writeV r l).modStore = s.modStore := rfl
@[simp] theorem State.writeV_nslot : (s.writeV r l).nslot = s.nslot := rfl
@[simp] theorem State.writeV_ctlq : (s.writeV r l).ctlq = s.ctlq := rfl
@[simp] theorem State.writeV_groups : (s.writeV r l).groups = s.groups := rfl
@[simp] theorem State.writeV_destGroups : (s.writeV r l).destGroups = s.destGroups := rfl
@[simp] theorem State.writeV_staging : (s.writeV r l).staging = s.staging := rfl
@[simp] theorem State.writeV_routes : (s.writeV r l).routes = s.routes := rfl
@[simp] theorem State.writeV_waiting : (s.writeV r l).waiting = s.waiting := rfl
@[simp] theorem State.writeV_portTurns : (s.writeV r l).portTurns = s.portTurns := rfl
@[simp] theorem State.writeV_sends : (s.writeV r l).sends = s.sends := rfl
@[simp] theorem State.writeV_qps : (s.writeV r l).qps = s.qps := rfl
@[simp] theorem State.writeV_srqBuffers : (s.writeV r l).srqBuffers = s.srqBuffers := rfl
@[simp] theorem State.writeV_shootdown : (s.writeV r l).shootdown = s.shootdown := rfl
@[simp] theorem State.writeV_foreignShootdowns : (s.writeV r l).foreignShootdowns = s.foreignShootdowns := rfl
@[simp] theorem State.writeV_security : (s.writeV r l).security = s.security := rfl
@[simp] theorem State.writeV_outbox : (s.writeV r l).outbox = s.outbox := rfl
@[simp] theorem State.writeV_moves : (s.writeV r l).moves = s.moves := rfl
@[simp] theorem State.writeV_here : (s.writeV r l).here = s.here := rfl
@[simp] theorem State.writeV_cur : (s.writeV r l).cur = s.cur := rfl
@[simp] theorem State.writeV_deferred : (s.writeV r l).deferred = s.deferred := rfl
@[simp] theorem State.writeV_fresh : (s.writeV r l).fresh = s.fresh := rfl
@[simp] theorem State.writeV_retired : (s.writeV r l).retired = s.retired := rfl
@[simp] theorem State.writeV_heldTraces : (s.writeV r l).heldTraces = s.heldTraces := rfl
end

section
variable (s : State) (r : BitVec 3) (b : Pred)
@[simp] theorem State.writeP_benches : (s.writeP r b).benches = s.benches := rfl
@[simp] theorem State.writeP_clusters : (s.writeP r b).clusters = s.clusters := rfl
@[simp] theorem State.writeP_lds : (s.writeP r b).lds = s.lds := rfl
@[simp] theorem State.writeP_chip : (s.writeP r b).chip = s.chip := rfl
@[simp] theorem State.writeP_mem : (s.writeP r b).mem = s.mem := rfl
@[simp] theorem State.writeP_drained : (s.writeP r b).drained = s.drained := rfl
@[simp] theorem State.writeP_l1 : (s.writeP r b).l1 = s.l1 := rfl
@[simp] theorem State.writeP_l2 : (s.writeP r b).l2 = s.l2 := rfl
@[simp] theorem State.writeP_l3 : (s.writeP r b).l3 = s.l3 := rfl
@[simp] theorem State.writeP_cacheUses : (s.writeP r b).cacheUses = s.cacheUses := rfl
@[simp] theorem State.writeP_walks : (s.writeP r b).walks = s.walks := rfl
@[simp] theorem State.writeP_watches : (s.writeP r b).watches = s.watches := rfl
@[simp] theorem State.writeP_reservations : (s.writeP r b).reservations = s.reservations := rfl
@[simp] theorem State.writeP_tiles : (s.writeP r b).tiles = s.tiles := rfl
@[simp] theorem State.writeP_tilesInFlight : (s.writeP r b).tilesInFlight = s.tilesInFlight := rfl
@[simp] theorem State.writeP_poisoned : (s.writeP r b).poisoned = s.poisoned := rfl
@[simp] theorem State.writeP_images : (s.writeP r b).images = s.images := rfl
@[simp] theorem State.writeP_sealedLines : (s.writeP r b).sealedLines = s.sealedLines := rfl
@[simp] theorem State.writeP_launches : (s.writeP r b).launches = s.launches := rfl
@[simp] theorem State.writeP_stackRanges : (s.writeP r b).stackRanges = s.stackRanges := rfl
@[simp] theorem State.writeP_endedRecords : (s.writeP r b).endedRecords = s.endedRecords := rfl
@[simp] theorem State.writeP_decremented : (s.writeP r b).decremented = s.decremented := rfl
@[simp] theorem State.writeP_rechecked : (s.writeP r b).rechecked = s.rechecked := rfl
@[simp] theorem State.writeP_roundTick : (s.writeP r b).roundTick = s.roundTick := rfl
@[simp] theorem State.writeP_trust : (s.writeP r b).trust = s.trust := rfl
@[simp] theorem State.writeP_modStore : (s.writeP r b).modStore = s.modStore := rfl
@[simp] theorem State.writeP_nslot : (s.writeP r b).nslot = s.nslot := rfl
@[simp] theorem State.writeP_ctlq : (s.writeP r b).ctlq = s.ctlq := rfl
@[simp] theorem State.writeP_groups : (s.writeP r b).groups = s.groups := rfl
@[simp] theorem State.writeP_destGroups : (s.writeP r b).destGroups = s.destGroups := rfl
@[simp] theorem State.writeP_staging : (s.writeP r b).staging = s.staging := rfl
@[simp] theorem State.writeP_routes : (s.writeP r b).routes = s.routes := rfl
@[simp] theorem State.writeP_waiting : (s.writeP r b).waiting = s.waiting := rfl
@[simp] theorem State.writeP_portTurns : (s.writeP r b).portTurns = s.portTurns := rfl
@[simp] theorem State.writeP_sends : (s.writeP r b).sends = s.sends := rfl
@[simp] theorem State.writeP_qps : (s.writeP r b).qps = s.qps := rfl
@[simp] theorem State.writeP_srqBuffers : (s.writeP r b).srqBuffers = s.srqBuffers := rfl
@[simp] theorem State.writeP_shootdown : (s.writeP r b).shootdown = s.shootdown := rfl
@[simp] theorem State.writeP_foreignShootdowns : (s.writeP r b).foreignShootdowns = s.foreignShootdowns := rfl
@[simp] theorem State.writeP_security : (s.writeP r b).security = s.security := rfl
@[simp] theorem State.writeP_outbox : (s.writeP r b).outbox = s.outbox := rfl
@[simp] theorem State.writeP_moves : (s.writeP r b).moves = s.moves := rfl
@[simp] theorem State.writeP_here : (s.writeP r b).here = s.here := rfl
@[simp] theorem State.writeP_cur : (s.writeP r b).cur = s.cur := rfl
@[simp] theorem State.writeP_deferred : (s.writeP r b).deferred = s.deferred := rfl
@[simp] theorem State.writeP_fresh : (s.writeP r b).fresh = s.fresh := rfl
@[simp] theorem State.writeP_retired : (s.writeP r b).retired = s.retired := rfl
@[simp] theorem State.writeP_heldTraces : (s.writeP r b).heldTraces = s.heldTraces := rfl
end

section
variable (s : State) (n : Nat)
@[simp] theorem State.retire_benches : (s.retire n).benches = s.benches := rfl
@[simp] theorem State.retire_clusters : (s.retire n).clusters = s.clusters := rfl
@[simp] theorem State.retire_lds : (s.retire n).lds = s.lds := rfl
@[simp] theorem State.retire_chip : (s.retire n).chip = s.chip := rfl
@[simp] theorem State.retire_mem : (s.retire n).mem = s.mem := rfl
@[simp] theorem State.retire_drained : (s.retire n).drained = s.drained := rfl
@[simp] theorem State.retire_l1 : (s.retire n).l1 = s.l1 := rfl
@[simp] theorem State.retire_l2 : (s.retire n).l2 = s.l2 := rfl
@[simp] theorem State.retire_l3 : (s.retire n).l3 = s.l3 := rfl
@[simp] theorem State.retire_cacheUses : (s.retire n).cacheUses = s.cacheUses := rfl
@[simp] theorem State.retire_walks : (s.retire n).walks = s.walks := rfl
@[simp] theorem State.retire_watches : (s.retire n).watches = s.watches := rfl
@[simp] theorem State.retire_reservations : (s.retire n).reservations = s.reservations := rfl
@[simp] theorem State.retire_tiles : (s.retire n).tiles = s.tiles := rfl
@[simp] theorem State.retire_tilesInFlight : (s.retire n).tilesInFlight = s.tilesInFlight := rfl
@[simp] theorem State.retire_poisoned : (s.retire n).poisoned = s.poisoned := rfl
@[simp] theorem State.retire_images : (s.retire n).images = s.images := rfl
@[simp] theorem State.retire_sealedLines : (s.retire n).sealedLines = s.sealedLines := rfl
@[simp] theorem State.retire_launches : (s.retire n).launches = s.launches := rfl
@[simp] theorem State.retire_stackRanges : (s.retire n).stackRanges = s.stackRanges := rfl
@[simp] theorem State.retire_endedRecords : (s.retire n).endedRecords = s.endedRecords := rfl
@[simp] theorem State.retire_decremented : (s.retire n).decremented = s.decremented := rfl
@[simp] theorem State.retire_rechecked : (s.retire n).rechecked = s.rechecked := rfl
@[simp] theorem State.retire_roundTick : (s.retire n).roundTick = s.roundTick := rfl
@[simp] theorem State.retire_trust : (s.retire n).trust = s.trust := rfl
@[simp] theorem State.retire_modStore : (s.retire n).modStore = s.modStore := rfl
@[simp] theorem State.retire_nslot : (s.retire n).nslot = s.nslot := rfl
@[simp] theorem State.retire_ctlq : (s.retire n).ctlq = s.ctlq := rfl
@[simp] theorem State.retire_groups : (s.retire n).groups = s.groups := rfl
@[simp] theorem State.retire_destGroups : (s.retire n).destGroups = s.destGroups := rfl
@[simp] theorem State.retire_staging : (s.retire n).staging = s.staging := rfl
@[simp] theorem State.retire_routes : (s.retire n).routes = s.routes := rfl
@[simp] theorem State.retire_waiting : (s.retire n).waiting = s.waiting := rfl
@[simp] theorem State.retire_portTurns : (s.retire n).portTurns = s.portTurns := rfl
@[simp] theorem State.retire_sends : (s.retire n).sends = s.sends := rfl
@[simp] theorem State.retire_qps : (s.retire n).qps = s.qps := rfl
@[simp] theorem State.retire_srqBuffers : (s.retire n).srqBuffers = s.srqBuffers := rfl
@[simp] theorem State.retire_shootdown : (s.retire n).shootdown = s.shootdown := rfl
@[simp] theorem State.retire_foreignShootdowns : (s.retire n).foreignShootdowns = s.foreignShootdowns := rfl
@[simp] theorem State.retire_security : (s.retire n).security = s.security := rfl
@[simp] theorem State.retire_outbox : (s.retire n).outbox = s.outbox := rfl
@[simp] theorem State.retire_moves : (s.retire n).moves = s.moves := rfl
@[simp] theorem State.retire_here : (s.retire n).here = s.here := rfl
@[simp] theorem State.retire_cur : (s.retire n).cur = s.cur := rfl
@[simp] theorem State.retire_deferred : (s.retire n).deferred = s.deferred := rfl
@[simp] theorem State.retire_fresh : (s.retire n).fresh = s.fresh := rfl
@[simp] theorem State.retire_heldTraces : (s.retire n).heldTraces = s.heldTraces := rfl
end

section
variable (s : State) (a : BitVec 24)
@[simp] theorem State.retireAt_benches : (s.retireAt a).benches = s.benches := rfl
@[simp] theorem State.retireAt_clusters : (s.retireAt a).clusters = s.clusters := rfl
@[simp] theorem State.retireAt_lds : (s.retireAt a).lds = s.lds := rfl
@[simp] theorem State.retireAt_chip : (s.retireAt a).chip = s.chip := rfl
@[simp] theorem State.retireAt_mem : (s.retireAt a).mem = s.mem := rfl
@[simp] theorem State.retireAt_drained : (s.retireAt a).drained = s.drained := rfl
@[simp] theorem State.retireAt_l1 : (s.retireAt a).l1 = s.l1 := rfl
@[simp] theorem State.retireAt_l2 : (s.retireAt a).l2 = s.l2 := rfl
@[simp] theorem State.retireAt_l3 : (s.retireAt a).l3 = s.l3 := rfl
@[simp] theorem State.retireAt_cacheUses : (s.retireAt a).cacheUses = s.cacheUses := rfl
@[simp] theorem State.retireAt_walks : (s.retireAt a).walks = s.walks := rfl
@[simp] theorem State.retireAt_watches : (s.retireAt a).watches = s.watches := rfl
@[simp] theorem State.retireAt_reservations : (s.retireAt a).reservations = s.reservations := rfl
@[simp] theorem State.retireAt_tiles : (s.retireAt a).tiles = s.tiles := rfl
@[simp] theorem State.retireAt_tilesInFlight : (s.retireAt a).tilesInFlight = s.tilesInFlight := rfl
@[simp] theorem State.retireAt_poisoned : (s.retireAt a).poisoned = s.poisoned := rfl
@[simp] theorem State.retireAt_images : (s.retireAt a).images = s.images := rfl
@[simp] theorem State.retireAt_sealedLines : (s.retireAt a).sealedLines = s.sealedLines := rfl
@[simp] theorem State.retireAt_launches : (s.retireAt a).launches = s.launches := rfl
@[simp] theorem State.retireAt_stackRanges : (s.retireAt a).stackRanges = s.stackRanges := rfl
@[simp] theorem State.retireAt_endedRecords : (s.retireAt a).endedRecords = s.endedRecords := rfl
@[simp] theorem State.retireAt_decremented : (s.retireAt a).decremented = s.decremented := rfl
@[simp] theorem State.retireAt_rechecked : (s.retireAt a).rechecked = s.rechecked := rfl
@[simp] theorem State.retireAt_roundTick : (s.retireAt a).roundTick = s.roundTick := rfl
@[simp] theorem State.retireAt_trust : (s.retireAt a).trust = s.trust := rfl
@[simp] theorem State.retireAt_modStore : (s.retireAt a).modStore = s.modStore := rfl
@[simp] theorem State.retireAt_nslot : (s.retireAt a).nslot = s.nslot := rfl
@[simp] theorem State.retireAt_ctlq : (s.retireAt a).ctlq = s.ctlq := rfl
@[simp] theorem State.retireAt_groups : (s.retireAt a).groups = s.groups := rfl
@[simp] theorem State.retireAt_destGroups : (s.retireAt a).destGroups = s.destGroups := rfl
@[simp] theorem State.retireAt_staging : (s.retireAt a).staging = s.staging := rfl
@[simp] theorem State.retireAt_routes : (s.retireAt a).routes = s.routes := rfl
@[simp] theorem State.retireAt_waiting : (s.retireAt a).waiting = s.waiting := rfl
@[simp] theorem State.retireAt_portTurns : (s.retireAt a).portTurns = s.portTurns := rfl
@[simp] theorem State.retireAt_sends : (s.retireAt a).sends = s.sends := rfl
@[simp] theorem State.retireAt_qps : (s.retireAt a).qps = s.qps := rfl
@[simp] theorem State.retireAt_srqBuffers : (s.retireAt a).srqBuffers = s.srqBuffers := rfl
@[simp] theorem State.retireAt_shootdown : (s.retireAt a).shootdown = s.shootdown := rfl
@[simp] theorem State.retireAt_foreignShootdowns : (s.retireAt a).foreignShootdowns = s.foreignShootdowns := rfl
@[simp] theorem State.retireAt_security : (s.retireAt a).security = s.security := rfl
@[simp] theorem State.retireAt_outbox : (s.retireAt a).outbox = s.outbox := rfl
@[simp] theorem State.retireAt_moves : (s.retireAt a).moves = s.moves := rfl
@[simp] theorem State.retireAt_here : (s.retireAt a).here = s.here := rfl
@[simp] theorem State.retireAt_cur : (s.retireAt a).cur = s.cur := rfl
@[simp] theorem State.retireAt_deferred : (s.retireAt a).deferred = s.deferred := rfl
@[simp] theorem State.retireAt_fresh : (s.retireAt a).fresh = s.fresh := rfl
@[simp] theorem State.retireAt_heldTraces : (s.retireAt a).heldTraces = s.heldTraces := rfl
end

/-! ## Updates of benches, clusters, logical devices and tiles -/

section
variable (s : State) (b : Nat) (k : Bench)
@[simp] theorem State.setBench_cores : (s.setBench b k).cores = s.cores := rfl
@[simp] theorem State.setBench_clusters : (s.setBench b k).clusters = s.clusters := rfl
@[simp] theorem State.setBench_lds : (s.setBench b k).lds = s.lds := rfl
@[simp] theorem State.setBench_chip : (s.setBench b k).chip = s.chip := rfl
@[simp] theorem State.setBench_mem : (s.setBench b k).mem = s.mem := rfl
@[simp] theorem State.setBench_drained : (s.setBench b k).drained = s.drained := rfl
@[simp] theorem State.setBench_l1 : (s.setBench b k).l1 = s.l1 := rfl
@[simp] theorem State.setBench_l2 : (s.setBench b k).l2 = s.l2 := rfl
@[simp] theorem State.setBench_l3 : (s.setBench b k).l3 = s.l3 := rfl
@[simp] theorem State.setBench_cacheUses : (s.setBench b k).cacheUses = s.cacheUses := rfl
@[simp] theorem State.setBench_walks : (s.setBench b k).walks = s.walks := rfl
@[simp] theorem State.setBench_watches : (s.setBench b k).watches = s.watches := rfl
@[simp] theorem State.setBench_reservations : (s.setBench b k).reservations = s.reservations := rfl
@[simp] theorem State.setBench_tiles : (s.setBench b k).tiles = s.tiles := rfl
@[simp] theorem State.setBench_tilesInFlight : (s.setBench b k).tilesInFlight = s.tilesInFlight := rfl
@[simp] theorem State.setBench_poisoned : (s.setBench b k).poisoned = s.poisoned := rfl
@[simp] theorem State.setBench_images : (s.setBench b k).images = s.images := rfl
@[simp] theorem State.setBench_sealedLines : (s.setBench b k).sealedLines = s.sealedLines := rfl
@[simp] theorem State.setBench_launches : (s.setBench b k).launches = s.launches := rfl
@[simp] theorem State.setBench_stackRanges : (s.setBench b k).stackRanges = s.stackRanges := rfl
@[simp] theorem State.setBench_endedRecords : (s.setBench b k).endedRecords = s.endedRecords := rfl
@[simp] theorem State.setBench_decremented : (s.setBench b k).decremented = s.decremented := rfl
@[simp] theorem State.setBench_rechecked : (s.setBench b k).rechecked = s.rechecked := rfl
@[simp] theorem State.setBench_roundTick : (s.setBench b k).roundTick = s.roundTick := rfl
@[simp] theorem State.setBench_trust : (s.setBench b k).trust = s.trust := rfl
@[simp] theorem State.setBench_modStore : (s.setBench b k).modStore = s.modStore := rfl
@[simp] theorem State.setBench_nslot : (s.setBench b k).nslot = s.nslot := rfl
@[simp] theorem State.setBench_ctlq : (s.setBench b k).ctlq = s.ctlq := rfl
@[simp] theorem State.setBench_groups : (s.setBench b k).groups = s.groups := rfl
@[simp] theorem State.setBench_destGroups : (s.setBench b k).destGroups = s.destGroups := rfl
@[simp] theorem State.setBench_staging : (s.setBench b k).staging = s.staging := rfl
@[simp] theorem State.setBench_routes : (s.setBench b k).routes = s.routes := rfl
@[simp] theorem State.setBench_waiting : (s.setBench b k).waiting = s.waiting := rfl
@[simp] theorem State.setBench_portTurns : (s.setBench b k).portTurns = s.portTurns := rfl
@[simp] theorem State.setBench_sends : (s.setBench b k).sends = s.sends := rfl
@[simp] theorem State.setBench_qps : (s.setBench b k).qps = s.qps := rfl
@[simp] theorem State.setBench_srqBuffers : (s.setBench b k).srqBuffers = s.srqBuffers := rfl
@[simp] theorem State.setBench_shootdown : (s.setBench b k).shootdown = s.shootdown := rfl
@[simp] theorem State.setBench_foreignShootdowns : (s.setBench b k).foreignShootdowns = s.foreignShootdowns := rfl
@[simp] theorem State.setBench_security : (s.setBench b k).security = s.security := rfl
@[simp] theorem State.setBench_outbox : (s.setBench b k).outbox = s.outbox := rfl
@[simp] theorem State.setBench_moves : (s.setBench b k).moves = s.moves := rfl
@[simp] theorem State.setBench_here : (s.setBench b k).here = s.here := rfl
@[simp] theorem State.setBench_cur : (s.setBench b k).cur = s.cur := rfl
@[simp] theorem State.setBench_deferred : (s.setBench b k).deferred = s.deferred := rfl
@[simp] theorem State.setBench_fresh : (s.setBench b k).fresh = s.fresh := rfl
@[simp] theorem State.setBench_retired : (s.setBench b k).retired = s.retired := rfl
@[simp] theorem State.setBench_heldTraces : (s.setBench b k).heldTraces = s.heldTraces := rfl
end

section
variable (s : State) (b : Nat) (f : Bench → Bench)
@[simp] theorem State.modBench_cores : (s.modBench b f).cores = s.cores := rfl
@[simp] theorem State.modBench_clusters : (s.modBench b f).clusters = s.clusters := rfl
@[simp] theorem State.modBench_lds : (s.modBench b f).lds = s.lds := rfl
@[simp] theorem State.modBench_chip : (s.modBench b f).chip = s.chip := rfl
@[simp] theorem State.modBench_mem : (s.modBench b f).mem = s.mem := rfl
@[simp] theorem State.modBench_drained : (s.modBench b f).drained = s.drained := rfl
@[simp] theorem State.modBench_l1 : (s.modBench b f).l1 = s.l1 := rfl
@[simp] theorem State.modBench_l2 : (s.modBench b f).l2 = s.l2 := rfl
@[simp] theorem State.modBench_l3 : (s.modBench b f).l3 = s.l3 := rfl
@[simp] theorem State.modBench_cacheUses : (s.modBench b f).cacheUses = s.cacheUses := rfl
@[simp] theorem State.modBench_walks : (s.modBench b f).walks = s.walks := rfl
@[simp] theorem State.modBench_watches : (s.modBench b f).watches = s.watches := rfl
@[simp] theorem State.modBench_reservations : (s.modBench b f).reservations = s.reservations := rfl
@[simp] theorem State.modBench_tiles : (s.modBench b f).tiles = s.tiles := rfl
@[simp] theorem State.modBench_tilesInFlight : (s.modBench b f).tilesInFlight = s.tilesInFlight := rfl
@[simp] theorem State.modBench_poisoned : (s.modBench b f).poisoned = s.poisoned := rfl
@[simp] theorem State.modBench_images : (s.modBench b f).images = s.images := rfl
@[simp] theorem State.modBench_sealedLines : (s.modBench b f).sealedLines = s.sealedLines := rfl
@[simp] theorem State.modBench_launches : (s.modBench b f).launches = s.launches := rfl
@[simp] theorem State.modBench_stackRanges : (s.modBench b f).stackRanges = s.stackRanges := rfl
@[simp] theorem State.modBench_endedRecords : (s.modBench b f).endedRecords = s.endedRecords := rfl
@[simp] theorem State.modBench_decremented : (s.modBench b f).decremented = s.decremented := rfl
@[simp] theorem State.modBench_rechecked : (s.modBench b f).rechecked = s.rechecked := rfl
@[simp] theorem State.modBench_roundTick : (s.modBench b f).roundTick = s.roundTick := rfl
@[simp] theorem State.modBench_trust : (s.modBench b f).trust = s.trust := rfl
@[simp] theorem State.modBench_modStore : (s.modBench b f).modStore = s.modStore := rfl
@[simp] theorem State.modBench_nslot : (s.modBench b f).nslot = s.nslot := rfl
@[simp] theorem State.modBench_ctlq : (s.modBench b f).ctlq = s.ctlq := rfl
@[simp] theorem State.modBench_groups : (s.modBench b f).groups = s.groups := rfl
@[simp] theorem State.modBench_destGroups : (s.modBench b f).destGroups = s.destGroups := rfl
@[simp] theorem State.modBench_staging : (s.modBench b f).staging = s.staging := rfl
@[simp] theorem State.modBench_routes : (s.modBench b f).routes = s.routes := rfl
@[simp] theorem State.modBench_waiting : (s.modBench b f).waiting = s.waiting := rfl
@[simp] theorem State.modBench_portTurns : (s.modBench b f).portTurns = s.portTurns := rfl
@[simp] theorem State.modBench_sends : (s.modBench b f).sends = s.sends := rfl
@[simp] theorem State.modBench_qps : (s.modBench b f).qps = s.qps := rfl
@[simp] theorem State.modBench_srqBuffers : (s.modBench b f).srqBuffers = s.srqBuffers := rfl
@[simp] theorem State.modBench_shootdown : (s.modBench b f).shootdown = s.shootdown := rfl
@[simp] theorem State.modBench_foreignShootdowns : (s.modBench b f).foreignShootdowns = s.foreignShootdowns := rfl
@[simp] theorem State.modBench_security : (s.modBench b f).security = s.security := rfl
@[simp] theorem State.modBench_outbox : (s.modBench b f).outbox = s.outbox := rfl
@[simp] theorem State.modBench_moves : (s.modBench b f).moves = s.moves := rfl
@[simp] theorem State.modBench_here : (s.modBench b f).here = s.here := rfl
@[simp] theorem State.modBench_cur : (s.modBench b f).cur = s.cur := rfl
@[simp] theorem State.modBench_deferred : (s.modBench b f).deferred = s.deferred := rfl
@[simp] theorem State.modBench_fresh : (s.modBench b f).fresh = s.fresh := rfl
@[simp] theorem State.modBench_retired : (s.modBench b f).retired = s.retired := rfl
@[simp] theorem State.modBench_heldTraces : (s.modBench b f).heldTraces = s.heldTraces := rfl
end

section
variable (s : State) (l : Nat) (f : Cluster → Cluster)
@[simp] theorem State.modCluster_cores : (s.modCluster l f).cores = s.cores := rfl
@[simp] theorem State.modCluster_benches : (s.modCluster l f).benches = s.benches := rfl
@[simp] theorem State.modCluster_lds : (s.modCluster l f).lds = s.lds := rfl
@[simp] theorem State.modCluster_chip : (s.modCluster l f).chip = s.chip := rfl
@[simp] theorem State.modCluster_mem : (s.modCluster l f).mem = s.mem := rfl
@[simp] theorem State.modCluster_drained : (s.modCluster l f).drained = s.drained := rfl
@[simp] theorem State.modCluster_l1 : (s.modCluster l f).l1 = s.l1 := rfl
@[simp] theorem State.modCluster_l2 : (s.modCluster l f).l2 = s.l2 := rfl
@[simp] theorem State.modCluster_l3 : (s.modCluster l f).l3 = s.l3 := rfl
@[simp] theorem State.modCluster_cacheUses : (s.modCluster l f).cacheUses = s.cacheUses := rfl
@[simp] theorem State.modCluster_walks : (s.modCluster l f).walks = s.walks := rfl
@[simp] theorem State.modCluster_watches : (s.modCluster l f).watches = s.watches := rfl
@[simp] theorem State.modCluster_reservations : (s.modCluster l f).reservations = s.reservations := rfl
@[simp] theorem State.modCluster_tiles : (s.modCluster l f).tiles = s.tiles := rfl
@[simp] theorem State.modCluster_tilesInFlight : (s.modCluster l f).tilesInFlight = s.tilesInFlight := rfl
@[simp] theorem State.modCluster_poisoned : (s.modCluster l f).poisoned = s.poisoned := rfl
@[simp] theorem State.modCluster_images : (s.modCluster l f).images = s.images := rfl
@[simp] theorem State.modCluster_sealedLines : (s.modCluster l f).sealedLines = s.sealedLines := rfl
@[simp] theorem State.modCluster_launches : (s.modCluster l f).launches = s.launches := rfl
@[simp] theorem State.modCluster_stackRanges : (s.modCluster l f).stackRanges = s.stackRanges := rfl
@[simp] theorem State.modCluster_endedRecords : (s.modCluster l f).endedRecords = s.endedRecords := rfl
@[simp] theorem State.modCluster_decremented : (s.modCluster l f).decremented = s.decremented := rfl
@[simp] theorem State.modCluster_rechecked : (s.modCluster l f).rechecked = s.rechecked := rfl
@[simp] theorem State.modCluster_roundTick : (s.modCluster l f).roundTick = s.roundTick := rfl
@[simp] theorem State.modCluster_trust : (s.modCluster l f).trust = s.trust := rfl
@[simp] theorem State.modCluster_modStore : (s.modCluster l f).modStore = s.modStore := rfl
@[simp] theorem State.modCluster_nslot : (s.modCluster l f).nslot = s.nslot := rfl
@[simp] theorem State.modCluster_ctlq : (s.modCluster l f).ctlq = s.ctlq := rfl
@[simp] theorem State.modCluster_groups : (s.modCluster l f).groups = s.groups := rfl
@[simp] theorem State.modCluster_destGroups : (s.modCluster l f).destGroups = s.destGroups := rfl
@[simp] theorem State.modCluster_staging : (s.modCluster l f).staging = s.staging := rfl
@[simp] theorem State.modCluster_routes : (s.modCluster l f).routes = s.routes := rfl
@[simp] theorem State.modCluster_waiting : (s.modCluster l f).waiting = s.waiting := rfl
@[simp] theorem State.modCluster_portTurns : (s.modCluster l f).portTurns = s.portTurns := rfl
@[simp] theorem State.modCluster_sends : (s.modCluster l f).sends = s.sends := rfl
@[simp] theorem State.modCluster_qps : (s.modCluster l f).qps = s.qps := rfl
@[simp] theorem State.modCluster_srqBuffers : (s.modCluster l f).srqBuffers = s.srqBuffers := rfl
@[simp] theorem State.modCluster_shootdown : (s.modCluster l f).shootdown = s.shootdown := rfl
@[simp] theorem State.modCluster_foreignShootdowns : (s.modCluster l f).foreignShootdowns = s.foreignShootdowns := rfl
@[simp] theorem State.modCluster_security : (s.modCluster l f).security = s.security := rfl
@[simp] theorem State.modCluster_outbox : (s.modCluster l f).outbox = s.outbox := rfl
@[simp] theorem State.modCluster_moves : (s.modCluster l f).moves = s.moves := rfl
@[simp] theorem State.modCluster_here : (s.modCluster l f).here = s.here := rfl
@[simp] theorem State.modCluster_cur : (s.modCluster l f).cur = s.cur := rfl
@[simp] theorem State.modCluster_deferred : (s.modCluster l f).deferred = s.deferred := rfl
@[simp] theorem State.modCluster_fresh : (s.modCluster l f).fresh = s.fresh := rfl
@[simp] theorem State.modCluster_retired : (s.modCluster l f).retired = s.retired := rfl
@[simp] theorem State.modCluster_heldTraces : (s.modCluster l f).heldTraces = s.heldTraces := rfl
end

section
variable (s : State) (n : Nat) (f : Ld → Ld)
@[simp] theorem State.modLd_cores : (s.modLd n f).cores = s.cores := rfl
@[simp] theorem State.modLd_benches : (s.modLd n f).benches = s.benches := rfl
@[simp] theorem State.modLd_clusters : (s.modLd n f).clusters = s.clusters := rfl
@[simp] theorem State.modLd_chip : (s.modLd n f).chip = s.chip := rfl
@[simp] theorem State.modLd_mem : (s.modLd n f).mem = s.mem := rfl
@[simp] theorem State.modLd_drained : (s.modLd n f).drained = s.drained := rfl
@[simp] theorem State.modLd_l1 : (s.modLd n f).l1 = s.l1 := rfl
@[simp] theorem State.modLd_l2 : (s.modLd n f).l2 = s.l2 := rfl
@[simp] theorem State.modLd_l3 : (s.modLd n f).l3 = s.l3 := rfl
@[simp] theorem State.modLd_cacheUses : (s.modLd n f).cacheUses = s.cacheUses := rfl
@[simp] theorem State.modLd_walks : (s.modLd n f).walks = s.walks := rfl
@[simp] theorem State.modLd_watches : (s.modLd n f).watches = s.watches := rfl
@[simp] theorem State.modLd_reservations : (s.modLd n f).reservations = s.reservations := rfl
@[simp] theorem State.modLd_tiles : (s.modLd n f).tiles = s.tiles := rfl
@[simp] theorem State.modLd_tilesInFlight : (s.modLd n f).tilesInFlight = s.tilesInFlight := rfl
@[simp] theorem State.modLd_poisoned : (s.modLd n f).poisoned = s.poisoned := rfl
@[simp] theorem State.modLd_images : (s.modLd n f).images = s.images := rfl
@[simp] theorem State.modLd_sealedLines : (s.modLd n f).sealedLines = s.sealedLines := rfl
@[simp] theorem State.modLd_launches : (s.modLd n f).launches = s.launches := rfl
@[simp] theorem State.modLd_stackRanges : (s.modLd n f).stackRanges = s.stackRanges := rfl
@[simp] theorem State.modLd_endedRecords : (s.modLd n f).endedRecords = s.endedRecords := rfl
@[simp] theorem State.modLd_decremented : (s.modLd n f).decremented = s.decremented := rfl
@[simp] theorem State.modLd_rechecked : (s.modLd n f).rechecked = s.rechecked := rfl
@[simp] theorem State.modLd_roundTick : (s.modLd n f).roundTick = s.roundTick := rfl
@[simp] theorem State.modLd_trust : (s.modLd n f).trust = s.trust := rfl
@[simp] theorem State.modLd_modStore : (s.modLd n f).modStore = s.modStore := rfl
@[simp] theorem State.modLd_nslot : (s.modLd n f).nslot = s.nslot := rfl
@[simp] theorem State.modLd_ctlq : (s.modLd n f).ctlq = s.ctlq := rfl
@[simp] theorem State.modLd_groups : (s.modLd n f).groups = s.groups := rfl
@[simp] theorem State.modLd_destGroups : (s.modLd n f).destGroups = s.destGroups := rfl
@[simp] theorem State.modLd_staging : (s.modLd n f).staging = s.staging := rfl
@[simp] theorem State.modLd_routes : (s.modLd n f).routes = s.routes := rfl
@[simp] theorem State.modLd_waiting : (s.modLd n f).waiting = s.waiting := rfl
@[simp] theorem State.modLd_portTurns : (s.modLd n f).portTurns = s.portTurns := rfl
@[simp] theorem State.modLd_sends : (s.modLd n f).sends = s.sends := rfl
@[simp] theorem State.modLd_qps : (s.modLd n f).qps = s.qps := rfl
@[simp] theorem State.modLd_srqBuffers : (s.modLd n f).srqBuffers = s.srqBuffers := rfl
@[simp] theorem State.modLd_shootdown : (s.modLd n f).shootdown = s.shootdown := rfl
@[simp] theorem State.modLd_foreignShootdowns : (s.modLd n f).foreignShootdowns = s.foreignShootdowns := rfl
@[simp] theorem State.modLd_security : (s.modLd n f).security = s.security := rfl
@[simp] theorem State.modLd_outbox : (s.modLd n f).outbox = s.outbox := rfl
@[simp] theorem State.modLd_moves : (s.modLd n f).moves = s.moves := rfl
@[simp] theorem State.modLd_here : (s.modLd n f).here = s.here := rfl
@[simp] theorem State.modLd_cur : (s.modLd n f).cur = s.cur := rfl
@[simp] theorem State.modLd_deferred : (s.modLd n f).deferred = s.deferred := rfl
@[simp] theorem State.modLd_fresh : (s.modLd n f).fresh = s.fresh := rfl
@[simp] theorem State.modLd_retired : (s.modLd n f).retired = s.retired := rfl
@[simp] theorem State.modLd_heldTraces : (s.modLd n f).heldTraces = s.heldTraces := rfl
end

section
variable (s : State) (t : Nat) (x : Tile)
@[simp] theorem State.setTile_cores : (s.setTile t x).cores = s.cores := rfl
@[simp] theorem State.setTile_benches : (s.setTile t x).benches = s.benches := rfl
@[simp] theorem State.setTile_clusters : (s.setTile t x).clusters = s.clusters := rfl
@[simp] theorem State.setTile_lds : (s.setTile t x).lds = s.lds := rfl
@[simp] theorem State.setTile_chip : (s.setTile t x).chip = s.chip := rfl
@[simp] theorem State.setTile_mem : (s.setTile t x).mem = s.mem := rfl
@[simp] theorem State.setTile_drained : (s.setTile t x).drained = s.drained := rfl
@[simp] theorem State.setTile_l1 : (s.setTile t x).l1 = s.l1 := rfl
@[simp] theorem State.setTile_l2 : (s.setTile t x).l2 = s.l2 := rfl
@[simp] theorem State.setTile_l3 : (s.setTile t x).l3 = s.l3 := rfl
@[simp] theorem State.setTile_cacheUses : (s.setTile t x).cacheUses = s.cacheUses := rfl
@[simp] theorem State.setTile_walks : (s.setTile t x).walks = s.walks := rfl
@[simp] theorem State.setTile_watches : (s.setTile t x).watches = s.watches := rfl
@[simp] theorem State.setTile_reservations : (s.setTile t x).reservations = s.reservations := rfl
@[simp] theorem State.setTile_tilesInFlight : (s.setTile t x).tilesInFlight = s.tilesInFlight := rfl
@[simp] theorem State.setTile_poisoned : (s.setTile t x).poisoned = s.poisoned := rfl
@[simp] theorem State.setTile_images : (s.setTile t x).images = s.images := rfl
@[simp] theorem State.setTile_sealedLines : (s.setTile t x).sealedLines = s.sealedLines := rfl
@[simp] theorem State.setTile_launches : (s.setTile t x).launches = s.launches := rfl
@[simp] theorem State.setTile_stackRanges : (s.setTile t x).stackRanges = s.stackRanges := rfl
@[simp] theorem State.setTile_endedRecords : (s.setTile t x).endedRecords = s.endedRecords := rfl
@[simp] theorem State.setTile_decremented : (s.setTile t x).decremented = s.decremented := rfl
@[simp] theorem State.setTile_rechecked : (s.setTile t x).rechecked = s.rechecked := rfl
@[simp] theorem State.setTile_roundTick : (s.setTile t x).roundTick = s.roundTick := rfl
@[simp] theorem State.setTile_trust : (s.setTile t x).trust = s.trust := rfl
@[simp] theorem State.setTile_modStore : (s.setTile t x).modStore = s.modStore := rfl
@[simp] theorem State.setTile_nslot : (s.setTile t x).nslot = s.nslot := rfl
@[simp] theorem State.setTile_ctlq : (s.setTile t x).ctlq = s.ctlq := rfl
@[simp] theorem State.setTile_groups : (s.setTile t x).groups = s.groups := rfl
@[simp] theorem State.setTile_destGroups : (s.setTile t x).destGroups = s.destGroups := rfl
@[simp] theorem State.setTile_staging : (s.setTile t x).staging = s.staging := rfl
@[simp] theorem State.setTile_routes : (s.setTile t x).routes = s.routes := rfl
@[simp] theorem State.setTile_waiting : (s.setTile t x).waiting = s.waiting := rfl
@[simp] theorem State.setTile_portTurns : (s.setTile t x).portTurns = s.portTurns := rfl
@[simp] theorem State.setTile_sends : (s.setTile t x).sends = s.sends := rfl
@[simp] theorem State.setTile_qps : (s.setTile t x).qps = s.qps := rfl
@[simp] theorem State.setTile_srqBuffers : (s.setTile t x).srqBuffers = s.srqBuffers := rfl
@[simp] theorem State.setTile_shootdown : (s.setTile t x).shootdown = s.shootdown := rfl
@[simp] theorem State.setTile_foreignShootdowns : (s.setTile t x).foreignShootdowns = s.foreignShootdowns := rfl
@[simp] theorem State.setTile_security : (s.setTile t x).security = s.security := rfl
@[simp] theorem State.setTile_outbox : (s.setTile t x).outbox = s.outbox := rfl
@[simp] theorem State.setTile_moves : (s.setTile t x).moves = s.moves := rfl
@[simp] theorem State.setTile_here : (s.setTile t x).here = s.here := rfl
@[simp] theorem State.setTile_cur : (s.setTile t x).cur = s.cur := rfl
@[simp] theorem State.setTile_deferred : (s.setTile t x).deferred = s.deferred := rfl
@[simp] theorem State.setTile_fresh : (s.setTile t x).fresh = s.fresh := rfl
@[simp] theorem State.setTile_retired : (s.setTile t x).retired = s.retired := rfl
@[simp] theorem State.setTile_heldTraces : (s.setTile t x).heldTraces = s.heldTraces := rfl
end

/-! ## Updates of a core -/

section
variable (k : Core) (i : Nat) (t : Strand)
@[simp] theorem Core.setStrand_last : (k.setStrand i t).last = k.last := rfl
@[simp] theorem Core.setStrand_stall : (k.setStrand i t).stall = k.stall := rfl
@[simp] theorem Core.setStrand_stopping : (k.setStrand i t).stopping = k.stopping := rfl
@[simp] theorem Core.setStrand_cycle : (k.setStrand i t).cycle = k.cycle := rfl
@[simp] theorem Core.setStrand_vshare : (k.setStrand i t).vshare = k.vshare := rfl
@[simp] theorem Core.setStrand_evsel : (k.setStrand i t).evsel = k.evsel := rfl
@[simp] theorem Core.setStrand_evcnt : (k.setStrand i t).evcnt = k.evcnt := rfl
@[simp] theorem Core.setStrand_evallow : (k.setStrand i t).evallow = k.evallow := rfl
@[simp] theorem Core.setStrand_evmode : (k.setStrand i t).evmode = k.evmode := rfl
@[simp] theorem Core.setStrand_ovf : (k.setStrand i t).ovf = k.ovf := rfl
@[simp] theorem Core.setStrand_satp : (k.setStrand i t).satp = k.satp := rfl
@[simp] theorem Core.setStrand_scounteren : (k.setStrand i t).scounteren = k.scounteren := rfl
@[simp] theorem Core.setStrand_wdesc : (k.setStrand i t).wdesc = k.wdesc := rfl
@[simp] theorem Core.setStrand_vf : (k.setStrand i t).vf = k.vf := rfl
@[simp] theorem Core.setStrand_ld : (k.setStrand i t).ld = k.ld := rfl
@[simp] theorem Core.setStrand_keyslot : (k.setStrand i t).keyslot = k.keyslot := rfl
@[simp] theorem Core.setStrand_launch : (k.setStrand i t).launch = k.launch := rfl
@[simp] theorem Core.setStrand_fdir : (k.setStrand i t).fdir = k.fdir := rfl
@[simp] theorem Core.setStrand_nfdir : (k.setStrand i t).nfdir = k.nfdir := rfl
@[simp] theorem Core.setStrand_modtab : (k.setStrand i t).modtab = k.modtab := rfl
@[simp] theorem Core.setStrand_nmod : (k.setStrand i t).nmod = k.nmod := rfl
@[simp] theorem Core.setStrand_helpers : (k.setStrand i t).helpers = k.helpers := rfl
@[simp] theorem Core.setStrand_spad : (k.setStrand i t).spad = k.spad := rfl
@[simp] theorem Core.setStrand_first : (k.setStrand i t).first = k.first := rfl
@[simp] theorem Core.setStrand_slots : (k.setStrand i t).slots = k.slots := rfl
@[simp] theorem Core.setStrand_slot : (k.setStrand i t).slot = k.slot := rfl
@[simp] theorem Core.setStrand_syscalls : (k.setStrand i t).syscalls = k.syscalls := rfl
@[simp] theorem Core.setStrand_fenced : (k.setStrand i t).fenced = k.fenced := rfl
@[simp] theorem Core.setStrand_completed : (k.setStrand i t).completed = k.completed := rfl
@[simp] theorem Core.setStrand_ticket : (k.setStrand i t).ticket = k.ticket := rfl
@[simp] theorem Core.setStrand_fifos : (k.setStrand i t).fifos = k.fifos := rfl
@[simp] theorem Core.setStrand_rx : (k.setStrand i t).rx = k.rx := rfl
@[simp] theorem Core.setStrand_engineStream : (k.setStrand i t).engineStream = k.engineStream := rfl
@[simp] theorem Core.setStrand_engineOvf : (k.setStrand i t).engineOvf = k.engineOvf := rfl
@[simp] theorem Core.setStrand_combining : (k.setStrand i t).combining = k.combining := rfl
@[simp] theorem Core.setStrand_journal : (k.setStrand i t).journal = k.journal := rfl
@[simp] theorem Core.setStrand_route : (k.setStrand i t).route = k.route := rfl
@[simp] theorem Core.setStrand_channels : (k.setStrand i t).channels = k.channels := rfl
@[simp] theorem Core.setStrand_vqueue : (k.setStrand i t).vqueue = k.vqueue := rfl
@[simp] theorem Core.setStrand_mqueue : (k.setStrand i t).mqueue = k.mqueue := rfl
@[simp] theorem Core.setStrand_mprog : (k.setStrand i t).mprog = k.mprog := rfl
@[simp] theorem Core.setStrand_samask : (k.setStrand i t).samask = k.samask := rfl
@[simp] theorem Core.setStrand_fuse : (k.setStrand i t).fuse = k.fuse := rfl
@[simp] theorem Core.setStrand_tlb : (k.setStrand i t).tlb = k.tlb := rfl
@[simp] theorem Core.setStrand_debugStopped : (k.setStrand i t).debugStopped = k.debugStopped := rfl
end

/-! ## Updates of a strand -/

section
variable (t : Strand) (r : BitVec 5) (w : Word)
@[simp] theorem Strand.writeX_status : (t.writeX r w).status = t.status := by unfold Strand.writeX; split <;> rfl
@[simp] theorem Strand.writeX_v : (t.writeX r w).v = t.v := by unfold Strand.writeX; split <;> rfl
@[simp] theorem Strand.writeX_p : (t.writeX r w).p = t.p := by unfold Strand.writeX; split <;> rfl
@[simp] theorem Strand.writeX_q : (t.writeX r w).q = t.q := by unfold Strand.writeX; split <;> rfl
@[simp] theorem Strand.writeX_vAbsent : (t.writeX r w).vAbsent = t.vAbsent := by unfold Strand.writeX; split <;> rfl
@[simp] theorem Strand.writeX_vDirty : (t.writeX r w).vDirty = t.vDirty := by unfold Strand.writeX; split <;> rfl
@[simp] theorem Strand.writeX_vPoison : (t.writeX r w).vPoison = t.vPoison := by unfold Strand.writeX; split <;> rfl
@[simp] theorem Strand.writeX_curdir : (t.writeX r w).curdir = t.curdir := by unfold Strand.writeX; split <;> rfl
@[simp] theorem Strand.writeX_fpc : (t.writeX r w).fpc = t.fpc := by unfold Strand.writeX; split <;> rfl
@[simp] theorem Strand.writeX_pos : (t.writeX r w).pos = t.pos := by unfold Strand.writeX; split <;> rfl
@[simp] theorem Strand.writeX_heldS : (t.writeX r w).heldS = t.heldS := by unfold Strand.writeX; split <;> rfl
@[simp] theorem Strand.writeX_heldM : (t.writeX r w).heldM = t.heldM := by unfold Strand.writeX; split <;> rfl
@[simp] theorem Strand.writeX_onHold : (t.writeX r w).onHold = t.onHold := by unfold Strand.writeX; split <;> rfl
@[simp] theorem Strand.writeX_priv : (t.writeX r w).priv = t.priv := by unfold Strand.writeX; split <;> rfl
@[simp] theorem Strand.writeX_pp : (t.writeX r w).pp = t.pp := by unfold Strand.writeX; split <;> rfl
@[simp] theorem Strand.writeX_kpfx : (t.writeX r w).kpfx = t.kpfx := by unfold Strand.writeX; split <;> rfl
@[simp] theorem Strand.writeX_vround : (t.writeX r w).vround = t.vround := by unfold Strand.writeX; split <;> rfl
@[simp] theorem Strand.writeX_vfflags : (t.writeX r w).vfflags = t.vfflags := by unfold Strand.writeX; split <;> rfl
@[simp] theorem Strand.writeX_mcfgw : (t.writeX r w).mcfgw = t.mcfgw := by unfold Strand.writeX; split <;> rfl
@[simp] theorem Strand.writeX_mstra : (t.writeX r w).mstra = t.mstra := by unfold Strand.writeX; split <;> rfl
@[simp] theorem Strand.writeX_mstrb : (t.writeX r w).mstrb = t.mstrb := by unfold Strand.writeX; split <;> rfl
@[simp] theorem Strand.writeX_mkLen : (t.writeX r w).mkLen = t.mkLen := by unfold Strand.writeX; split <;> rfl
@[simp] theorem Strand.writeX_mrp : (t.writeX r w).mrp = t.mrp := by unfold Strand.writeX; split <;> rfl
@[simp] theorem Strand.writeX_gsel : (t.writeX r w).gsel = t.gsel := by unfold Strand.writeX; split <;> rfl
@[simp] theorem Strand.writeX_rqprog : (t.writeX r w).rqprog = t.rqprog := by unfold Strand.writeX; split <;> rfl
@[simp] theorem Strand.writeX_instret : (t.writeX r w).instret = t.instret := by unfold Strand.writeX; split <;> rfl
@[simp] theorem Strand.writeX_ctxbase : (t.writeX r w).ctxbase = t.ctxbase := by unfold Strand.writeX; split <;> rfl
@[simp] theorem Strand.writeX_vpeid : (t.writeX r w).vpeid = t.vpeid := by unfold Strand.writeX; split <;> rfl
@[simp] theorem Strand.writeX_vpecnt : (t.writeX r w).vpecnt = t.vpecnt := by unfold Strand.writeX; split <;> rfl
@[simp] theorem Strand.writeX_sstepcnt : (t.writeX r w).sstepcnt = t.sstepcnt := by unfold Strand.writeX; split <;> rfl
@[simp] theorem Strand.writeX_mstatus : (t.writeX r w).mstatus = t.mstatus := by unfold Strand.writeX; split <;> rfl
@[simp] theorem Strand.writeX_sie : (t.writeX r w).sie = t.sie := by unfold Strand.writeX; split <;> rfl
@[simp] theorem Strand.writeX_mie : (t.writeX r w).mie = t.mie := by unfold Strand.writeX; split <;> rfl
@[simp] theorem Strand.writeX_ip : (t.writeX r w).ip = t.ip := by unfold Strand.writeX; split <;> rfl
@[simp] theorem Strand.writeX_stvec : (t.writeX r w).stvec = t.stvec := by unfold Strand.writeX; split <;> rfl
@[simp] theorem Strand.writeX_sscratch : (t.writeX r w).sscratch = t.sscratch := by unfold Strand.writeX; split <;> rfl
@[simp] theorem Strand.writeX_sepc : (t.writeX r w).sepc = t.sepc := by unfold Strand.writeX; split <;> rfl
@[simp] theorem Strand.writeX_scause : (t.writeX r w).scause = t.scause := by unfold Strand.writeX; split <;> rfl
@[simp] theorem Strand.writeX_stval : (t.writeX r w).stval = t.stval := by unfold Strand.writeX; split <;> rfl
@[simp] theorem Strand.writeX_medeleg : (t.writeX r w).medeleg = t.medeleg := by unfold Strand.writeX; split <;> rfl
@[simp] theorem Strand.writeX_mideleg : (t.writeX r w).mideleg = t.mideleg := by unfold Strand.writeX; split <;> rfl
@[simp] theorem Strand.writeX_mtvec : (t.writeX r w).mtvec = t.mtvec := by unfold Strand.writeX; split <;> rfl
@[simp] theorem Strand.writeX_mscratch : (t.writeX r w).mscratch = t.mscratch := by unfold Strand.writeX; split <;> rfl
@[simp] theorem Strand.writeX_mepc : (t.writeX r w).mepc = t.mepc := by unfold Strand.writeX; split <;> rfl
@[simp] theorem Strand.writeX_mcause : (t.writeX r w).mcause = t.mcause := by unfold Strand.writeX; split <;> rfl
@[simp] theorem Strand.writeX_mtval : (t.writeX r w).mtval = t.mtval := by unfold Strand.writeX; split <;> rfl
@[simp] theorem Strand.writeX_mcounteren : (t.writeX r w).mcounteren = t.mcounteren := by unfold Strand.writeX; split <;> rfl
@[simp] theorem Strand.writeX_park : (t.writeX r w).park = t.park := by unfold Strand.writeX; split <;> rfl
@[simp] theorem Strand.writeX_failedWalks : (t.writeX r w).failedWalks = t.failedWalks := by unfold Strand.writeX; split <;> rfl
@[simp] theorem Strand.writeX_storeBuf : (t.writeX r w).storeBuf = t.storeBuf := by unfold Strand.writeX; split <;> rfl
@[simp] theorem Strand.writeX_pending : (t.writeX r w).pending = t.pending := by unfold Strand.writeX; split <;> rfl
end

section
variable (t : Strand) (r : BitVec 5) (l : Line)
@[simp] theorem Strand.writeV_status : (t.writeV r l).status = t.status := rfl
@[simp] theorem Strand.writeV_x : (t.writeV r l).x = t.x := rfl
@[simp] theorem Strand.writeV_p : (t.writeV r l).p = t.p := rfl
@[simp] theorem Strand.writeV_q : (t.writeV r l).q = t.q := rfl
@[simp] theorem Strand.writeV_vAbsent : (t.writeV r l).vAbsent = t.vAbsent := rfl
@[simp] theorem Strand.writeV_curdir : (t.writeV r l).curdir = t.curdir := rfl
@[simp] theorem Strand.writeV_fpc : (t.writeV r l).fpc = t.fpc := rfl
@[simp] theorem Strand.writeV_pos : (t.writeV r l).pos = t.pos := rfl
@[simp] theorem Strand.writeV_heldS : (t.writeV r l).heldS = t.heldS := rfl
@[simp] theorem Strand.writeV_heldM : (t.writeV r l).heldM = t.heldM := rfl
@[simp] theorem Strand.writeV_onHold : (t.writeV r l).onHold = t.onHold := rfl
@[simp] theorem Strand.writeV_priv : (t.writeV r l).priv = t.priv := rfl
@[simp] theorem Strand.writeV_pp : (t.writeV r l).pp = t.pp := rfl
@[simp] theorem Strand.writeV_kpfx : (t.writeV r l).kpfx = t.kpfx := rfl
@[simp] theorem Strand.writeV_vround : (t.writeV r l).vround = t.vround := rfl
@[simp] theorem Strand.writeV_vfflags : (t.writeV r l).vfflags = t.vfflags := rfl
@[simp] theorem Strand.writeV_mcfgw : (t.writeV r l).mcfgw = t.mcfgw := rfl
@[simp] theorem Strand.writeV_mstra : (t.writeV r l).mstra = t.mstra := rfl
@[simp] theorem Strand.writeV_mstrb : (t.writeV r l).mstrb = t.mstrb := rfl
@[simp] theorem Strand.writeV_mkLen : (t.writeV r l).mkLen = t.mkLen := rfl
@[simp] theorem Strand.writeV_mrp : (t.writeV r l).mrp = t.mrp := rfl
@[simp] theorem Strand.writeV_gsel : (t.writeV r l).gsel = t.gsel := rfl
@[simp] theorem Strand.writeV_rqprog : (t.writeV r l).rqprog = t.rqprog := rfl
@[simp] theorem Strand.writeV_instret : (t.writeV r l).instret = t.instret := rfl
@[simp] theorem Strand.writeV_ctxbase : (t.writeV r l).ctxbase = t.ctxbase := rfl
@[simp] theorem Strand.writeV_vpeid : (t.writeV r l).vpeid = t.vpeid := rfl
@[simp] theorem Strand.writeV_vpecnt : (t.writeV r l).vpecnt = t.vpecnt := rfl
@[simp] theorem Strand.writeV_sstepcnt : (t.writeV r l).sstepcnt = t.sstepcnt := rfl
@[simp] theorem Strand.writeV_mstatus : (t.writeV r l).mstatus = t.mstatus := rfl
@[simp] theorem Strand.writeV_sie : (t.writeV r l).sie = t.sie := rfl
@[simp] theorem Strand.writeV_mie : (t.writeV r l).mie = t.mie := rfl
@[simp] theorem Strand.writeV_ip : (t.writeV r l).ip = t.ip := rfl
@[simp] theorem Strand.writeV_stvec : (t.writeV r l).stvec = t.stvec := rfl
@[simp] theorem Strand.writeV_sscratch : (t.writeV r l).sscratch = t.sscratch := rfl
@[simp] theorem Strand.writeV_sepc : (t.writeV r l).sepc = t.sepc := rfl
@[simp] theorem Strand.writeV_scause : (t.writeV r l).scause = t.scause := rfl
@[simp] theorem Strand.writeV_stval : (t.writeV r l).stval = t.stval := rfl
@[simp] theorem Strand.writeV_medeleg : (t.writeV r l).medeleg = t.medeleg := rfl
@[simp] theorem Strand.writeV_mideleg : (t.writeV r l).mideleg = t.mideleg := rfl
@[simp] theorem Strand.writeV_mtvec : (t.writeV r l).mtvec = t.mtvec := rfl
@[simp] theorem Strand.writeV_mscratch : (t.writeV r l).mscratch = t.mscratch := rfl
@[simp] theorem Strand.writeV_mepc : (t.writeV r l).mepc = t.mepc := rfl
@[simp] theorem Strand.writeV_mcause : (t.writeV r l).mcause = t.mcause := rfl
@[simp] theorem Strand.writeV_mtval : (t.writeV r l).mtval = t.mtval := rfl
@[simp] theorem Strand.writeV_mcounteren : (t.writeV r l).mcounteren = t.mcounteren := rfl
@[simp] theorem Strand.writeV_park : (t.writeV r l).park = t.park := rfl
@[simp] theorem Strand.writeV_failedWalks : (t.writeV r l).failedWalks = t.failedWalks := rfl
@[simp] theorem Strand.writeV_storeBuf : (t.writeV r l).storeBuf = t.storeBuf := rfl
@[simp] theorem Strand.writeV_pending : (t.writeV r l).pending = t.pending := rfl
end

section
variable (t : Strand) (r : BitVec 3) (b : Pred)
@[simp] theorem Strand.writeP_status : (t.writeP r b).status = t.status := by unfold Strand.writeP; split <;> rfl
@[simp] theorem Strand.writeP_x : (t.writeP r b).x = t.x := by unfold Strand.writeP; split <;> rfl
@[simp] theorem Strand.writeP_v : (t.writeP r b).v = t.v := by unfold Strand.writeP; split <;> rfl
@[simp] theorem Strand.writeP_q : (t.writeP r b).q = t.q := by unfold Strand.writeP; split <;> rfl
@[simp] theorem Strand.writeP_vAbsent : (t.writeP r b).vAbsent = t.vAbsent := by unfold Strand.writeP; split <;> rfl
@[simp] theorem Strand.writeP_vDirty : (t.writeP r b).vDirty = t.vDirty := by unfold Strand.writeP; split <;> rfl
@[simp] theorem Strand.writeP_vPoison : (t.writeP r b).vPoison = t.vPoison := by unfold Strand.writeP; split <;> rfl
@[simp] theorem Strand.writeP_curdir : (t.writeP r b).curdir = t.curdir := by unfold Strand.writeP; split <;> rfl
@[simp] theorem Strand.writeP_fpc : (t.writeP r b).fpc = t.fpc := by unfold Strand.writeP; split <;> rfl
@[simp] theorem Strand.writeP_pos : (t.writeP r b).pos = t.pos := by unfold Strand.writeP; split <;> rfl
@[simp] theorem Strand.writeP_heldS : (t.writeP r b).heldS = t.heldS := by unfold Strand.writeP; split <;> rfl
@[simp] theorem Strand.writeP_heldM : (t.writeP r b).heldM = t.heldM := by unfold Strand.writeP; split <;> rfl
@[simp] theorem Strand.writeP_onHold : (t.writeP r b).onHold = t.onHold := by unfold Strand.writeP; split <;> rfl
@[simp] theorem Strand.writeP_priv : (t.writeP r b).priv = t.priv := by unfold Strand.writeP; split <;> rfl
@[simp] theorem Strand.writeP_pp : (t.writeP r b).pp = t.pp := by unfold Strand.writeP; split <;> rfl
@[simp] theorem Strand.writeP_kpfx : (t.writeP r b).kpfx = t.kpfx := by unfold Strand.writeP; split <;> rfl
@[simp] theorem Strand.writeP_vround : (t.writeP r b).vround = t.vround := by unfold Strand.writeP; split <;> rfl
@[simp] theorem Strand.writeP_vfflags : (t.writeP r b).vfflags = t.vfflags := by unfold Strand.writeP; split <;> rfl
@[simp] theorem Strand.writeP_mcfgw : (t.writeP r b).mcfgw = t.mcfgw := by unfold Strand.writeP; split <;> rfl
@[simp] theorem Strand.writeP_mstra : (t.writeP r b).mstra = t.mstra := by unfold Strand.writeP; split <;> rfl
@[simp] theorem Strand.writeP_mstrb : (t.writeP r b).mstrb = t.mstrb := by unfold Strand.writeP; split <;> rfl
@[simp] theorem Strand.writeP_mkLen : (t.writeP r b).mkLen = t.mkLen := by unfold Strand.writeP; split <;> rfl
@[simp] theorem Strand.writeP_mrp : (t.writeP r b).mrp = t.mrp := by unfold Strand.writeP; split <;> rfl
@[simp] theorem Strand.writeP_gsel : (t.writeP r b).gsel = t.gsel := by unfold Strand.writeP; split <;> rfl
@[simp] theorem Strand.writeP_rqprog : (t.writeP r b).rqprog = t.rqprog := by unfold Strand.writeP; split <;> rfl
@[simp] theorem Strand.writeP_instret : (t.writeP r b).instret = t.instret := by unfold Strand.writeP; split <;> rfl
@[simp] theorem Strand.writeP_ctxbase : (t.writeP r b).ctxbase = t.ctxbase := by unfold Strand.writeP; split <;> rfl
@[simp] theorem Strand.writeP_vpeid : (t.writeP r b).vpeid = t.vpeid := by unfold Strand.writeP; split <;> rfl
@[simp] theorem Strand.writeP_vpecnt : (t.writeP r b).vpecnt = t.vpecnt := by unfold Strand.writeP; split <;> rfl
@[simp] theorem Strand.writeP_sstepcnt : (t.writeP r b).sstepcnt = t.sstepcnt := by unfold Strand.writeP; split <;> rfl
@[simp] theorem Strand.writeP_mstatus : (t.writeP r b).mstatus = t.mstatus := by unfold Strand.writeP; split <;> rfl
@[simp] theorem Strand.writeP_sie : (t.writeP r b).sie = t.sie := by unfold Strand.writeP; split <;> rfl
@[simp] theorem Strand.writeP_mie : (t.writeP r b).mie = t.mie := by unfold Strand.writeP; split <;> rfl
@[simp] theorem Strand.writeP_ip : (t.writeP r b).ip = t.ip := by unfold Strand.writeP; split <;> rfl
@[simp] theorem Strand.writeP_stvec : (t.writeP r b).stvec = t.stvec := by unfold Strand.writeP; split <;> rfl
@[simp] theorem Strand.writeP_sscratch : (t.writeP r b).sscratch = t.sscratch := by unfold Strand.writeP; split <;> rfl
@[simp] theorem Strand.writeP_sepc : (t.writeP r b).sepc = t.sepc := by unfold Strand.writeP; split <;> rfl
@[simp] theorem Strand.writeP_scause : (t.writeP r b).scause = t.scause := by unfold Strand.writeP; split <;> rfl
@[simp] theorem Strand.writeP_stval : (t.writeP r b).stval = t.stval := by unfold Strand.writeP; split <;> rfl
@[simp] theorem Strand.writeP_medeleg : (t.writeP r b).medeleg = t.medeleg := by unfold Strand.writeP; split <;> rfl
@[simp] theorem Strand.writeP_mideleg : (t.writeP r b).mideleg = t.mideleg := by unfold Strand.writeP; split <;> rfl
@[simp] theorem Strand.writeP_mtvec : (t.writeP r b).mtvec = t.mtvec := by unfold Strand.writeP; split <;> rfl
@[simp] theorem Strand.writeP_mscratch : (t.writeP r b).mscratch = t.mscratch := by unfold Strand.writeP; split <;> rfl
@[simp] theorem Strand.writeP_mepc : (t.writeP r b).mepc = t.mepc := by unfold Strand.writeP; split <;> rfl
@[simp] theorem Strand.writeP_mcause : (t.writeP r b).mcause = t.mcause := by unfold Strand.writeP; split <;> rfl
@[simp] theorem Strand.writeP_mtval : (t.writeP r b).mtval = t.mtval := by unfold Strand.writeP; split <;> rfl
@[simp] theorem Strand.writeP_mcounteren : (t.writeP r b).mcounteren = t.mcounteren := by unfold Strand.writeP; split <;> rfl
@[simp] theorem Strand.writeP_park : (t.writeP r b).park = t.park := by unfold Strand.writeP; split <;> rfl
@[simp] theorem Strand.writeP_failedWalks : (t.writeP r b).failedWalks = t.failedWalks := by unfold Strand.writeP; split <;> rfl
@[simp] theorem Strand.writeP_storeBuf : (t.writeP r b).storeBuf = t.storeBuf := by unfold Strand.writeP; split <;> rfl
@[simp] theorem Strand.writeP_pending : (t.writeP r b).pending = t.pending := by unfold Strand.writeP; split <;> rfl
end

/-! ## Reading cores, benches, clusters and logical devices -/

@[simp] theorem State.core_setCore (s : State) (c d : Nat) (k : Core) :
    (s.setCore c k).core d = if d = c then k else s.core d := mapGet_mapPut Core.reset s.cores d c k

@[simp] theorem State.core_modCore (s : State) (c d : Nat) (f : Core → Core) :
    (s.modCore c f).core d = if d = c then f (s.core c) else s.core d := State.core_setCore s c d _

@[simp] theorem State.bench_modBench (s : State) (b d : Nat) (f : Bench → Bench) :
    (s.modBench b f).bench d = if d = b then f (s.bench b) else s.bench d := mapGet_mapPut Bench.reset s.benches d b _

@[simp] theorem State.cluster_modCluster (s : State) (l d : Nat) (f : Cluster → Cluster) :
    (s.modCluster l f).cluster d = if d = l then f (s.cluster l) else s.cluster d :=
  mapGet_mapPut Cluster.reset s.clusters d l _

@[simp] theorem State.ld_modLd (s : State) (n d : Nat) (f : Ld → Ld) :
    (s.modLd n f).ld d = if d = n then f (s.ld n) else s.ld d := mapGet_mapPut Ld.reset s.lds d n _

@[simp] theorem State.bench_setCore (s : State) (c b : Nat) (k : Core) : (s.setCore c k).bench b = s.bench b := rfl
@[simp] theorem State.cluster_setCore (s : State) (c l : Nat) (k : Core) : (s.setCore c k).cluster l = s.cluster l := rfl
@[simp] theorem State.core_modBench (s : State) (b c : Nat) (f : Bench → Bench) : (s.modBench b f).core c = s.core c := rfl
@[simp] theorem State.core_modCluster (s : State) (l c : Nat) (f : Cluster → Cluster) :
    (s.modCluster l f).core c = s.core c := rfl
@[simp] theorem State.bench_modCluster (s : State) (l b : Nat) (f : Cluster → Cluster) :
    (s.modCluster l f).bench b = s.bench b := rfl
@[simp] theorem State.cluster_modBench (s : State) (b l : Nat) (f : Bench → Bench) :
    (s.modBench b f).cluster l = s.cluster l := rfl
@[simp] theorem State.bench_modMe (s : State) (f : Strand → Strand) (b : Nat) : (s.modMe f).bench b = s.bench b := rfl
@[simp] theorem State.cluster_modMe (s : State) (f : Strand → Strand) (l : Nat) : (s.modMe f).cluster l = s.cluster l := rfl

/-! ## Reading strands -/

/-- A strand that a core does not have is never changed. -/
@[simp] theorem Core.strand_setStrand (k : Core) (i j : Nat) (t : Strand) :
    (k.setStrand i t).strand j = if j = i ∧ i < 11 then t else k.strand j := by
  unfold Core.strand Core.setStrand
  by_cases h : i < 11
  · by_cases e : j = i
    · subst e; simp [h]
    · have e' : i ≠ j := fun x => e x.symm
      simp [e, e']
  · have hb : k.strands.setIfInBounds i t = k.strands := by
      apply Vector.ext; intro n hn
      have : i ≠ n := by omega
      simp [this]
    simp [hb, h]

@[simp] theorem State.strand_setStrand (s : State) (c i d j : Nat) (t : Strand) :
    (s.setStrand c i t).strand d j = if d = c ∧ j = i ∧ i < 11 then t else s.strand d j := by
  unfold State.setStrand State.strand
  rw [State.core_setCore]
  by_cases h : d = c
  · subst h; simp
  · simp [h]

theorem State.strand_modStrand (s : State) (c i d j : Nat) (f : Strand → Strand) :
    (s.modStrand c i f).strand d j = if d = c ∧ j = i ∧ i < 11 then f (s.strand c i) else s.strand d j :=
  State.strand_setStrand s c i d j _

/-- The issuing strand after its own update. -/
theorem State.me_modMe (s : State) (f : Strand → Strand) (h : s.cur < 11) : (s.modMe f).me = f s.me := by
  show ((s.setStrand s.here s.cur (f s.me)).strand s.here s.cur) = f s.me
  simp [h]

/-- Every other strand after the issuing strand's update. -/
theorem State.strand_modMe_other (s : State) (f : Strand → Strand) {c i : Nat} (h : ¬(c = s.here ∧ i = s.cur)) :
    (s.modMe f).strand c i = s.strand c i := by
  show ((s.setStrand s.here s.cur (f s.me)).strand c i) = s.strand c i
  rw [State.strand_setStrand, if_neg]
  exact fun e => h ⟨e.1, e.2.1⟩

/-- A core after a strand's update: its other fields are as they were. -/
theorem State.core_modMe (s : State) (f : Strand → Strand) (c : Nat) :
    (s.modMe f).core c = if c = s.here then (s.core s.here).setStrand s.cur (f s.me) else s.core c :=
  State.core_setCore s s.here c _

theorem Core.setStrand_setStrand (k : Core) (i : Nat) (t u : Strand) :
    (k.setStrand i t).setStrand i u = k.setStrand i u := by
  simp [Core.setStrand]

theorem mapPut_mapPut {α : Type} (m : SMap α) (k : Nat) (v w : α) : mapPut (mapPut m k v) k w = mapPut m k w := by
  induction m with
  | nil => simp [mapPut]
  | cons e m ih =>
    obtain ⟨k', v'⟩ := e
    rcases Nat.lt_trichotomy k k' with h | h | h
    · simp [mapPut, h]
    · simp [mapPut, h]
    · have h1 : ¬k < k' := by omega
      have h2 : k ≠ k' := by omega
      simp [mapPut, h1, h2, ih]

/-- Two updates of the issuing strand are one. -/
theorem State.modMe_modMe (s : State) (f g : Strand → Strand) (h : s.cur < 11) :
    (s.modMe f).modMe g = s.modMe (fun t => g (f t)) := by
  have hm : (s.modMe f).me = f s.me := State.me_modMe s f h
  unfold State.modMe State.setMe State.setStrand at *
  simp only [State.setCore_here, State.setCore_cur] at *
  rw [hm]
  unfold State.setCore
  simp only [State.mk.injEq, mapPut_mapPut, and_true]
  congr 1
  show (State.core (s.setCore s.here _) s.here).setStrand s.cur _ = _
  rw [State.core_setCore, if_pos rfl, Core.setStrand_setStrand]

/-! ## Registers (R43) -/

@[simp] theorem Strand.readX_zero (t : Strand) : t.readX 0#5 = 0 := rfl
@[simp] theorem Strand.writeX_zero (t : Strand) (w : Word) : t.writeX 0#5 w = t := rfl
@[simp] theorem Strand.readP_zero (t : Strand) : t.readP 0#3 = BitVec.allOnes 256 := rfl
@[simp] theorem Strand.writeP_zero (t : Strand) (b : Pred) : t.writeP 0#3 b = t := rfl

/-- Reading an x register after a write: x0 stays 0. -/
theorem Strand.readX_writeX (t : Strand) (r q : BitVec 5) (w : Word) :
    (t.writeX r w).readX q = if q = r ∧ r ≠ 0#5 then w else t.readX q := by
  unfold Strand.writeX
  by_cases h : r = 0#5
  · simp [h]
  · by_cases e : q = r
    · subst e; simp [Strand.readX, h]
    · by_cases z : q = 0#5
      · subst z; simp [Strand.readX, e]
      · have : r.toNat ≠ q.toNat := fun x => e (BitVec.eq_of_toNat_eq x.symm)
        simp [Strand.readX, h, e, z, this]

/-- Reading a v register after a write. -/
theorem Strand.readV_writeV (t : Strand) (r q : BitVec 5) (l : Line) :
    (t.writeV r l).readV q = if q = r then l else t.readV q := by
  unfold Strand.writeV Strand.readV
  by_cases e : q = r
  · subst e; simp
  · have : r.toNat ≠ q.toNat := fun x => e (BitVec.eq_of_toNat_eq x.symm)
    simp [e, this]

/-- Reading a p register after a write: p0 stays all ones. -/
theorem Strand.readP_writeP (t : Strand) (r q : BitVec 3) (b : Pred) :
    (t.writeP r b).readP q = if q = r ∧ r ≠ 0#3 then b else t.readP q := by
  unfold Strand.writeP
  by_cases h : r = 0#3
  · simp [h]
  · by_cases e : q = r
    · subst e; simp [Strand.readP, h]
    · by_cases z : q = 0#3
      · subst z; simp [Strand.readP, e]
      · have : r.toNat ≠ q.toNat := fun x => e (BitVec.eq_of_toNat_eq x.symm)
        simp [Strand.readP, h, e, z, this]

@[simp] theorem Strand.readX_writeV (t : Strand) (r : BitVec 5) (q : BitVec 5) (l : Line) :
    (t.writeV r l).readX q = t.readX q := rfl
@[simp] theorem Strand.readV_writeX (t : Strand) (r q : BitVec 5) (w : Word) : (t.writeX r w).readV q = t.readV q := by
  unfold Strand.readV; simp
@[simp] theorem Strand.readP_writeX (t : Strand) (r : BitVec 5) (q : BitVec 3) (w : Word) :
    (t.writeX r w).readP q = t.readP q := by unfold Strand.readP; simp

end Sys2Proof.Machine
end

