-- ==== Sys2Proof/Laws/Memory.lean ====
section
/-! SUPPORT. What each agent reads after stores to memory: storing, settling, committing and draining (R262-R264). -/

namespace Sys2Proof.Machine

/-- What a location reads as after cells are stored. -/
theorem Memory.byte_storeAll (m : Memory) (cells : List (Nat × Byte)) (j : Nat) :
    Memory.byte (Memory.storeAll m cells) j = (cellAt cells j).getD (Memory.byte m j) := by
  induction cells with
  | nil => rfl
  | cons c cs ih =>
    show Memory.byte (Memory.store (Memory.storeAll m cs) c.1 c.2) j = _
    by_cases e : c.1 = j
    · subst e
      rw [Memory.byte_store_same]
      simp [cellAt]
    · rw [Memory.byte_store_other _ _ (fun x => e x.symm), ih]
      simp [cellAt, e]

/-- What an agent reads of drained stores above a memory. -/
def readAbove (a : Agent) (ds : List Drained) (m : Memory) (loc : Nat) : Byte := (drainedByte a ds loc).getD (Memory.byte m loc)

theorem readAbove_cons (a : Agent) (d : Drained) (ds : List Drained) (m : Memory) (loc : Nat) :
    readAbove a (d :: ds) m loc = if d.visible a then (cellAt d.cells loc).getD (readAbove a ds m loc) else readAbove a ds m loc := by
  unfold readAbove
  conv => lhs; rw [drainedByte]
  split
  · split <;> simp_all
  · rfl

theorem Drained.visible_of_s {d : Drained} (h : d.reach = .s) (a : Agent) : d.visible a = true := by
  cases a <;> simp [Drained.visible, h]

/-- Settling changes no agent's reading. -/
theorem readAbove_foldOldest (ds : List Drained) (m : Memory) (a : Agent) (loc : Nat) :
    readAbove a (foldOldest ds m).1 (foldOldest ds m).2 loc = readAbove a ds m loc := by
  induction ds with
  | nil => rfl
  | cons d ds ih =>
    unfold foldOldest
    split
    · rename_i m' e
      rw [e] at ih
      split
      · rename_i hs
        rw [readAbove_cons, Drained.visible_of_s hs, if_pos rfl, ← ih]
        exact Memory.byte_storeAll _ _ _
      · rw [readAbove_cons, readAbove_cons, ih]
    · rename_i e
      rw [e] at ih
      simp only [readAbove_cons, ih]

theorem State.byteFor_settle (s : State) (a : Agent) (loc : Nat) : s.settle.byteFor a loc = s.byteFor a loc :=
  readAbove_foldOldest s.drained s.mem a loc

/-- Settling keeps the canonical form of memory. -/
theorem foldOldest_wf (ds : List Drained) (m : Memory) (h : Memory.wf m = true) : Memory.wf (foldOldest ds m).2 = true := by
  induction ds with
  | nil => exact h
  | cons d ds ih =>
    unfold foldOldest
    split
    · rename_i m' e
      rw [e] at ih
      split
      · exact Memory.storeAll_wf _ ih
      · exact ih
    · rename_i e
      rw [e] at ih
      exact ih

theorem State.settle_wf {s : State} (h : Memory.wf s.mem = true) : Memory.wf s.settle.mem = true :=
  foldOldest_wf s.drained s.mem h

end Sys2Proof.Machine
end

