-- ==== Sys2Proof/Laws/Operands.lean ====
section
/-! SUPPORT. The integer arithmetic of Machine/Operands.lean as arithmetic on integers. -/

namespace Sys2Proof.Machine

/-! ## Words and integers -/

theorem ofInt_bmod (n : Nat) (x : Int) : BitVec.ofInt n (x.bmod (2 ^ n)) = BitVec.ofInt n x := by
  apply BitVec.eq_of_toInt_eq
  simp

/-- A low field of an integer's word. -/
theorem extractLsb'_ofInt {m : Nat} (x : Int) (a n : Nat) (h : a + n ≤ m) :
    (BitVec.ofInt m x).extractLsb' a n = BitVec.ofInt n (x / 2 ^ a) := by
  apply BitVec.eq_of_toNat_eq
  simp only [BitVec.extractLsb'_toNat, BitVec.toNat_ofInt, Nat.shiftRight_eq_div_pow]
  apply Int.ofNat.inj
  simp only [Int.ofNat_eq_natCast, Int.natCast_emod, Int.natCast_ediv, Int.natCast_pow, Int.cast_ofNat_Int]
  have p1 : (0 : Int) < 2 ^ m := Int.pow_pos (by decide)
  have p2 : (0 : Int) < 2 ^ n := Int.pow_pos (by decide)
  have p3 : (0 : Int) < 2 ^ a := Int.pow_pos (by decide)
  rw [Int.toNat_of_nonneg (Int.emod_nonneg _ (by omega)), Int.toNat_of_nonneg (Int.emod_nonneg _ (by omega))]
  have hm : (2 : Int) ^ m = 2 ^ a * (2 ^ n * 2 ^ (m - a - n)) := by
    rw [← Int.pow_add, ← Int.pow_add]; congr 1; omega
  have e1 : x % 2 ^ m / 2 ^ a = x / 2 ^ a - 2 ^ n * (2 ^ (m - a - n) * (x / 2 ^ m)) := by
    rw [Int.emod_def]
    generalize x / 2 ^ m = k
    rw [hm, show x - 2 ^ a * (2 ^ n * 2 ^ (m - a - n)) * k = x + 2 ^ a * (-(2 ^ n * (2 ^ (m - a - n) * k))) by
      rw [Int.mul_neg, Int.mul_assoc, Int.mul_assoc]; omega]
    rw [Int.add_mul_ediv_left _ _ (by omega)]
    omega
  rw [e1, Int.sub_mul_emod_self_left]

theorem signExtend_eq {n : Nat} (a : BitVec n) (m : Nat) : a.signExtend m = BitVec.ofInt m a.toInt := rfl

theorem setWidth_eq {n : Nat} (a : BitVec n) (m : Nat) : a.setWidth m = BitVec.ofInt m (a.toNat : Int) := by
  apply BitVec.eq_of_toNat_eq
  simp only [BitVec.toNat_setWidth, BitVec.toNat_ofInt, Int.natCast_pow, Int.cast_ofNat_Int]
  rw [← Int.toNat_natCast (a.toNat % 2 ^ m)]
  simp

theorem ofNat_eq_ofInt (n x : Nat) : BitVec.ofNat n x = BitVec.ofInt n (x : Int) := (BitVec.ofInt_natCast n x).symm

/-- The low half of a word, as an integer. -/
theorem lowW_toInt (a : Word) : (lowW a).toInt = a.toInt.bmod (2 ^ 32) := by
  have h : lowW a = BitVec.ofInt 32 a.toInt := by
    conv => lhs; rw [← BitVec.ofInt_toInt (x := a)]
    have := extractLsb'_ofInt (m := 64) a.toInt 0 32 (by decide)
    simpa [lowW] using this
  rw [h]
  simp

theorem lowW_toNat (a : Word) : (lowW a).toNat = a.toNat % 2 ^ 32 := by simp [lowW]

/-- The result of a 32-bit operation, as an integer. -/
theorem sextW_eq (a : BitVec 32) : sextW a = BitVec.ofInt 64 a.toInt := rfl

theorem sextW_ofInt (x : Int) : sextW (BitVec.ofInt 32 x) = BitVec.ofInt 64 (x.bmod (2 ^ 32)) := by
  rw [sextW_eq]; simp

/-! ## Immediates -/

theorem append_zeros_toInt {n : Nat} (a : BitVec n) (k : Nat) : (a ++ 0#k).toInt = a.toInt * 2 ^ k := by
  simp [Int.mul_comm]

/-- An immediate whose low bits are zeros, sign-extended. -/
theorem signExtend_append_zeros {n : Nat} (a : BitVec n) (k m : Nat) :
    (a ++ 0#k).signExtend m = BitVec.ofInt m (a.toInt * 2 ^ k) := by
  rw [signExtend_eq, append_zeros_toInt]

/-- An immediate whose low bits are zeros, zero-extended. -/
theorem setWidth_append_zeros {n : Nat} (a : BitVec n) (k m : Nat) :
    (a ++ 0#k).setWidth m = BitVec.ofNat m (a.toNat * 2 ^ k) := by
  rw [setWidth_eq, show (a ++ 0#k).toNat = a.toNat * 2 ^ k by
    simp [BitVec.toNat_append, Nat.shiftLeft_eq], ← ofNat_eq_ofInt]

/-- A zero-extended field, as an integer. -/
theorem setWidth_toInt {n m : Nat} (a : BitVec n) (h : n < m) : (a.setWidth m).toInt = (a.toNat : Int) := by
  rw [BitVec.toInt_setWidth]
  have := a.isLt
  have : 2 ^ (n + 1) ≤ 2 ^ m := Nat.pow_le_pow_right (by decide) h
  rw [Nat.pow_succ] at this
  have e : 2 ^ m = 2 * 2 ^ (m - 1) := by
    rw [← Nat.pow_succ']; congr 1; omega
  rw [Int.bmod_eq_of_le] <;> omega

/-! ## Sums, shifts and comparisons -/

theorem add_eq_ofInt {n : Nat} (a b : BitVec n) : a + b = BitVec.ofInt n (a.toInt + b.toInt) := by
  rw [BitVec.ofInt_add]; simp

/-- The sum of a word and a sign-extended immediate. -/
theorem add_imm12 (a : Word) (i : BitVec 12) : a + imm12 i = BitVec.ofInt 64 (a.toInt + i.toInt) := by
  rw [add_eq_ofInt, imm12, BitVec.toInt_signExtend_of_le (by decide)]

theorem sub_eq_ofInt {n : Nat} (a b : BitVec n) : a - b = BitVec.ofInt n (a.toInt - b.toInt) := by
  apply BitVec.eq_of_toInt_eq
  simp [BitVec.toInt_sub]

theorem mul_eq_ofInt {n : Nat} (a b : BitVec n) : a * b = BitVec.ofInt n (a.toInt * b.toInt) := by
  rw [BitVec.ofInt_mul]; simp

theorem shl_eq_ofNat {n : Nat} (a : BitVec n) (k : Nat) : a <<< k = BitVec.ofNat n (a.toNat * 2 ^ k) := by
  apply BitVec.eq_of_toNat_eq
  simp [BitVec.toNat_shiftLeft, Nat.shiftLeft_eq]

theorem shl_eq_ofInt {n : Nat} (a : BitVec n) (k : Nat) : a <<< k = BitVec.ofInt n (a.toInt * 2 ^ k) := by
  rw [show a.toInt * 2 ^ k = a.toInt * ((2 ^ k : Nat) : Int) by simp, BitVec.ofInt_mul, BitVec.ofInt_toInt,
    BitVec.ofInt_natCast, shl_eq_ofNat]
  apply BitVec.eq_of_toNat_eq
  rw [BitVec.toNat_mul, BitVec.toNat_ofNat, BitVec.toNat_ofNat, Nat.mul_mod_mod]

theorem ushr_eq_ofNat {n : Nat} (a : BitVec n) (k : Nat) : a >>> k = BitVec.ofNat n (a.toNat / 2 ^ k) := by
  apply BitVec.eq_of_toNat_eq
  have : a.toNat / 2 ^ k < 2 ^ n := Nat.lt_of_le_of_lt (Nat.div_le_self _ _) a.isLt
  simp [BitVec.toNat_ushiftRight, Nat.shiftRight_eq_div_pow, Nat.mod_eq_of_lt this]

theorem sshr_eq_ofInt {n : Nat} (a : BitVec n) (k : Nat) : a.sshiftRight k = BitVec.ofInt n (a.toInt / 2 ^ k) := by
  unfold BitVec.sshiftRight
  rw [Int.shiftRight_eq_div_pow]
  simp

theorem boolWord_slt {n : Nat} (a b : BitVec n) : boolWord (a.slt b) = if a.toInt < b.toInt then 1 else 0 := by
  simp [boolWord, BitVec.slt_iff_toInt_lt]

theorem boolWord_ult {n : Nat} (a b : BitVec n) : boolWord (a.ult b) = if a.toNat < b.toNat then 1 else 0 := by
  simp [boolWord, BitVec.ult]

/-! ## Products and quotients -/

theorem mulHigh_eq (a b : Word) : mulHigh a b = BitVec.ofInt 64 (a.toInt * b.toInt / 2 ^ 64) := by
  unfold mulHigh
  rw [signExtend_eq, signExtend_eq, ← BitVec.ofInt_mul, extractLsb'_ofInt _ _ _ (by decide)]

theorem mulHighSU_eq (a b : Word) : mulHighSU a b = BitVec.ofInt 64 (a.toInt * (b.toNat : Int) / 2 ^ 64) := by
  unfold mulHighSU
  rw [signExtend_eq, setWidth_eq, ← BitVec.ofInt_mul, extractLsb'_ofInt _ _ _ (by decide)]

theorem mulHighU_eq (a b : Word) : mulHighU a b = BitVec.ofNat 64 (a.toNat * b.toNat / 2 ^ 64) := by
  unfold mulHighU
  rw [setWidth_eq, setWidth_eq, ← BitVec.ofInt_mul, extractLsb'_ofInt _ _ _ (by decide), ofNat_eq_ofInt]
  congr 1

theorem eq_zero_iff_toInt {n : Nat} (b : BitVec n) : b = 0 ↔ b.toInt = 0 := by
  constructor
  · rintro rfl; simp
  · intro h
    apply BitVec.eq_of_toInt_eq
    simp [h]

theorem eq_zero_iff_toNat {n : Nat} (b : BitVec n) : b = 0 ↔ b.toNat = 0 := by
  constructor
  · rintro rfl; simp
  · intro h
    apply BitVec.eq_of_toNat_eq
    simp [h]

theorem divS_eq {n : Nat} (a b : BitVec n) :
    divS a b = BitVec.ofInt n (if b.toInt = 0 then -1 else a.toInt.tdiv b.toInt) := by
  unfold divS
  by_cases h : b = 0
  · have h' := (eq_zero_iff_toInt b).1 h
    rw [if_pos h, if_pos h']
    rw [← BitVec.neg_one_eq_allOnes, show (-1 : Int) = -((1 : Nat) : Int) from rfl, BitVec.ofInt_neg,
      BitVec.ofInt_natCast]
  · have h' := mt (eq_zero_iff_toInt b).2 h
    rw [if_neg h, if_neg h']
    apply BitVec.eq_of_toInt_eq
    simp [BitVec.toInt_sdiv]

theorem remS_eq {n : Nat} (a b : BitVec n) :
    remS a b = BitVec.ofInt n (if b.toInt = 0 then a.toInt else a.toInt.tmod b.toInt) := by
  unfold remS
  by_cases h : b = 0
  · have h' := (eq_zero_iff_toInt b).1 h
    rw [if_pos h, if_pos h']
    simp
  · have h' := mt (eq_zero_iff_toInt b).2 h
    rw [if_neg h, if_neg h', ← BitVec.toInt_srem, BitVec.ofInt_toInt]

theorem divU_eq {n : Nat} (a b : BitVec n) :
    divU a b = if b.toNat = 0 then BitVec.allOnes n else BitVec.ofNat n (a.toNat / b.toNat) := by
  unfold divU
  by_cases h : b = 0
  · rw [if_pos h, if_pos ((eq_zero_iff_toNat b).1 h)]
  · rw [if_neg h, if_neg (mt (eq_zero_iff_toNat b).2 h)]
    apply BitVec.eq_of_toNat_eq
    have : a.toNat / b.toNat < 2 ^ n := Nat.lt_of_le_of_lt (Nat.div_le_self _ _) a.isLt
    simp [BitVec.toNat_udiv, Nat.mod_eq_of_lt this]

theorem remU_eq {n : Nat} (a b : BitVec n) :
    remU a b = BitVec.ofNat n (if b.toNat = 0 then a.toNat else a.toNat % b.toNat) := by
  unfold remU
  by_cases h : b = 0
  · rw [if_pos h, if_pos ((eq_zero_iff_toNat b).1 h)]
    simp
  · rw [if_neg h, if_neg (mt (eq_zero_iff_toNat b).2 h)]
    apply BitVec.eq_of_toNat_eq
    have : a.toNat % b.toNat < 2 ^ n := Nat.lt_of_le_of_lt (Nat.mod_le _ _) a.isLt
    simp [BitVec.toNat_umod, Nat.mod_eq_of_lt this]

end Sys2Proof.Machine
end

