-- ==== Sys2Proof/Laws/Ops.lean ====
section
/-! SUPPORT. What the shared operations of Machine/Ops.lean come to: how an instruction ends, retiring, the prefix, and the
scalar accesses. -/

namespace Sys2Proof.Machine

/-! ## How an instruction ends -/

/-- Whatever an instruction leaves, the machine goes on. -/
theorem State.outcome_next (r : Except Stop State) (c i : Nat) : ∃ t, State.outcome r c i = .next t := by
  unfold State.outcome
  split <;> exact ⟨_, rfl⟩

/-- An instruction that accepts no prefix, with none pending. -/
theorem State.plain_eq {s : State} (h : s.me.pp = false) (f : State → Except Stop State) :
    s.plain f = State.outcome (f s) s.here s.cur := by
  simp [State.plain, h]

theorem State.plain_next {s t : State} {f : State → Except Stop State} (h : s.me.pp = false) (hf : f s = .ok t) :
    s.plain f = .next t := by
  rw [State.plain_eq h, hf]; rfl

theorem State.plain_trap {s t : State} {f : State → Except Stop State} {c v : Word} (h : s.me.pp = false)
    (hf : f s = .error (.trap c v t)) : s.plain f = .next (t.takeTrap s.here s.cur c v) := by
  rw [State.plain_eq h, hf]; rfl

theorem State.plain_wait {s t : State} {f : State → Except Stop State} {p : Park} (h : s.me.pp = false)
    (hf : f s = .error (.wait p t)) :
    s.plain f = .next (t.modStrand s.here s.cur (fun t => { t with park := some p })) := by
  rw [State.plain_eq h, hf]; rfl

/-- R109: an instruction that accepts no prefix, with one pending. -/
theorem State.plain_prefixed {s : State} (h : s.me.pp = true) (f : State → Except Stop State) :
    s.plain f = .next ((s.modMe (fun t => { t with pp := false })).takeTrap s.here s.cur causeIllegal s.currentWord) := by
  simp [State.plain, h, State.outcome, State.illegalPrefix]

theorem State.straight_next {s : State} (h : s.me.pp = false) (n : Nat) (f : State → State) :
    s.straight n f = .next ((f s).retire n) := State.plain_next h rfl

theorem State.straight_prefixed {s : State} (h : s.me.pp = true) (n : Nat) (f : State → State) :
    s.straight n f =
      .next ((s.modMe (fun t => { t with pp := false })).takeTrap s.here s.cur causeIllegal s.currentWord) :=
  State.plain_prefixed h _

theorem State.checked_next {s t : State} {n : Nat} {f : State → Except Stop State} (h : s.me.pp = false)
    (hf : f s = .ok t) : s.checked n f = .next (t.retire n) := State.plain_next h (by rw [hf]; rfl)

theorem State.checked_trap {s t : State} {n : Nat} {f : State → Except Stop State} {c v : Word} (h : s.me.pp = false)
    (hf : f s = .error (.trap c v t)) : s.checked n f = .next (t.takeTrap s.here s.cur c v) :=
  State.plain_trap h (by rw [hf]; rfl)

theorem State.checked_wait {s t : State} {n : Nat} {f : State → Except Stop State} {p : Park} (h : s.me.pp = false)
    (hf : f s = .error (.wait p t)) :
    s.checked n f = .next (t.modStrand s.here s.cur (fun t => { t with park := some p })) :=
  State.plain_wait h (by rw [hf]; rfl)

theorem State.checked_prefixed {s : State} (h : s.me.pp = true) (n : Nat) (f : State → Except Stop State) :
    s.checked n f =
      .next ((s.modMe (fun t => { t with pp := false })).takeTrap s.here s.cur causeIllegal s.currentWord) :=
  State.plain_prefixed h _

theorem State.require_ok {s : State} {b : Bool} (f : State → Except Stop State) (h : b = true) : s.require b f = f s := by
  simp [State.require, h]

theorem State.require_not {s : State} {b : Bool} (f : State → Except Stop State) (h : b = false) :
    s.require b f = .error (.trap causeIllegal s.currentWord s) := by
  simp [State.require, h, State.illegal]

/-- An instruction whose condition fails is illegal. -/
theorem State.checked_illegal {s : State} {n : Nat} {b : Bool} {f : State → Except Stop State} (h : s.me.pp = false)
    (hb : b = false) :
    s.checked n (fun s => s.require b f) = .next (s.takeTrap s.here s.cur causeIllegal s.currentWord) :=
  State.checked_trap h (State.require_not f hb)

/-! ## The issuing strand after its own effects -/

@[simp] theorem State.me_tally (s : State) : s.tally.me = s.me := rfl

theorem State.me_retire {s : State} (h : s.cur < 11) (n : Nat) :
    (s.retire n).me =
      { s.me with fpc := s.me.fpc + BitVec.ofNat 24 n, instret := s.me.instret + 1, park := none, failedWalks := [] } := by
  rw [State.retire, State.me_tally]; exact State.me_modMe s _ h

theorem State.me_retireAt {s : State} (h : s.cur < 11) (a : BitVec 24) :
    (s.retireAt a).me = { s.me with fpc := a, instret := s.me.instret + 1, park := none, failedWalks := [] } := by
  rw [State.retireAt, State.me_tally]; exact State.me_modMe s _ h

theorem State.me_writeX {s : State} (h : s.cur < 11) (r : BitVec 5) (w : Word) : (s.writeX r w).me = s.me.writeX r w :=
  State.me_modMe s _ h

theorem State.me_writeV {s : State} (h : s.cur < 11) (r : BitVec 5) (l : Line) : (s.writeV r l).me = s.me.writeV r l :=
  State.me_modMe s _ h

/-- An x register after the issuing strand has written one. -/
theorem State.x_writeX {s : State} (h : s.cur < 11) (r q : BitVec 5) (w : Word) :
    (s.writeX r w).x q = if q = r ∧ r ≠ 0#5 then w else s.x q := by
  unfold State.x
  rw [State.me_writeX h, Strand.readX_writeX]

@[simp] theorem State.x_retire {s : State} (n : Nat) (q : BitVec 5) : (s.retire n).x q = s.x q := by
  unfold State.x State.retire
  show Strand.readX (State.me (s.modMe (fun t =>
    { t with fpc := t.fpc + BitVec.ofNat 24 n, instret := t.instret + 1, park := none, failedWalks := [] }))) q = _
  by_cases h : s.cur < 11
  · rw [State.me_modMe s _ h]; rfl
  · have e : s.modMe (fun t =>
          { t with fpc := t.fpc + BitVec.ofNat 24 n, instret := t.instret + 1, park := none, failedWalks := [] }) =
        s.modMe (fun t => t) := by
      unfold State.modMe State.setMe State.setStrand Core.setStrand
      congr 2
      apply Vector.ext
      intro k hk
      have : s.cur ≠ k := by omega
      simp [this]
    rw [e]
    show ((s.setStrand s.here s.cur s.me).strand s.here s.cur).readX q = _
    rw [State.strand_setStrand]
    split <;> rfl

/-! ## Scalar accesses -/

/-- A load that is performed as it issues. -/
theorem State.loadScalar_ok {s s1 : State} {rd : BitVec 5} {va : Word} {n la : Nat} {signed : Bool} {locs : List Nat}
    (h : s.loadLocs va n = .ok (s1, locs)) (hd : s1.deferred = false) :
    s.loadScalar rd va n signed la = .ok (s1.writeX rd (extendTo (8 * n) signed (s1.bytesOf locs))) := by
  simp [State.loadScalar, h, hd]

theorem State.storeBytes_ok {s s1 : State} {va : Word} {bs : List Byte} {locs : List Nat}
    (h : s.access .store va bs.length = .ok (s1, locs)) :
    s.storeBytes va bs = .ok (s1.modMe (·.pushStore (locs.zip bs))) := by
  simp [State.storeBytes, h]

@[simp] theorem leBytes_length (n v : Nat) : (leBytes n v).length = n := by
  induction n generalizing v with
  | zero => rfl
  | succ n ih => simp [leBytes, ih]

/-- The value that the bytes of a value hold. -/
theorem leNat_leBytes (n v : Nat) : leNat (leBytes n v) = v % 256 ^ n := by
  induction n generalizing v with
  | zero => simp [leBytes, leNat, Nat.mod_one]
  | succ n ih =>
    simp only [leBytes, leNat, BitVec.toNat_ofNat, ih]
    conv => rhs; rw [Nat.pow_succ, Nat.mul_comm, Nat.mod_mul]

end Sys2Proof.Machine
end

