-- ==== Sys2Proof/Laws/PerInstr.lean ====
section
/-! SUPPORT. What holds of every instruction as syntax, one lemma for each constructor: a well-formed instruction that has an
encoding is what the decoder reads from its bytes, whatever follows them. -/

namespace Sys2Proof.Laws.RoundTrip

set_option linter.unusedSimpArgs false

/-- R23-R41: the bytes of a well-formed instruction decode to it, with their number. -/
def Statement (i : Instr) : Prop :=
  i.wf = true → ∀ b rest, encode i = some b → decode (b ++ rest) = .ok (i, b.length)

/-- An instruction with a word. -/
theorem ofWord {i : Instr} {w : BitVec 32} (op : BitVec 7) (he : encodeWord i = some w) (hop : w.extractLsb' 0 7 = op)
    (h1 : op.extractLsb' 0 2 = 3#2 ∧ op.extractLsb' 2 3 ≠ 7#3) (hd : i.wf = true → decodeMajor w = .ok i) : Statement i := by
  intro hw b rest hb
  rw [encode_of_word he] at hb
  cases hb
  exact decode_word hop h1.1 h1.2 (hd hw) hw rest

/-- An instruction with a parcel. -/
theorem ofParcel {i : Instr} {p : BitVec 16} (q : BitVec 2) (h0 : encodeWord i = none) (he : encodeParcel i = some p)
    (hq : p.extractLsb' 0 2 = q) (h1 : q ≠ 3#2) (hz : i.wf = true → p ≠ 0#16)
    (hd : i.wf = true → (match q.toNat with
      | 0 => decodeC0 p
      | 1 => decodeC1 p
      | _ => decodeC2 p) = .ok i) : Statement i := by
  intro hw b rest hb
  rw [encode_of_parcel h0 he] at hb
  cases hb
  exact decode_parcel hq h1 (hz hw) (hd hw) hw rest

/-- A step without an encoding. -/
theorem ofNone {i : Instr} (h : encode i = none) : Statement i := by
  intro _ b _ hb
  rw [h] at hb
  cases hb

/-! ## The table of major opcodes -/

theorem major3 {w : BitVec 32} (h : w.extractLsb' 0 7 = 3#7) : decodeMajor w = decodeLoad w := by
  simp only [decodeMajor, h, BitVec.reduceToNat]

/-- An instruction of major opcode 3. -/
theorem of3 {i : Instr} {x : BitVec 25} (he : encodeWord i = some (x ++ 3#7)) (hd : decodeLoad (x ++ 3#7) = .ok i) :
    Statement i := by
  have h : (x ++ 3#7).extractLsb' 0 7 = 3#7 := (ext_lo x 3#7 0 7 (by decide)).trans (ext_all _)
  exact ofWord 3#7 he h (by decide) (fun _ => (major3 h).trans hd)

theorem major11 {w : BitVec 32} (h : w.extractLsb' 0 7 = 11#7) : decodeMajor w = decodeCustom0 w := by
  simp only [decodeMajor, h, BitVec.reduceToNat]

/-- An instruction of major opcode 11. -/
theorem of11 {i : Instr} {x : BitVec 25} (he : encodeWord i = some (x ++ 11#7)) (hd : decodeCustom0 (x ++ 11#7) = .ok i) :
    Statement i := by
  have h : (x ++ 11#7).extractLsb' 0 7 = 11#7 := (ext_lo x 11#7 0 7 (by decide)).trans (ext_all _)
  exact ofWord 11#7 he h (by decide) (fun _ => (major11 h).trans hd)

theorem major15 {w : BitVec 32} (h : w.extractLsb' 0 7 = 15#7) : decodeMajor w = decodeMiscMem w := by
  simp only [decodeMajor, h, BitVec.reduceToNat]

/-- An instruction of major opcode 15. -/
theorem of15 {i : Instr} {x : BitVec 25} (he : encodeWord i = some (x ++ 15#7)) (hd : decodeMiscMem (x ++ 15#7) = .ok i) :
    Statement i := by
  have h : (x ++ 15#7).extractLsb' 0 7 = 15#7 := (ext_lo x 15#7 0 7 (by decide)).trans (ext_all _)
  exact ofWord 15#7 he h (by decide) (fun _ => (major15 h).trans hd)

theorem major19 {w : BitVec 32} (h : w.extractLsb' 0 7 = 19#7) : decodeMajor w = decodeOpImm w := by
  simp only [decodeMajor, h, BitVec.reduceToNat]

/-- An instruction of major opcode 19. -/
theorem of19 {i : Instr} {x : BitVec 25} (he : encodeWord i = some (x ++ 19#7)) (hd : decodeOpImm (x ++ 19#7) = .ok i) :
    Statement i := by
  have h : (x ++ 19#7).extractLsb' 0 7 = 19#7 := (ext_lo x 19#7 0 7 (by decide)).trans (ext_all _)
  exact ofWord 19#7 he h (by decide) (fun _ => (major19 h).trans hd)

theorem major23 {w : BitVec 32} (h : w.extractLsb' 0 7 = 23#7) : decodeMajor w = decodeAuipc w := by
  simp only [decodeMajor, h, BitVec.reduceToNat]

/-- An instruction of major opcode 23. -/
theorem of23 {i : Instr} {x : BitVec 25} (he : encodeWord i = some (x ++ 23#7)) (hd : decodeAuipc (x ++ 23#7) = .ok i) :
    Statement i := by
  have h : (x ++ 23#7).extractLsb' 0 7 = 23#7 := (ext_lo x 23#7 0 7 (by decide)).trans (ext_all _)
  exact ofWord 23#7 he h (by decide) (fun _ => (major23 h).trans hd)

theorem major27 {w : BitVec 32} (h : w.extractLsb' 0 7 = 27#7) : decodeMajor w = decodeOpImm32 w := by
  simp only [decodeMajor, h, BitVec.reduceToNat]

/-- An instruction of major opcode 27. -/
theorem of27 {i : Instr} {x : BitVec 25} (he : encodeWord i = some (x ++ 27#7)) (hd : decodeOpImm32 (x ++ 27#7) = .ok i) :
    Statement i := by
  have h : (x ++ 27#7).extractLsb' 0 7 = 27#7 := (ext_lo x 27#7 0 7 (by decide)).trans (ext_all _)
  exact ofWord 27#7 he h (by decide) (fun _ => (major27 h).trans hd)

theorem major35 {w : BitVec 32} (h : w.extractLsb' 0 7 = 35#7) : decodeMajor w = decodeStore w := by
  simp only [decodeMajor, h, BitVec.reduceToNat]

/-- An instruction of major opcode 35. -/
theorem of35 {i : Instr} {x : BitVec 25} (he : encodeWord i = some (x ++ 35#7)) (hd : decodeStore (x ++ 35#7) = .ok i) :
    Statement i := by
  have h : (x ++ 35#7).extractLsb' 0 7 = 35#7 := (ext_lo x 35#7 0 7 (by decide)).trans (ext_all _)
  exact ofWord 35#7 he h (by decide) (fun _ => (major35 h).trans hd)

theorem major43 {w : BitVec 32} (h : w.extractLsb' 0 7 = 43#7) : decodeMajor w = decodeCustom1 w := by
  simp only [decodeMajor, h, BitVec.reduceToNat]

/-- An instruction of major opcode 43. -/
theorem of43 {i : Instr} {x : BitVec 25} (he : encodeWord i = some (x ++ 43#7)) (hd : decodeCustom1 (x ++ 43#7) = .ok i) :
    Statement i := by
  have h : (x ++ 43#7).extractLsb' 0 7 = 43#7 := (ext_lo x 43#7 0 7 (by decide)).trans (ext_all _)
  exact ofWord 43#7 he h (by decide) (fun _ => (major43 h).trans hd)

theorem major47 {w : BitVec 32} (h : w.extractLsb' 0 7 = 47#7) : decodeMajor w = decodeAmo w := by
  simp only [decodeMajor, h, BitVec.reduceToNat]

/-- An instruction of major opcode 47. -/
theorem of47 {i : Instr} {x : BitVec 25} (he : encodeWord i = some (x ++ 47#7)) (hd : decodeAmo (x ++ 47#7) = .ok i) :
    Statement i := by
  have h : (x ++ 47#7).extractLsb' 0 7 = 47#7 := (ext_lo x 47#7 0 7 (by decide)).trans (ext_all _)
  exact ofWord 47#7 he h (by decide) (fun _ => (major47 h).trans hd)

theorem major51 {w : BitVec 32} (h : w.extractLsb' 0 7 = 51#7) : decodeMajor w = decodeOp w := by
  simp only [decodeMajor, h, BitVec.reduceToNat]

/-- An instruction of major opcode 51. -/
theorem of51 {i : Instr} {x : BitVec 25} (he : encodeWord i = some (x ++ 51#7)) (hd : decodeOp (x ++ 51#7) = .ok i) :
    Statement i := by
  have h : (x ++ 51#7).extractLsb' 0 7 = 51#7 := (ext_lo x 51#7 0 7 (by decide)).trans (ext_all _)
  exact ofWord 51#7 he h (by decide) (fun _ => (major51 h).trans hd)

theorem major55 {w : BitVec 32} (h : w.extractLsb' 0 7 = 55#7) : decodeMajor w = decodeLui w := by
  simp only [decodeMajor, h, BitVec.reduceToNat]

/-- An instruction of major opcode 55. -/
theorem of55 {i : Instr} {x : BitVec 25} (he : encodeWord i = some (x ++ 55#7)) (hd : decodeLui (x ++ 55#7) = .ok i) :
    Statement i := by
  have h : (x ++ 55#7).extractLsb' 0 7 = 55#7 := (ext_lo x 55#7 0 7 (by decide)).trans (ext_all _)
  exact ofWord 55#7 he h (by decide) (fun _ => (major55 h).trans hd)

theorem major59 {w : BitVec 32} (h : w.extractLsb' 0 7 = 59#7) : decodeMajor w = decodeOp32 w := by
  simp only [decodeMajor, h, BitVec.reduceToNat]

/-- An instruction of major opcode 59. -/
theorem of59 {i : Instr} {x : BitVec 25} (he : encodeWord i = some (x ++ 59#7)) (hd : decodeOp32 (x ++ 59#7) = .ok i) :
    Statement i := by
  have h : (x ++ 59#7).extractLsb' 0 7 = 59#7 := (ext_lo x 59#7 0 7 (by decide)).trans (ext_all _)
  exact ofWord 59#7 he h (by decide) (fun _ => (major59 h).trans hd)

theorem major91 {w : BitVec 32} (h : w.extractLsb' 0 7 = 91#7) : decodeMajor w = decodeCustom2 w := by
  simp only [decodeMajor, h, BitVec.reduceToNat]

/-- An instruction of major opcode 91. -/
theorem of91 {i : Instr} {x : BitVec 25} (he : encodeWord i = some (x ++ 91#7)) (hd : decodeCustom2 (x ++ 91#7) = .ok i) :
    Statement i := by
  have h : (x ++ 91#7).extractLsb' 0 7 = 91#7 := (ext_lo x 91#7 0 7 (by decide)).trans (ext_all _)
  exact ofWord 91#7 he h (by decide) (fun _ => (major91 h).trans hd)

theorem major99 {w : BitVec 32} (h : w.extractLsb' 0 7 = 99#7) : decodeMajor w = decodeBranch w := by
  simp only [decodeMajor, h, BitVec.reduceToNat]

/-- An instruction of major opcode 99. -/
theorem of99 {i : Instr} {x : BitVec 25} (he : encodeWord i = some (x ++ 99#7)) (hd : decodeBranch (x ++ 99#7) = .ok i) :
    Statement i := by
  have h : (x ++ 99#7).extractLsb' 0 7 = 99#7 := (ext_lo x 99#7 0 7 (by decide)).trans (ext_all _)
  exact ofWord 99#7 he h (by decide) (fun _ => (major99 h).trans hd)

theorem major103 {w : BitVec 32} (h : w.extractLsb' 0 7 = 103#7) : decodeMajor w = decodeJalr w := by
  simp only [decodeMajor, h, BitVec.reduceToNat]

/-- An instruction of major opcode 103. -/
theorem of103 {i : Instr} {x : BitVec 25} (he : encodeWord i = some (x ++ 103#7)) (hd : decodeJalr (x ++ 103#7) = .ok i) :
    Statement i := by
  have h : (x ++ 103#7).extractLsb' 0 7 = 103#7 := (ext_lo x 103#7 0 7 (by decide)).trans (ext_all _)
  exact ofWord 103#7 he h (by decide) (fun _ => (major103 h).trans hd)

theorem major111 {w : BitVec 32} (h : w.extractLsb' 0 7 = 111#7) : decodeMajor w = decodeJal w := by
  simp only [decodeMajor, h, BitVec.reduceToNat]

/-- An instruction of major opcode 111. -/
theorem of111 {i : Instr} {x : BitVec 25} (he : encodeWord i = some (x ++ 111#7)) (hd : decodeJal (x ++ 111#7) = .ok i) :
    Statement i := by
  have h : (x ++ 111#7).extractLsb' 0 7 = 111#7 := (ext_lo x 111#7 0 7 (by decide)).trans (ext_all _)
  exact ofWord 111#7 he h (by decide) (fun _ => (major111 h).trans hd)

theorem major115 {w : BitVec 32} (h : w.extractLsb' 0 7 = 115#7) : decodeMajor w = decodeSystem w := by
  simp only [decodeMajor, h, BitVec.reduceToNat]

/-- An instruction of major opcode 115. -/
theorem of115 {i : Instr} {x : BitVec 25} (he : encodeWord i = some (x ++ 115#7)) (hd : decodeSystem (x ++ 115#7) = .ok i) :
    Statement i := by
  have h : (x ++ 115#7).extractLsb' 0 7 = 115#7 := (ext_lo x 115#7 0 7 (by decide)).trans (ext_all _)
  exact ofWord 115#7 he h (by decide) (fun _ => (major115 h).trans hd)

theorem major123 {w : BitVec 32} (h : w.extractLsb' 0 7 = 123#7) : decodeMajor w = decodeCustom3 w := by
  simp only [decodeMajor, h, BitVec.reduceToNat]

/-- An instruction of major opcode 123. -/
theorem of123 {i : Instr} {x : BitVec 25} (he : encodeWord i = some (x ++ 123#7)) (hd : decodeCustom3 (x ++ 123#7) = .ok i) :
    Statement i := by
  have h : (x ++ 123#7).extractLsb' 0 7 = 123#7 := (ext_lo x 123#7 0 7 (by decide)).trans (ext_all _)
  exact ofWord 123#7 he h (by decide) (fun _ => (major123 h).trans hd)

/-- A selector with its high bit clear. -/
theorem custom30 {w : BitVec 32} (h : w.extractLsb' 14 1 = 0#1) : decodeCustom3 w = decodeCustom30 w := by
  have hv : (w.extractLsb' 12 3).toNat < 4 := by
    have h1 : w.extractLsb' 12 3 = w.extractLsb' 14 1 ++ w.extractLsb' 12 2 := (ext_append w 14 1 12 2 rfl).symm
    rw [h1, h]
    generalize w.extractLsb' 12 2 = x
    revert x
    decide
  obtain g | g | g | g : (w.extractLsb' 12 3).toNat = 0 ∨ (w.extractLsb' 12 3).toNat = 1 ∨ (w.extractLsb' 12 3).toNat = 2 ∨
      (w.extractLsb' 12 3).toNat = 3 := by omega
  all_goals simp only [decodeCustom3, g]

/-- Words that differ in a field. -/
theorem field_ne {n m : Nat} {w v : BitVec n} (a : Nat) {x : BitVec m} (h : w.extractLsb' a m = x)
    (hv : v.extractLsb' a m ≠ x) : w ≠ v := by
  intro e
  exact hv (e ▸ h)

/-- A parcel with a field that is not zero is not zero. -/
theorem parcel_ne {p : BitVec 16} (a : Nat) {n : Nat} {x : BitVec n} (h : p.extractLsb' a n = x) (hx : x ≠ 0#n) :
    p ≠ 0#16 := by
  intro e
  apply hx
  rw [← h, e]
  apply BitVec.eq_of_getLsbD_eq
  intro i hi
  simp

/-! ## The instructions -/

theorem vadd (vd vs1 vs2 : BitVec 5) (pg et : BitVec 2) : Statement (.vadd vd vs1 vs2 pg et) :=
  of43 rfl (by
    simp (disch := decide) only [decodeCustom1, decodeCustom1Int, ext_hi, ext_lo, ext_all, Nat.reduceSub, BitVec.reduceToNat, BitVec.reduceExtractLsb', and_self, ↓reduceIte, BitVec.reduceEq])
theorem vsub (vd vs1 vs2 : BitVec 5) (pg et : BitVec 2) : Statement (.vsub vd vs1 vs2 pg et) :=
  of43 rfl (by
    simp (disch := decide) only [decodeCustom1, decodeCustom1Int, ext_hi, ext_lo, ext_all, Nat.reduceSub, BitVec.reduceToNat, BitVec.reduceExtractLsb', and_self, ↓reduceIte, BitVec.reduceEq])
theorem vmul (vd vs1 vs2 : BitVec 5) (pg et : BitVec 2) : Statement (.vmul vd vs1 vs2 pg et) :=
  of43 rfl (by
    simp (disch := decide) only [decodeCustom1, decodeCustom1Int, ext_hi, ext_lo, ext_all, Nat.reduceSub, BitVec.reduceToNat, BitVec.reduceExtractLsb', and_self, ↓reduceIte, BitVec.reduceEq])
theorem vmulh (vd vs1 vs2 : BitVec 5) (pg et : BitVec 2) : Statement (.vmulh vd vs1 vs2 pg et) :=
  of43 rfl (by
    simp (disch := decide) only [decodeCustom1, decodeCustom1Int, ext_hi, ext_lo, ext_all, Nat.reduceSub, BitVec.reduceToNat, BitVec.reduceExtractLsb', and_self, ↓reduceIte, BitVec.reduceEq])
theorem vmulhn (vd vs1 vs2 : BitVec 5) (pg et : BitVec 2) : Statement (.vmulhn vd vs1 vs2 pg et) :=
  of43 rfl (by
    simp (disch := decide) only [decodeCustom1, decodeCustom1Int, ext_hi, ext_lo, ext_all, Nat.reduceSub, BitVec.reduceToNat, BitVec.reduceExtractLsb', and_self, ↓reduceIte, BitVec.reduceEq])
theorem vand (vd vs1 vs2 : BitVec 5) (pg et : BitVec 2) : Statement (.vand vd vs1 vs2 pg et) :=
  of43 rfl (by
    simp (disch := decide) only [decodeCustom1, decodeCustom1Int, ext_hi, ext_lo, ext_all, Nat.reduceSub, BitVec.reduceToNat, BitVec.reduceExtractLsb', and_self, ↓reduceIte, BitVec.reduceEq])
theorem vor (vd vs1 vs2 : BitVec 5) (pg et : BitVec 2) : Statement (.vor vd vs1 vs2 pg et) :=
  of43 rfl (by
    simp (disch := decide) only [decodeCustom1, decodeCustom1Int, ext_hi, ext_lo, ext_all, Nat.reduceSub, BitVec.reduceToNat, BitVec.reduceExtractLsb', and_self, ↓reduceIte, BitVec.reduceEq])
theorem vxor (vd vs1 vs2 : BitVec 5) (pg et : BitVec 2) : Statement (.vxor vd vs1 vs2 pg et) :=
  of43 rfl (by
    simp (disch := decide) only [decodeCustom1, decodeCustom1Int, ext_hi, ext_lo, ext_all, Nat.reduceSub, BitVec.reduceToNat, BitVec.reduceExtractLsb', and_self, ↓reduceIte, BitVec.reduceEq])
theorem vshl (vd vs1 vs2 : BitVec 5) (pg et : BitVec 2) : Statement (.vshl vd vs1 vs2 pg et) :=
  of43 rfl (by
    simp (disch := decide) only [decodeCustom1, decodeCustom1Int, ext_hi, ext_lo, ext_all, Nat.reduceSub, BitVec.reduceToNat, BitVec.reduceExtractLsb', and_self, ↓reduceIte, BitVec.reduceEq])
theorem vshr (vd vs1 vs2 : BitVec 5) (pg et : BitVec 2) : Statement (.vshr vd vs1 vs2 pg et) :=
  of43 rfl (by
    simp (disch := decide) only [decodeCustom1, decodeCustom1Int, ext_hi, ext_lo, ext_all, Nat.reduceSub, BitVec.reduceToNat, BitVec.reduceExtractLsb', and_self, ↓reduceIte, BitVec.reduceEq])
theorem vsra (vd vs1 vs2 : BitVec 5) (pg et : BitVec 2) : Statement (.vsra vd vs1 vs2 pg et) :=
  of43 rfl (by
    simp (disch := decide) only [decodeCustom1, decodeCustom1Int, ext_hi, ext_lo, ext_all, Nat.reduceSub, BitVec.reduceToNat, BitVec.reduceExtractLsb', and_self, ↓reduceIte, BitVec.reduceEq])
theorem vmin (vd vs1 vs2 : BitVec 5) (pg et : BitVec 2) : Statement (.vmin vd vs1 vs2 pg et) :=
  of43 rfl (by
    simp (disch := decide) only [decodeCustom1, decodeCustom1Int, ext_hi, ext_lo, ext_all, Nat.reduceSub, BitVec.reduceToNat, BitVec.reduceExtractLsb', and_self, ↓reduceIte, BitVec.reduceEq])
theorem vmax (vd vs1 vs2 : BitVec 5) (pg et : BitVec 2) : Statement (.vmax vd vs1 vs2 pg et) :=
  of43 rfl (by
    simp (disch := decide) only [decodeCustom1, decodeCustom1Int, ext_hi, ext_lo, ext_all, Nat.reduceSub, BitVec.reduceToNat, BitVec.reduceExtractLsb', and_self, ↓reduceIte, BitVec.reduceEq])
theorem vminn (vd vs1 vs2 : BitVec 5) (pg et : BitVec 2) : Statement (.vminn vd vs1 vs2 pg et) :=
  of43 rfl (by
    simp (disch := decide) only [decodeCustom1, decodeCustom1Int, ext_hi, ext_lo, ext_all, Nat.reduceSub, BitVec.reduceToNat, BitVec.reduceExtractLsb', and_self, ↓reduceIte, BitVec.reduceEq])
theorem vmaxn (vd vs1 vs2 : BitVec 5) (pg et : BitVec 2) : Statement (.vmaxn vd vs1 vs2 pg et) :=
  of43 rfl (by
    simp (disch := decide) only [decodeCustom1, decodeCustom1Int, ext_hi, ext_lo, ext_all, Nat.reduceSub, BitVec.reduceToNat, BitVec.reduceExtractLsb', and_self, ↓reduceIte, BitVec.reduceEq])
theorem vadds (vd vs1 vs2 : BitVec 5) (pg et : BitVec 2) : Statement (.vadds vd vs1 vs2 pg et) :=
  of43 rfl (by
    simp (disch := decide) only [decodeCustom1, decodeCustom1Int, ext_hi, ext_lo, ext_all, Nat.reduceSub, BitVec.reduceToNat, BitVec.reduceExtractLsb', and_self, ↓reduceIte, BitVec.reduceEq])
theorem vaddi (vd vs1 : BitVec 5) (pg : BitVec 2) (imm : BitVec 5) (et : BitVec 2) : Statement (.vaddi vd vs1 pg imm et) :=
  of43 rfl (by
    simp (disch := decide) only [decodeCustom1, decodeCustom1Int, ext_hi, ext_lo, ext_all, Nat.reduceSub, BitVec.reduceToNat, BitVec.reduceExtractLsb', and_self, ↓reduceIte, BitVec.reduceEq])
theorem vshli (vd vs1 : BitVec 5) (pg : BitVec 2) (imm : BitVec 5) (et : BitVec 2) : Statement (.vshli vd vs1 pg imm et) :=
  of43 rfl (by
    simp (disch := decide) only [decodeCustom1, decodeCustom1Int, ext_hi, ext_lo, ext_all, Nat.reduceSub, BitVec.reduceToNat, BitVec.reduceExtractLsb', and_self, ↓reduceIte, BitVec.reduceEq])
theorem vshri (vd vs1 : BitVec 5) (pg : BitVec 2) (imm : BitVec 5) (et : BitVec 2) : Statement (.vshri vd vs1 pg imm et) :=
  of43 rfl (by
    simp (disch := decide) only [decodeCustom1, decodeCustom1Int, ext_hi, ext_lo, ext_all, Nat.reduceSub, BitVec.reduceToNat, BitVec.reduceExtractLsb', and_self, ↓reduceIte, BitVec.reduceEq])
theorem vsrai (vd vs1 : BitVec 5) (pg : BitVec 2) (imm : BitVec 5) (et : BitVec 2) : Statement (.vsrai vd vs1 pg imm et) :=
  of43 rfl (by
    simp (disch := decide) only [decodeCustom1, decodeCustom1Int, ext_hi, ext_lo, ext_all, Nat.reduceSub, BitVec.reduceToNat, BitVec.reduceExtractLsb', and_self, ↓reduceIte, BitVec.reduceEq])
theorem vcmpeq (pd : BitVec 3) (vs1 vs2 : BitVec 5) (pg et : BitVec 2) : Statement (.vcmpeq pd vs1 vs2 pg et) :=
  of43 rfl (by
    simp (disch := decide) only [decodeCustom1, decodeCustom1Int, ext_hi, ext_lo, ext_all, Nat.reduceSub, BitVec.reduceToNat, BitVec.reduceExtractLsb', and_self, ↓reduceIte, BitVec.reduceEq])
theorem vcmplt (pd : BitVec 3) (vs1 vs2 : BitVec 5) (pg et : BitVec 2) : Statement (.vcmplt pd vs1 vs2 pg et) :=
  of43 rfl (by
    simp (disch := decide) only [decodeCustom1, decodeCustom1Int, ext_hi, ext_lo, ext_all, Nat.reduceSub, BitVec.reduceToNat, BitVec.reduceExtractLsb', and_self, ↓reduceIte, BitVec.reduceEq])
theorem vcmple (pd : BitVec 3) (vs1 vs2 : BitVec 5) (pg et : BitVec 2) : Statement (.vcmple pd vs1 vs2 pg et) :=
  of43 rfl (by
    simp (disch := decide) only [decodeCustom1, decodeCustom1Int, ext_hi, ext_lo, ext_all, Nat.reduceSub, BitVec.reduceToNat, BitVec.reduceExtractLsb', and_self, ↓reduceIte, BitVec.reduceEq])
theorem vcmpltn (pd : BitVec 3) (vs1 vs2 : BitVec 5) (pg et : BitVec 2) : Statement (.vcmpltn pd vs1 vs2 pg et) :=
  of43 rfl (by
    simp (disch := decide) only [decodeCustom1, decodeCustom1Int, ext_hi, ext_lo, ext_all, Nat.reduceSub, BitVec.reduceToNat, BitVec.reduceExtractLsb', and_self, ↓reduceIte, BitVec.reduceEq])
theorem vcnt (vd vs1 : BitVec 5) (pg et : BitVec 2) : Statement (.vcnt vd vs1 pg et) :=
  of43 rfl (by
    simp (disch := decide) only [decodeCustom1, decodeCustom1Int, ext_hi, ext_lo, ext_all, Nat.reduceSub, BitVec.reduceToNat, BitVec.reduceExtractLsb', and_self, ↓reduceIte, BitVec.reduceEq])
theorem vclz (vd vs1 : BitVec 5) (pg et : BitVec 2) : Statement (.vclz vd vs1 pg et) :=
  of43 rfl (by
    simp (disch := decide) only [decodeCustom1, decodeCustom1Int, ext_hi, ext_lo, ext_all, Nat.reduceSub, BitVec.reduceToNat, BitVec.reduceExtractLsb', and_self, ↓reduceIte, BitVec.reduceEq])
theorem vredsum (vd vs1 : BitVec 5) (pg et : BitVec 2) : Statement (.vredsum vd vs1 pg et) :=
  of43 rfl (by
    simp (disch := decide) only [decodeCustom1, decodeCustom1Int, ext_hi, ext_lo, ext_all, Nat.reduceSub, BitVec.reduceToNat, BitVec.reduceExtractLsb', and_self, ↓reduceIte, BitVec.reduceEq])
theorem vredmax (vd vs1 : BitVec 5) (pg et : BitVec 2) : Statement (.vredmax vd vs1 pg et) :=
  of43 rfl (by
    simp (disch := decide) only [decodeCustom1, decodeCustom1Int, ext_hi, ext_lo, ext_all, Nat.reduceSub, BitVec.reduceToNat, BitVec.reduceExtractLsb', and_self, ↓reduceIte, BitVec.reduceEq])
theorem vredmin (vd vs1 : BitVec 5) (pg et : BitVec 2) : Statement (.vredmin vd vs1 pg et) :=
  of43 rfl (by
    simp (disch := decide) only [decodeCustom1, decodeCustom1Int, ext_hi, ext_lo, ext_all, Nat.reduceSub, BitVec.reduceToNat, BitVec.reduceExtractLsb', and_self, ↓reduceIte, BitVec.reduceEq])
theorem vsel (vd vs1 vs2 : BitVec 5) (pg et : BitVec 2) : Statement (.vsel vd vs1 vs2 pg et) :=
  of43 rfl (by
    simp (disch := decide) only [decodeCustom1, decodeCustom1Int, ext_hi, ext_lo, ext_all, Nat.reduceSub, BitVec.reduceToNat, BitVec.reduceExtractLsb', and_self, ↓reduceIte, BitVec.reduceEq])
theorem vmovi (vd : BitVec 5) (pg : BitVec 2) (imm : BitVec 10) (et : BitVec 2) : Statement (.vmovi vd pg imm et) :=
  of43 rfl (by
    simp (disch := decide) only [decodeCustom1, decodeCustom1Int, ext_hi, ext_lo, ext_all, Nat.reduceSub, BitVec.reduceToNat, BitVec.reduceExtractLsb', and_self, ↓reduceIte, BitVec.reduceEq])
theorem vmacc (vd vs1 vs2 : BitVec 5) (pg et : BitVec 2) : Statement (.vmacc vd vs1 vs2 pg et) :=
  of43 rfl (by
    simp (disch := decide) only [decodeCustom1, decodeCustom1Int, ext_hi, ext_lo, ext_all, Nat.reduceSub, BitVec.reduceToNat, BitVec.reduceExtractLsb', and_self, ↓reduceIte, BitVec.reduceEq])
theorem vfadd (vd vs1 vs2 : BitVec 5) (pg et : BitVec 2) : Statement (.vfadd vd vs1 vs2 pg et) :=
  of43 rfl (by
    simp (disch := decide) only [decodeCustom1, decodeCustom1Float, ext_hi, ext_lo, ext_all, Nat.reduceSub, BitVec.reduceToNat, BitVec.reduceExtractLsb', and_self, ↓reduceIte, BitVec.reduceEq])
theorem vfsub (vd vs1 vs2 : BitVec 5) (pg et : BitVec 2) : Statement (.vfsub vd vs1 vs2 pg et) :=
  of43 rfl (by
    simp (disch := decide) only [decodeCustom1, decodeCustom1Float, ext_hi, ext_lo, ext_all, Nat.reduceSub, BitVec.reduceToNat, BitVec.reduceExtractLsb', and_self, ↓reduceIte, BitVec.reduceEq])
theorem vfmul (vd vs1 vs2 : BitVec 5) (pg et : BitVec 2) : Statement (.vfmul vd vs1 vs2 pg et) :=
  of43 rfl (by
    simp (disch := decide) only [decodeCustom1, decodeCustom1Float, ext_hi, ext_lo, ext_all, Nat.reduceSub, BitVec.reduceToNat, BitVec.reduceExtractLsb', and_self, ↓reduceIte, BitVec.reduceEq])
theorem vfma (vd vs1 vs2 : BitVec 5) (pg et : BitVec 2) : Statement (.vfma vd vs1 vs2 pg et) :=
  of43 rfl (by
    simp (disch := decide) only [decodeCustom1, decodeCustom1Float, ext_hi, ext_lo, ext_all, Nat.reduceSub, BitVec.reduceToNat, BitVec.reduceExtractLsb', and_self, ↓reduceIte, BitVec.reduceEq])
theorem vfms (vd vs1 vs2 : BitVec 5) (pg et : BitVec 2) : Statement (.vfms vd vs1 vs2 pg et) :=
  of43 rfl (by
    simp (disch := decide) only [decodeCustom1, decodeCustom1Float, ext_hi, ext_lo, ext_all, Nat.reduceSub, BitVec.reduceToNat, BitVec.reduceExtractLsb', and_self, ↓reduceIte, BitVec.reduceEq])
theorem vfdiv (vd vs1 vs2 : BitVec 5) (pg et : BitVec 2) : Statement (.vfdiv vd vs1 vs2 pg et) :=
  of43 rfl (by
    simp (disch := decide) only [decodeCustom1, decodeCustom1Float, ext_hi, ext_lo, ext_all, Nat.reduceSub, BitVec.reduceToNat, BitVec.reduceExtractLsb', and_self, ↓reduceIte, BitVec.reduceEq])
theorem vfsqrt (vd vs1 : BitVec 5) (pg et : BitVec 2) : Statement (.vfsqrt vd vs1 pg et) :=
  of43 rfl (by
    simp (disch := decide) only [decodeCustom1, decodeCustom1Float, ext_hi, ext_lo, ext_all, Nat.reduceSub, BitVec.reduceToNat, BitVec.reduceExtractLsb', and_self, ↓reduceIte, BitVec.reduceEq])
theorem vfmin (vd vs1 vs2 : BitVec 5) (pg et : BitVec 2) : Statement (.vfmin vd vs1 vs2 pg et) :=
  of43 rfl (by
    simp (disch := decide) only [decodeCustom1, decodeCustom1Float, ext_hi, ext_lo, ext_all, Nat.reduceSub, BitVec.reduceToNat, BitVec.reduceExtractLsb', and_self, ↓reduceIte, BitVec.reduceEq])
theorem vfmax (vd vs1 vs2 : BitVec 5) (pg et : BitVec 2) : Statement (.vfmax vd vs1 vs2 pg et) :=
  of43 rfl (by
    simp (disch := decide) only [decodeCustom1, decodeCustom1Float, ext_hi, ext_lo, ext_all, Nat.reduceSub, BitVec.reduceToNat, BitVec.reduceExtractLsb', and_self, ↓reduceIte, BitVec.reduceEq])
theorem vfabs (vd vs1 : BitVec 5) (pg et : BitVec 2) : Statement (.vfabs vd vs1 pg et) :=
  of43 rfl (by
    simp (disch := decide) only [decodeCustom1, decodeCustom1Float, ext_hi, ext_lo, ext_all, Nat.reduceSub, BitVec.reduceToNat, BitVec.reduceExtractLsb', and_self, ↓reduceIte, BitVec.reduceEq])
theorem vfneg (vd vs1 : BitVec 5) (pg et : BitVec 2) : Statement (.vfneg vd vs1 pg et) :=
  of43 rfl (by
    simp (disch := decide) only [decodeCustom1, decodeCustom1Float, ext_hi, ext_lo, ext_all, Nat.reduceSub, BitVec.reduceToNat, BitVec.reduceExtractLsb', and_self, ↓reduceIte, BitVec.reduceEq])
theorem vfexp2 (vd vs1 : BitVec 5) (pg et : BitVec 2) : Statement (.vfexp2 vd vs1 pg et) :=
  of43 rfl (by
    simp (disch := decide) only [decodeCustom1, decodeCustom1Float, ext_hi, ext_lo, ext_all, Nat.reduceSub, BitVec.reduceToNat, BitVec.reduceExtractLsb', and_self, ↓reduceIte, BitVec.reduceEq])
theorem vflog2 (vd vs1 : BitVec 5) (pg et : BitVec 2) : Statement (.vflog2 vd vs1 pg et) :=
  of43 rfl (by
    simp (disch := decide) only [decodeCustom1, decodeCustom1Float, ext_hi, ext_lo, ext_all, Nat.reduceSub, BitVec.reduceToNat, BitVec.reduceExtractLsb', and_self, ↓reduceIte, BitVec.reduceEq])
theorem vfrcp (vd vs1 : BitVec 5) (pg et : BitVec 2) : Statement (.vfrcp vd vs1 pg et) :=
  of43 rfl (by
    simp (disch := decide) only [decodeCustom1, decodeCustom1Float, ext_hi, ext_lo, ext_all, Nat.reduceSub, BitVec.reduceToNat, BitVec.reduceExtractLsb', and_self, ↓reduceIte, BitVec.reduceEq])
theorem vfcmpeq (pd : BitVec 3) (vs1 vs2 : BitVec 5) (pg et : BitVec 2) : Statement (.vfcmpeq pd vs1 vs2 pg et) :=
  of43 rfl (by
    simp (disch := decide) only [decodeCustom1, decodeCustom1Float, ext_hi, ext_lo, ext_all, Nat.reduceSub, BitVec.reduceToNat, BitVec.reduceExtractLsb', and_self, ↓reduceIte, BitVec.reduceEq])
theorem vfcmplt (pd : BitVec 3) (vs1 vs2 : BitVec 5) (pg et : BitVec 2) : Statement (.vfcmplt pd vs1 vs2 pg et) :=
  of43 rfl (by
    simp (disch := decide) only [decodeCustom1, decodeCustom1Float, ext_hi, ext_lo, ext_all, Nat.reduceSub, BitVec.reduceToNat, BitVec.reduceExtractLsb', and_self, ↓reduceIte, BitVec.reduceEq])
theorem vfcmple (pd : BitVec 3) (vs1 vs2 : BitVec 5) (pg et : BitVec 2) : Statement (.vfcmple pd vs1 vs2 pg et) :=
  of43 rfl (by
    simp (disch := decide) only [decodeCustom1, decodeCustom1Float, ext_hi, ext_lo, ext_all, Nat.reduceSub, BitVec.reduceToNat, BitVec.reduceExtractLsb', and_self, ↓reduceIte, BitVec.reduceEq])
theorem vfcmpun (pd : BitVec 3) (vs1 vs2 : BitVec 5) (pg et : BitVec 2) : Statement (.vfcmpun pd vs1 vs2 pg et) :=
  of43 rfl (by
    simp (disch := decide) only [decodeCustom1, decodeCustom1Float, ext_hi, ext_lo, ext_all, Nat.reduceSub, BitVec.reduceToNat, BitVec.reduceExtractLsb', and_self, ↓reduceIte, BitVec.reduceEq])
theorem vfredsum (vd vs1 : BitVec 5) (pg et : BitVec 2) : Statement (.vfredsum vd vs1 pg et) :=
  of43 rfl (by
    simp (disch := decide) only [decodeCustom1, decodeCustom1Float, ext_hi, ext_lo, ext_all, Nat.reduceSub, BitVec.reduceToNat, BitVec.reduceExtractLsb', and_self, ↓reduceIte, BitVec.reduceEq])
theorem vfredmax (vd vs1 : BitVec 5) (pg et : BitVec 2) : Statement (.vfredmax vd vs1 pg et) :=
  of43 rfl (by
    simp (disch := decide) only [decodeCustom1, decodeCustom1Float, ext_hi, ext_lo, ext_all, Nat.reduceSub, BitVec.reduceToNat, BitVec.reduceExtractLsb', and_self, ↓reduceIte, BitVec.reduceEq])
theorem vfredmin (vd vs1 : BitVec 5) (pg et : BitVec 2) : Statement (.vfredmin vd vs1 pg et) :=
  of43 rfl (by
    simp (disch := decide) only [decodeCustom1, decodeCustom1Float, ext_hi, ext_lo, ext_all, Nat.reduceSub, BitVec.reduceToNat, BitVec.reduceExtractLsb', and_self, ↓reduceIte, BitVec.reduceEq])
theorem vfcvt (vd vs1 : BitVec 5) (pg : BitVec 2) (ty : BitVec 5) (et : BitVec 2) : Statement (.vfcvt vd vs1 pg ty et) :=
  of43 rfl (by
    simp (disch := decide) only [decodeCustom1, decodeCustom1Float, ext_hi, ext_lo, ext_all, Nat.reduceSub, BitVec.reduceToNat, BitVec.reduceExtractLsb', and_self, ↓reduceIte, BitVec.reduceEq])
theorem vfcvti (vd vs1 : BitVec 5) (pg : BitVec 2) (ty : BitVec 5) (et : BitVec 2) : Statement (.vfcvti vd vs1 pg ty et) :=
  of43 rfl (by
    simp (disch := decide) only [decodeCustom1, decodeCustom1Float, ext_hi, ext_lo, ext_all, Nat.reduceSub, BitVec.reduceToNat, BitVec.reduceExtractLsb', and_self, ↓reduceIte, BitVec.reduceEq])
theorem vicvtf (vd vs1 : BitVec 5) (pg : BitVec 2) (ty : BitVec 5) (et : BitVec 2) : Statement (.vicvtf vd vs1 pg ty et) :=
  of43 rfl (by
    simp (disch := decide) only [decodeCustom1, decodeCustom1Float, ext_hi, ext_lo, ext_all, Nat.reduceSub, BitVec.reduceToNat, BitVec.reduceExtractLsb', and_self, ↓reduceIte, BitVec.reduceEq])
theorem vfwmacc (vd vs1 vs2 : BitVec 5) (pg et : BitVec 2) : Statement (.vfwmacc vd vs1 vs2 pg et) :=
  of43 rfl (by
    simp (disch := decide) only [decodeCustom1, decodeCustom1Float, ext_hi, ext_lo, ext_all, Nat.reduceSub, BitVec.reduceToNat, BitVec.reduceExtractLsb', and_self, ↓reduceIte, BitVec.reduceEq])
theorem vfclass (vd vs1 : BitVec 5) (pg et : BitVec 2) : Statement (.vfclass vd vs1 pg et) :=
  of43 rfl (by
    simp (disch := decide) only [decodeCustom1, decodeCustom1Float, ext_hi, ext_lo, ext_all, Nat.reduceSub, BitVec.reduceToNat, BitVec.reduceExtractLsb', and_self, ↓reduceIte, BitVec.reduceEq])
theorem vfround (vd vs1 : BitVec 5) (pg et : BitVec 2) : Statement (.vfround vd vs1 pg et) :=
  of43 rfl (by
    simp (disch := decide) only [decodeCustom1, decodeCustom1Float, ext_hi, ext_lo, ext_all, Nat.reduceSub, BitVec.reduceToNat, BitVec.reduceExtractLsb', and_self, ↓reduceIte, BitVec.reduceEq])
theorem vfscale (vd vs1 vs2 : BitVec 5) (pg et : BitVec 2) : Statement (.vfscale vd vs1 vs2 pg et) :=
  of43 rfl (by
    simp (disch := decide) only [decodeCustom1, decodeCustom1Float, ext_hi, ext_lo, ext_all, Nat.reduceSub, BitVec.reduceToNat, BitVec.reduceExtractLsb', and_self, ↓reduceIte, BitVec.reduceEq])
theorem vfrsqrt (vd vs1 : BitVec 5) (pg et : BitVec 2) : Statement (.vfrsqrt vd vs1 pg et) :=
  of43 rfl (by
    simp (disch := decide) only [decodeCustom1, decodeCustom1Float, ext_hi, ext_lo, ext_all, Nat.reduceSub, BitVec.reduceToNat, BitVec.reduceExtractLsb', and_self, ↓reduceIte, BitVec.reduceEq])
theorem vfmaxnum (vd vs1 vs2 : BitVec 5) (pg et : BitVec 2) : Statement (.vfmaxnum vd vs1 vs2 pg et) :=
  of43 rfl (by
    simp (disch := decide) only [decodeCustom1, decodeCustom1Float, ext_hi, ext_lo, ext_all, Nat.reduceSub, BitVec.reduceToNat, BitVec.reduceExtractLsb', and_self, ↓reduceIte, BitVec.reduceEq])
theorem vmoviF (vd : BitVec 5) (pg : BitVec 2) (imm : BitVec 8) (et : BitVec 2) : Statement (.vmoviF vd pg imm et) :=
  of43 rfl (by
    simp (disch := decide) only [decodeCustom1, decodeCustom1Float, ext_hi, ext_lo, ext_all, Nat.reduceSub, BitVec.reduceToNat, BitVec.reduceExtractLsb', and_self, ↓reduceIte, BitVec.reduceEq])
theorem vfminnum (vd vs1 vs2 : BitVec 5) (pg et : BitVec 2) : Statement (.vfminnum vd vs1 vs2 pg et) :=
  of43 rfl (by
    simp (disch := decide) only [decodeCustom1, decodeCustom1Float, ext_hi, ext_lo, ext_all, Nat.reduceSub, BitVec.reduceToNat, BitVec.reduceExtractLsb', and_self, ↓reduceIte, BitVec.reduceEq])
theorem vbcast (vd rs1 : BitVec 5) (w : BitVec 2) : Statement (.vbcast vd rs1 w) :=
  of91 rfl (by
    simp (disch := decide) only [decodeCustom2, decodeCustom20, ext_hi, ext_lo, ext_all, Nat.reduceSub, BitVec.reduceToNat, BitVec.reduceExtractLsb', and_self, ↓reduceIte, BitVec.reduceEq])
theorem vext (rd vs1 rs2 : BitVec 5) (w : BitVec 2) : Statement (.vext rd vs1 rs2 w) :=
  of91 rfl (by
    simp (disch := decide) only [decodeCustom2, decodeCustom20, ext_hi, ext_lo, ext_all, Nat.reduceSub, BitVec.reduceToNat, BitVec.reduceExtractLsb', and_self, ↓reduceIte, BitVec.reduceEq])
theorem vins (vd rs1 rs2 : BitVec 5) (w : BitVec 2) : Statement (.vins vd rs1 rs2 w) :=
  of91 rfl (by
    simp (disch := decide) only [decodeCustom2, decodeCustom20, ext_hi, ext_lo, ext_all, Nat.reduceSub, BitVec.reduceToNat, BitVec.reduceExtractLsb', and_self, ↓reduceIte, BitVec.reduceEq])
theorem vperm (vd vs1 vs2 : BitVec 5) (w : BitVec 2) : Statement (.vperm vd vs1 vs2 w) :=
  of91 rfl (by
    simp (disch := decide) only [decodeCustom2, decodeCustom20, ext_hi, ext_lo, ext_all, Nat.reduceSub, BitVec.reduceToNat, BitVec.reduceExtractLsb', and_self, ↓reduceIte, BitVec.reduceEq])
theorem vslideup (vd vs1 rs2 : BitVec 5) (w : BitVec 2) : Statement (.vslideup vd vs1 rs2 w) :=
  of91 rfl (by
    simp (disch := decide) only [decodeCustom2, decodeCustom20, ext_hi, ext_lo, ext_all, Nat.reduceSub, BitVec.reduceToNat, BitVec.reduceExtractLsb', and_self, ↓reduceIte, BitVec.reduceEq])
theorem vslidedn (vd vs1 rs2 : BitVec 5) (w : BitVec 2) : Statement (.vslidedn vd vs1 rs2 w) :=
  of91 rfl (by
    simp (disch := decide) only [decodeCustom2, decodeCustom20, ext_hi, ext_lo, ext_all, Nat.reduceSub, BitVec.reduceToNat, BitVec.reduceExtractLsb', and_self, ↓reduceIte, BitVec.reduceEq])
theorem vzip (vd vs1 vs2 : BitVec 5) (w : BitVec 2) : Statement (.vzip vd vs1 vs2 w) :=
  of91 rfl (by
    simp (disch := decide) only [decodeCustom2, decodeCustom20, ext_hi, ext_lo, ext_all, Nat.reduceSub, BitVec.reduceToNat, BitVec.reduceExtractLsb', and_self, ↓reduceIte, BitVec.reduceEq])
theorem vunzip (vd vs1 : BitVec 5) (w : BitVec 2) : Statement (.vunzip vd vs1 w) :=
  of91 rfl (by
    simp (disch := decide) only [decodeCustom2, decodeCustom20, ext_hi, ext_lo, ext_all, Nat.reduceSub, BitVec.reduceToNat, BitVec.reduceExtractLsb', and_self, ↓reduceIte, BitVec.reduceEq])
theorem vrev (vd vs1 : BitVec 5) (w : BitVec 2) : Statement (.vrev vd vs1 w) :=
  of91 rfl (by
    simp (disch := decide) only [decodeCustom2, decodeCustom20, ext_hi, ext_lo, ext_all, Nat.reduceSub, BitVec.reduceToNat, BitVec.reduceExtractLsb', and_self, ↓reduceIte, BitVec.reduceEq])
theorem vcompress (vd vs1 : BitVec 5) (ps2 : BitVec 3) (w : BitVec 2) : Statement (.vcompress vd vs1 ps2 w) :=
  of91 rfl (by
    simp (disch := decide) only [decodeCustom2, decodeCustom20, ext_hi, ext_lo, ext_all, Nat.reduceSub, BitVec.reduceToNat, BitVec.reduceExtractLsb', and_self, ↓reduceIte, BitVec.reduceEq])
theorem pand (pd ps1 ps2 : BitVec 3) : Statement (.pand pd ps1 ps2) :=
  of91 rfl (by
    simp (disch := decide) only [decodeCustom2, decodeCustom20, ext_hi, ext_lo, ext_all, Nat.reduceSub, BitVec.reduceToNat, BitVec.reduceExtractLsb', and_self, ↓reduceIte, BitVec.reduceEq])
theorem por (pd ps1 ps2 : BitVec 3) : Statement (.por pd ps1 ps2) :=
  of91 rfl (by
    simp (disch := decide) only [decodeCustom2, decodeCustom20, ext_hi, ext_lo, ext_all, Nat.reduceSub, BitVec.reduceToNat, BitVec.reduceExtractLsb', and_self, ↓reduceIte, BitVec.reduceEq])
theorem pxor (pd ps1 ps2 : BitVec 3) : Statement (.pxor pd ps1 ps2) :=
  of91 rfl (by
    simp (disch := decide) only [decodeCustom2, decodeCustom20, ext_hi, ext_lo, ext_all, Nat.reduceSub, BitVec.reduceToNat, BitVec.reduceExtractLsb', and_self, ↓reduceIte, BitVec.reduceEq])
theorem pnot (pd ps1 : BitVec 3) : Statement (.pnot pd ps1) :=
  of91 rfl (by
    simp (disch := decide) only [decodeCustom2, decodeCustom20, ext_hi, ext_lo, ext_all, Nat.reduceSub, BitVec.reduceToNat, BitVec.reduceExtractLsb', and_self, ↓reduceIte, BitVec.reduceEq])
theorem pwhile (pd : BitVec 3) (rs1 rs2 : BitVec 5) (w : BitVec 2) : Statement (.pwhile pd rs1 rs2 w) :=
  of91 rfl (by
    simp (disch := decide) only [decodeCustom2, decodeCustom20, ext_hi, ext_lo, ext_all, Nat.reduceSub, BitVec.reduceToNat, BitVec.reduceExtractLsb', and_self, ↓reduceIte, BitVec.reduceEq])
theorem pcount (rd : BitVec 5) (ps1 : BitVec 3) (w : BitVec 2) : Statement (.pcount rd ps1 w) :=
  of91 rfl (by
    simp (disch := decide) only [decodeCustom2, decodeCustom20, ext_hi, ext_lo, ext_all, Nat.reduceSub, BitVec.reduceToNat, BitVec.reduceExtractLsb', and_self, ↓reduceIte, BitVec.reduceEq])
theorem pfirst (rd : BitVec 5) (ps1 : BitVec 3) (w : BitVec 2) : Statement (.pfirst rd ps1 w) :=
  of91 rfl (by
    simp (disch := decide) only [decodeCustom2, decodeCustom20, ext_hi, ext_lo, ext_all, Nat.reduceSub, BitVec.reduceToNat, BitVec.reduceExtractLsb', and_self, ↓reduceIte, BitVec.reduceEq])
theorem vqred (vd : BitVec 5) (qs1 : BitVec 3) (rs2 : BitVec 5) (w : BitVec 2) : Statement (.vqred vd qs1 rs2 w) :=
  of91 rfl (by
    simp (disch := decide) only [decodeCustom2, decodeCustom20, ext_hi, ext_lo, ext_all, Nat.reduceSub, BitVec.reduceToNat, BitVec.reduceExtractLsb', and_self, ↓reduceIte, BitVec.reduceEq])
theorem vmv (vd vs1 : BitVec 5) (w : BitVec 2) : Statement (.vmv vd vs1 w) :=
  of91 rfl (by
    simp (disch := decide) only [decodeCustom2, decodeCustom20, ext_hi, ext_lo, ext_all, Nat.reduceSub, BitVec.reduceToNat, BitVec.reduceExtractLsb', and_self, ↓reduceIte, BitVec.reduceEq])
theorem mcfg (rd rs1 : BitVec 5) (la : BitVec 4) : Statement (.mcfg rd rs1 la) :=
  of91 rfl (by
    simp (disch := decide) only [decodeCustom2, decodeCustom21, ext_hi, ext_lo, ext_all, Nat.reduceSub, BitVec.reduceToNat, BitVec.reduceExtractLsb', and_self, ↓reduceIte, BitVec.reduceEq])
theorem mma (kd : BitVec 3) (rs1 rs2 : BitVec 5) (la : BitVec 4) : Statement (.mma kd rs1 rs2 la) :=
  of91 rfl (by
    simp (disch := decide) only [decodeCustom2, decodeCustom21, ext_hi, ext_lo, ext_all, Nat.reduceSub, BitVec.reduceToNat, BitVec.reduceExtractLsb', and_self, ↓reduceIte, BitVec.reduceEq])
theorem mmas (kd : BitVec 3) (rs1 rs2 : BitVec 5) (la : BitVec 4) : Statement (.mmas kd rs1 rs2 la) :=
  of91 rfl (by
    simp (disch := decide) only [decodeCustom2, decodeCustom21, ext_hi, ext_lo, ext_all, Nat.reduceSub, BitVec.reduceToNat, BitVec.reduceExtractLsb', and_self, ↓reduceIte, BitVec.reduceEq])
theorem mzero (kd : BitVec 3) (la : BitVec 4) : Statement (.mzero kd la) :=
  of91 rfl (by
    simp (disch := decide) only [decodeCustom2, decodeCustom21, ext_hi, ext_lo, ext_all, Nat.reduceSub, BitVec.reduceToNat, BitVec.reduceExtractLsb', and_self, ↓reduceIte, BitVec.reduceEq])
theorem mst (kd : BitVec 3) (rs1 rs2 : BitVec 5) (la : BitVec 4) : Statement (.mst kd rs1 rs2 la) :=
  of91 rfl (by
    simp (disch := decide) only [decodeCustom2, decodeCustom21, ext_hi, ext_lo, ext_all, Nat.reduceSub, BitVec.reduceToNat, BitVec.reduceExtractLsb', and_self, ↓reduceIte, BitVec.reduceEq])
theorem mld (kd : BitVec 3) (rs1 rs2 : BitVec 5) (la : BitVec 4) : Statement (.mld kd rs1 rs2 la) :=
  of91 rfl (by
    simp (disch := decide) only [decodeCustom2, decodeCustom21, ext_hi, ext_lo, ext_all, Nat.reduceSub, BitVec.reduceToNat, BitVec.reduceExtractLsb', and_self, ↓reduceIte, BitVec.reduceEq])
theorem mrd (vd : BitVec 5) (ks1 : BitVec 3) (rs2 : BitVec 5) (la : BitVec 4) : Statement (.mrd vd ks1 rs2 la) :=
  of91 rfl (by
    simp (disch := decide) only [decodeCustom2, decodeCustom21, ext_hi, ext_lo, ext_all, Nat.reduceSub, BitVec.reduceToNat, BitVec.reduceExtractLsb', and_self, ↓reduceIte, BitVec.reduceEq])
theorem mrec (kd : BitVec 3) (rs1 rs2 : BitVec 5) (la : BitVec 4) : Statement (.mrec kd rs1 rs2 la) :=
  of91 rfl (by
    simp (disch := decide) only [decodeCustom2, decodeCustom21, ext_hi, ext_lo, ext_all, Nat.reduceSub, BitVec.reduceToNat, BitVec.reduceExtractLsb', and_self, ↓reduceIte, BitVec.reduceEq])
theorem mprog (rd rs1 : BitVec 5) : Statement (.mprog rd rs1) :=
  of91 rfl (by
    simp (disch := decide) only [decodeCustom2, decodeCustom22, ext_hi, ext_lo, ext_all, Nat.reduceSub, BitVec.reduceToNat, BitVec.reduceExtractLsb', and_self, ↓reduceIte, BitVec.reduceEq])
theorem mwr (kd : BitVec 3) (vs1 rs2 : BitVec 5) : Statement (.mwr kd vs1 rs2) :=
  of91 rfl (by
    simp (disch := decide) only [decodeCustom2, decodeCustom22, ext_hi, ext_lo, ext_all, Nat.reduceSub, BitVec.reduceToNat, BitVec.reduceExtractLsb', and_self, ↓reduceIte, BitVec.reduceEq])
theorem cvinit (sa : BitVec 2) (rs1 rs2 : BitVec 5) : Statement (.cvinit sa rs1 rs2) :=
  of91 rfl (by
    simp (disch := decide) only [decodeCustom2, decodeCustom22, ext_hi, ext_lo, ext_all, Nat.reduceSub, BitVec.reduceToNat, BitVec.reduceExtractLsb', and_self, ↓reduceIte, BitVec.reduceEq])
theorem cvprobe (kd : BitVec 3) (vs1 rs2 : BitVec 5) : Statement (.cvprobe kd vs1 rs2) :=
  of91 rfl (by
    simp (disch := decide) only [decodeCustom2, decodeCustom22, ext_hi, ext_lo, ext_all, Nat.reduceSub, BitVec.reduceToNat, BitVec.reduceExtractLsb', and_self, ↓reduceIte, BitVec.reduceEq])
theorem cvcommit (kd : BitVec 3) (rs1 rs2 : BitVec 5) : Statement (.cvcommit kd rs1 rs2) :=
  of91 rfl (by
    simp (disch := decide) only [decodeCustom2, decodeCustom22, ext_hi, ext_lo, ext_all, Nat.reduceSub, BitVec.reduceToNat, BitVec.reduceExtractLsb', and_self, ↓reduceIte, BitVec.reduceEq])
theorem cvgain (vd : BitVec 5) (sa : BitVec 2) : Statement (.cvgain vd sa) :=
  of91 rfl (by
    simp (disch := decide) only [decodeCustom2, decodeCustom22, ext_hi, ext_lo, ext_all, Nat.reduceSub, BitVec.reduceToNat, BitVec.reduceExtractLsb', and_self, ↓reduceIte, BitVec.reduceEq])
theorem cvclr (sa : BitVec 2) : Statement (.cvclr sa) :=
  of91 rfl (by
    simp (disch := decide) only [decodeCustom2, decodeCustom22, ext_hi, ext_lo, ext_all, Nat.reduceSub, BitVec.reduceToNat, BitVec.reduceExtractLsb', and_self, ↓reduceIte, BitVec.reduceEq])
theorem cvsel (rd : BitVec 5) (sa : BitVec 2) (vs2 : BitVec 5) : Statement (.cvsel rd sa vs2) :=
  of91 rfl (by
    simp (disch := decide) only [decodeCustom2, decodeCustom22, ext_hi, ext_lo, ext_all, Nat.reduceSub, BitVec.reduceToNat, BitVec.reduceExtractLsb', and_self, ↓reduceIte, BitVec.reduceEq])
theorem cvsave (sa : BitVec 2) (rs1 : BitVec 5) : Statement (.cvsave sa rs1) :=
  of91 rfl (by
    simp (disch := decide) only [decodeCustom2, decodeCustom22, ext_hi, ext_lo, ext_all, Nat.reduceSub, BitVec.reduceToNat, BitVec.reduceExtractLsb', and_self, ↓reduceIte, BitVec.reduceEq])
theorem cvrest (sa : BitVec 2) (rs1 : BitVec 5) : Statement (.cvrest sa rs1) :=
  of91 rfl (by
    simp (disch := decide) only [decodeCustom2, decodeCustom22, ext_hi, ext_lo, ext_all, Nat.reduceSub, BitVec.reduceToNat, BitVec.reduceExtractLsb', and_self, ↓reduceIte, BitVec.reduceEq])
theorem erun (rd rs1 rs2 : BitVec 5) : Statement (.erun rd rs1 rs2) :=
  of91 rfl (by
    simp (disch := decide) only [decodeCustom2, decodeCustom23, ext_hi, ext_lo, ext_all, Nat.reduceSub, BitVec.reduceToNat, BitVec.reduceExtractLsb', and_self, ↓reduceIte, BitVec.reduceEq])
theorem ewait (rd rs1 : BitVec 5) : Statement (.ewait rd rs1) :=
  of91 rfl (by
    simp (disch := decide) only [decodeCustom2, decodeCustom23, ext_hi, ext_lo, ext_all, Nat.reduceSub, BitVec.reduceToNat, BitVec.reduceExtractLsb', and_self, ↓reduceIte, BitVec.reduceEq])
theorem estat (rd rs1 : BitVec 5) : Statement (.estat rd rs1) :=
  of91 rfl (by
    simp (disch := decide) only [decodeCustom2, decodeCustom23, ext_hi, ext_lo, ext_all, Nat.reduceSub, BitVec.reduceToNat, BitVec.reduceExtractLsb', and_self, ↓reduceIte, BitVec.reduceEq])
theorem qpush (qd : BitVec 3) (rs1 : BitVec 5) : Statement (.qpush qd rs1) :=
  of91 rfl (by
    simp (disch := decide) only [decodeCustom2, decodeCustom23, ext_hi, ext_lo, ext_all, Nat.reduceSub, BitVec.reduceToNat, BitVec.reduceExtractLsb', and_self, ↓reduceIte, BitVec.reduceEq])
theorem qpop (rd : BitVec 5) (qs1 : BitVec 3) : Statement (.qpop rd qs1) :=
  of91 rfl (by
    simp (disch := decide) only [decodeCustom2, decodeCustom23, ext_hi, ext_lo, ext_all, Nat.reduceSub, BitVec.reduceToNat, BitVec.reduceExtractLsb', and_self, ↓reduceIte, BitVec.reduceEq])
theorem qpushv (qd : BitVec 3) (rs1 : BitVec 5) : Statement (.qpushv qd rs1) :=
  of91 rfl (by
    simp (disch := decide) only [decodeCustom2, decodeCustom23, ext_hi, ext_lo, ext_all, Nat.reduceSub, BitVec.reduceToNat, BitVec.reduceExtractLsb', and_self, ↓reduceIte, BitVec.reduceEq])
theorem qpopv (rd : BitVec 5) (qs1 : BitVec 3) : Statement (.qpopv rd qs1) :=
  of91 rfl (by
    simp (disch := decide) only [decodeCustom2, decodeCustom23, ext_hi, ext_lo, ext_all, Nat.reduceSub, BitVec.reduceToNat, BitVec.reduceExtractLsb', and_self, ↓reduceIte, BitVec.reduceEq])
theorem qstat (rd : BitVec 5) (qs1 : BitVec 3) : Statement (.qstat rd qs1) :=
  of91 rfl (by
    simp (disch := decide) only [decodeCustom2, decodeCustom23, ext_hi, ext_lo, ext_all, Nat.reduceSub, BitVec.reduceToNat, BitVec.reduceExtractLsb', and_self, ↓reduceIte, BitVec.reduceEq])
theorem qbind (qd : BitVec 3) (rs1 : BitVec 5) : Statement (.qbind qd rs1) :=
  of91 rfl (by
    simp (disch := decide) only [decodeCustom2, decodeCustom23, ext_hi, ext_lo, ext_all, Nat.reduceSub, BitVec.reduceToNat, BitVec.reduceExtractLsb', and_self, ↓reduceIte, BitVec.reduceEq])
theorem vld (vd rs1 rs2 : BitVec 5) (la : BitVec 4) (w : BitVec 2) : Statement (.vld vd rs1 rs2 la w) :=
  of123 rfl ((custom30 (by simp (disch := decide) only [ext_hi, ext_lo, ext_all, Nat.reduceSub, BitVec.reduceToNat, BitVec.reduceExtractLsb', and_self, ↓reduceIte, BitVec.reduceEq])).trans (by
    simp (disch := decide) only [decodeCustom30, ext_hi, ext_lo, ext_all, Nat.reduceSub, BitVec.reduceToNat, BitVec.reduceExtractLsb', and_self, ↓reduceIte, BitVec.reduceEq]))
theorem vst (vd rs1 rs2 : BitVec 5) (la : BitVec 4) (w : BitVec 2) : Statement (.vst vd rs1 rs2 la w) :=
  of123 rfl ((custom30 (by simp (disch := decide) only [ext_hi, ext_lo, ext_all, Nat.reduceSub, BitVec.reduceToNat, BitVec.reduceExtractLsb', and_self, ↓reduceIte, BitVec.reduceEq])).trans (by
    simp (disch := decide) only [decodeCustom30, ext_hi, ext_lo, ext_all, Nat.reduceSub, BitVec.reduceToNat, BitVec.reduceExtractLsb', and_self, ↓reduceIte, BitVec.reduceEq]))
theorem vldx (vd rs1 rs2 : BitVec 5) (la : BitVec 4) (w : BitVec 2) : Statement (.vldx vd rs1 rs2 la w) :=
  of123 rfl ((custom30 (by simp (disch := decide) only [ext_hi, ext_lo, ext_all, Nat.reduceSub, BitVec.reduceToNat, BitVec.reduceExtractLsb', and_self, ↓reduceIte, BitVec.reduceEq])).trans (by
    simp (disch := decide) only [decodeCustom30, ext_hi, ext_lo, ext_all, Nat.reduceSub, BitVec.reduceToNat, BitVec.reduceExtractLsb', and_self, ↓reduceIte, BitVec.reduceEq]))
theorem vstx (vd rs1 rs2 : BitVec 5) (la : BitVec 4) (w : BitVec 2) : Statement (.vstx vd rs1 rs2 la w) :=
  of123 rfl ((custom30 (by simp (disch := decide) only [ext_hi, ext_lo, ext_all, Nat.reduceSub, BitVec.reduceToNat, BitVec.reduceExtractLsb', and_self, ↓reduceIte, BitVec.reduceEq])).trans (by
    simp (disch := decide) only [decodeCustom30, ext_hi, ext_lo, ext_all, Nat.reduceSub, BitVec.reduceToNat, BitVec.reduceExtractLsb', and_self, ↓reduceIte, BitVec.reduceEq]))
theorem vldl (vd rs1 rs2 : BitVec 5) (la : BitVec 4) (w : BitVec 2) : Statement (.vldl vd rs1 rs2 la w) :=
  of123 rfl ((custom30 (by simp (disch := decide) only [ext_hi, ext_lo, ext_all, Nat.reduceSub, BitVec.reduceToNat, BitVec.reduceExtractLsb', and_self, ↓reduceIte, BitVec.reduceEq])).trans (by
    simp (disch := decide) only [decodeCustom30, ext_hi, ext_lo, ext_all, Nat.reduceSub, BitVec.reduceToNat, BitVec.reduceExtractLsb', and_self, ↓reduceIte, BitVec.reduceEq]))
theorem vstl (vd rs1 rs2 : BitVec 5) (la : BitVec 4) (w : BitVec 2) : Statement (.vstl vd rs1 rs2 la w) :=
  of123 rfl ((custom30 (by simp (disch := decide) only [ext_hi, ext_lo, ext_all, Nat.reduceSub, BitVec.reduceToNat, BitVec.reduceExtractLsb', and_self, ↓reduceIte, BitVec.reduceEq])).trans (by
    simp (disch := decide) only [decodeCustom30, ext_hi, ext_lo, ext_all, Nat.reduceSub, BitVec.reduceToNat, BitVec.reduceExtractLsb', and_self, ↓reduceIte, BitVec.reduceEq]))
theorem vldk (vd rs1 rs2 : BitVec 5) (la : BitVec 4) (w : BitVec 2) : Statement (.vldk vd rs1 rs2 la w) :=
  of123 rfl ((custom30 (by simp (disch := decide) only [ext_hi, ext_lo, ext_all, Nat.reduceSub, BitVec.reduceToNat, BitVec.reduceExtractLsb', and_self, ↓reduceIte, BitVec.reduceEq])).trans (by
    simp (disch := decide) only [decodeCustom30, ext_hi, ext_lo, ext_all, Nat.reduceSub, BitVec.reduceToNat, BitVec.reduceExtractLsb', and_self, ↓reduceIte, BitVec.reduceEq]))
theorem vldt (vd rs1 rs2 : BitVec 5) (la : BitVec 4) (w : BitVec 2) : Statement (.vldt vd rs1 rs2 la w) :=
  of123 rfl ((custom30 (by simp (disch := decide) only [ext_hi, ext_lo, ext_all, Nat.reduceSub, BitVec.reduceToNat, BitVec.reduceExtractLsb', and_self, ↓reduceIte, BitVec.reduceEq])).trans (by
    simp (disch := decide) only [decodeCustom30, ext_hi, ext_lo, ext_all, Nat.reduceSub, BitVec.reduceToNat, BitVec.reduceExtractLsb', and_self, ↓reduceIte, BitVec.reduceEq]))
theorem ldk (rd rs1 rs2 : BitVec 5) (la : BitVec 4) : Statement (.ldk rd rs1 rs2 la) :=
  of123 rfl (by
    simp (disch := decide) only [decodeCustom3, decodeCustom34, ext_hi, ext_lo, ext_all, Nat.reduceSub, BitVec.reduceToNat, BitVec.reduceExtractLsb', and_self, ↓reduceIte, BitVec.reduceEq])
theorem ldt (rd rs1 rs2 : BitVec 5) (la : BitVec 4) : Statement (.ldt rd rs1 rs2 la) :=
  of123 rfl (by
    simp (disch := decide) only [decodeCustom3, decodeCustom34, ext_hi, ext_lo, ext_all, Nat.reduceSub, BitVec.reduceToNat, BitVec.reduceExtractLsb', and_self, ↓reduceIte, BitVec.reduceEq])
theorem rld (qd : BitVec 4) (rs1 rs2 : BitVec 5) (la : BitVec 4) : Statement (.rld qd rs1 rs2 la) :=
  of123 rfl (by
    simp (disch := decide) only [decodeCustom3, decodeCustom34, ext_hi, ext_lo, ext_all, Nat.reduceSub, BitVec.reduceToNat, BitVec.reduceExtractLsb', and_self, ↓reduceIte, BitVec.reduceEq])
theorem rst (rd rs1 rs2 : BitVec 5) (la : BitVec 4) : Statement (.rst rd rs1 rs2 la) :=
  of123 rfl (by
    simp (disch := decide) only [decodeCustom3, decodeCustom34, ext_hi, ext_lo, ext_all, Nat.reduceSub, BitVec.reduceToNat, BitVec.reduceExtractLsb', and_self, ↓reduceIte, BitVec.reduceEq])
theorem gst (rd rs1 rs2 : BitVec 5) (la : BitVec 4) : Statement (.gst rd rs1 rs2 la) :=
  of123 rfl (by
    simp (disch := decide) only [decodeCustom3, decodeCustom34, ext_hi, ext_lo, ext_all, Nat.reduceSub, BitVec.reduceToNat, BitVec.reduceExtractLsb', and_self, ↓reduceIte, BitVec.reduceEq])
theorem ksend (rd rs1 rs2 : BitVec 5) (la : BitVec 4) : Statement (.ksend rd rs1 rs2 la) :=
  of123 rfl (by
    simp (disch := decide) only [decodeCustom3, decodeCustom34, ext_hi, ext_lo, ext_all, Nat.reduceSub, BitVec.reduceToNat, BitVec.reduceExtractLsb', and_self, ↓reduceIte, BitVec.reduceEq])
theorem famoAddBf16x2 (rd rs1 rs2 : BitVec 5) (use : BitVec 2) : Statement (.famoAddBf16x2 rd rs1 rs2 use) :=
  of123 rfl (by
    simp (disch := decide) only [decodeCustom3, decodeCustom35, ext_hi, ext_lo, ext_all, Nat.reduceSub, BitVec.reduceToNat, BitVec.reduceExtractLsb', and_self, ↓reduceIte, BitVec.reduceEq])
theorem famoAddF16x2 (rd rs1 rs2 : BitVec 5) (use : BitVec 2) : Statement (.famoAddF16x2 rd rs1 rs2 use) :=
  of123 rfl (by
    simp (disch := decide) only [decodeCustom3, decodeCustom35, ext_hi, ext_lo, ext_all, Nat.reduceSub, BitVec.reduceToNat, BitVec.reduceExtractLsb', and_self, ↓reduceIte, BitVec.reduceEq])
theorem famoAddF32 (rd rs1 rs2 : BitVec 5) (use : BitVec 2) : Statement (.famoAddF32 rd rs1 rs2 use) :=
  of123 rfl (by
    simp (disch := decide) only [decodeCustom3, decodeCustom35, ext_hi, ext_lo, ext_all, Nat.reduceSub, BitVec.reduceToNat, BitVec.reduceExtractLsb', and_self, ↓reduceIte, BitVec.reduceEq])
theorem famoAddF64 (rd rs1 rs2 : BitVec 5) (use : BitVec 2) : Statement (.famoAddF64 rd rs1 rs2 use) :=
  of123 rfl (by
    simp (disch := decide) only [decodeCustom3, decodeCustom35, ext_hi, ext_lo, ext_all, Nat.reduceSub, BitVec.reduceToNat, BitVec.reduceExtractLsb', and_self, ↓reduceIte, BitVec.reduceEq])
theorem famoMinBf16x2 (rd rs1 rs2 : BitVec 5) (use : BitVec 2) : Statement (.famoMinBf16x2 rd rs1 rs2 use) :=
  of123 rfl (by
    simp (disch := decide) only [decodeCustom3, decodeCustom35, ext_hi, ext_lo, ext_all, Nat.reduceSub, BitVec.reduceToNat, BitVec.reduceExtractLsb', and_self, ↓reduceIte, BitVec.reduceEq])
theorem famoMinF16x2 (rd rs1 rs2 : BitVec 5) (use : BitVec 2) : Statement (.famoMinF16x2 rd rs1 rs2 use) :=
  of123 rfl (by
    simp (disch := decide) only [decodeCustom3, decodeCustom35, ext_hi, ext_lo, ext_all, Nat.reduceSub, BitVec.reduceToNat, BitVec.reduceExtractLsb', and_self, ↓reduceIte, BitVec.reduceEq])
theorem famoMinF32 (rd rs1 rs2 : BitVec 5) (use : BitVec 2) : Statement (.famoMinF32 rd rs1 rs2 use) :=
  of123 rfl (by
    simp (disch := decide) only [decodeCustom3, decodeCustom35, ext_hi, ext_lo, ext_all, Nat.reduceSub, BitVec.reduceToNat, BitVec.reduceExtractLsb', and_self, ↓reduceIte, BitVec.reduceEq])
theorem famoMinF64 (rd rs1 rs2 : BitVec 5) (use : BitVec 2) : Statement (.famoMinF64 rd rs1 rs2 use) :=
  of123 rfl (by
    simp (disch := decide) only [decodeCustom3, decodeCustom35, ext_hi, ext_lo, ext_all, Nat.reduceSub, BitVec.reduceToNat, BitVec.reduceExtractLsb', and_self, ↓reduceIte, BitVec.reduceEq])
theorem famoMaxBf16x2 (rd rs1 rs2 : BitVec 5) (use : BitVec 2) : Statement (.famoMaxBf16x2 rd rs1 rs2 use) :=
  of123 rfl (by
    simp (disch := decide) only [decodeCustom3, decodeCustom35, ext_hi, ext_lo, ext_all, Nat.reduceSub, BitVec.reduceToNat, BitVec.reduceExtractLsb', and_self, ↓reduceIte, BitVec.reduceEq])
theorem famoMaxF16x2 (rd rs1 rs2 : BitVec 5) (use : BitVec 2) : Statement (.famoMaxF16x2 rd rs1 rs2 use) :=
  of123 rfl (by
    simp (disch := decide) only [decodeCustom3, decodeCustom35, ext_hi, ext_lo, ext_all, Nat.reduceSub, BitVec.reduceToNat, BitVec.reduceExtractLsb', and_self, ↓reduceIte, BitVec.reduceEq])
theorem famoMaxF32 (rd rs1 rs2 : BitVec 5) (use : BitVec 2) : Statement (.famoMaxF32 rd rs1 rs2 use) :=
  of123 rfl (by
    simp (disch := decide) only [decodeCustom3, decodeCustom35, ext_hi, ext_lo, ext_all, Nat.reduceSub, BitVec.reduceToNat, BitVec.reduceExtractLsb', and_self, ↓reduceIte, BitVec.reduceEq])
theorem famoMaxF64 (rd rs1 rs2 : BitVec 5) (use : BitVec 2) : Statement (.famoMaxF64 rd rs1 rs2 use) :=
  of123 rfl (by
    simp (disch := decide) only [decodeCustom3, decodeCustom35, ext_hi, ext_lo, ext_all, Nat.reduceSub, BitVec.reduceToNat, BitVec.reduceExtractLsb', and_self, ↓reduceIte, BitVec.reduceEq])
theorem cas128 (rd : BitVec 4) (rs1 : BitVec 5) (rs2 : BitVec 4) (use : BitVec 2) : Statement (.cas128 rd rs1 rs2 use) :=
  ofWord 123#7 rfl (by simp (disch := decide) only [ext_hi, ext_lo, ext_all, Nat.reduceSub, BitVec.reduceToNat, BitVec.reduceExtractLsb', and_self, ↓reduceIte, BitVec.reduceEq]) (by decide) (fun _ => (major123 (by
    simp (disch := decide) only [ext_hi, ext_lo, ext_all, Nat.reduceSub, BitVec.reduceToNat, BitVec.reduceExtractLsb', and_self, ↓reduceIte, BitVec.reduceEq])).trans (by
    simp (disch := decide) only [decodeCustom3, decodeCustom35, ext_hi, ext_lo, ext_all, Nat.reduceSub, BitVec.reduceToNat, BitVec.reduceExtractLsb', and_self, ↓reduceIte, BitVec.reduceEq]))
theorem iaddD (rd rs1 rs2 : BitVec 5) (use : BitVec 2) : Statement (.iaddD rd rs1 rs2 use) :=
  of123 rfl (by
    simp (disch := decide) only [decodeCustom3, decodeCustom35, ext_hi, ext_lo, ext_all, Nat.reduceSub, BitVec.reduceToNat, BitVec.reduceExtractLsb', and_self, ↓reduceIte, BitVec.reduceEq])
theorem iaddW (rd rs1 rs2 : BitVec 5) (use : BitVec 2) : Statement (.iaddW rd rs1 rs2 use) :=
  of123 rfl (by
    simp (disch := decide) only [decodeCustom3, decodeCustom35, ext_hi, ext_lo, ext_all, Nat.reduceSub, BitVec.reduceToNat, BitVec.reduceExtractLsb', and_self, ↓reduceIte, BitVec.reduceEq])
theorem iorD (rd rs1 rs2 : BitVec 5) (use : BitVec 2) : Statement (.iorD rd rs1 rs2 use) :=
  of123 rfl (by
    simp (disch := decide) only [decodeCustom3, decodeCustom35, ext_hi, ext_lo, ext_all, Nat.reduceSub, BitVec.reduceToNat, BitVec.reduceExtractLsb', and_self, ↓reduceIte, BitVec.reduceEq])
theorem iandD (rd rs1 rs2 : BitVec 5) (use : BitVec 2) : Statement (.iandD rd rs1 rs2 use) :=
  of123 rfl (by
    simp (disch := decide) only [decodeCustom3, decodeCustom35, ext_hi, ext_lo, ext_all, Nat.reduceSub, BitVec.reduceToNat, BitVec.reduceExtractLsb', and_self, ↓reduceIte, BitVec.reduceEq])
theorem fenceS (scope : BitVec 5) : Statement (.fenceS scope) :=
  of123 rfl (by
    simp (disch := decide) only [decodeCustom3, decodeCustom36, ext_hi, ext_lo, ext_all, Nat.reduceSub, BitVec.reduceToNat, BitVec.reduceExtractLsb', and_self, ↓reduceIte, BitVec.reduceEq])
theorem sldAcq (rd rs1 scope : BitVec 5) : Statement (.sldAcq rd rs1 scope) :=
  of123 rfl (by
    simp (disch := decide) only [decodeCustom3, decodeCustom36, ext_hi, ext_lo, ext_all, Nat.reduceSub, BitVec.reduceToNat, BitVec.reduceExtractLsb', and_self, ↓reduceIte, BitVec.reduceEq])
theorem sstRel (rs1 rs2 scope : BitVec 5) : Statement (.sstRel rs1 rs2 scope) :=
  of123 rfl (by
    simp (disch := decide) only [decodeCustom3, decodeCustom36, ext_hi, ext_lo, ext_all, Nat.reduceSub, BitVec.reduceToNat, BitVec.reduceExtractLsb', and_self, ↓reduceIte, BitVec.reduceEq])
theorem barr (sel : BitVec 5) : Statement (.barr sel) :=
  of123 rfl (by
    simp (disch := decide) only [decodeCustom3, decodeCustom36, ext_hi, ext_lo, ext_all, Nat.reduceSub, BitVec.reduceToNat, BitVec.reduceExtractLsb', and_self, ↓reduceIte, BitVec.reduceEq])
theorem bwait (sel : BitVec 5) : Statement (.bwait sel) :=
  of123 rfl (by
    simp (disch := decide) only [decodeCustom3, decodeCustom36, ext_hi, ext_lo, ext_all, Nat.reduceSub, BitVec.reduceToNat, BitVec.reduceExtractLsb', and_self, ↓reduceIte, BitVec.reduceEq])
theorem bmask (rd rs1 rs2 : BitVec 5) : Statement (.bmask rd rs1 rs2) :=
  of123 rfl (by
    simp (disch := decide) only [decodeCustom3, decodeCustom36, ext_hi, ext_lo, ext_all, Nat.reduceSub, BitVec.reduceToNat, BitVec.reduceExtractLsb', and_self, ↓reduceIte, BitVec.reduceEq])
theorem tickrd (rd : BitVec 5) : Statement (.tickrd rd) :=
  of123 rfl (by
    simp (disch := decide) only [decodeCustom3, decodeCustom36, ext_hi, ext_lo, ext_all, Nat.reduceSub, BitVec.reduceToNat, BitVec.reduceExtractLsb', and_self, ↓reduceIte, BitVec.reduceEq])
theorem tickw (rd rs1 : BitVec 5) : Statement (.tickw rd rs1) :=
  of123 rfl (by
    simp (disch := decide) only [decodeCustom3, decodeCustom36, ext_hi, ext_lo, ext_all, Nat.reduceSub, BitVec.reduceToNat, BitVec.reduceExtractLsb', and_self, ↓reduceIte, BitVec.reduceEq])
theorem sstep (sel : BitVec 5) : Statement (.sstep sel) :=
  of123 rfl (by
    simp (disch := decide) only [decodeCustom3, decodeCustom36, ext_hi, ext_lo, ext_all, Nat.reduceSub, BitVec.reduceToNat, BitVec.reduceExtractLsb', and_self, ↓reduceIte, BitVec.reduceEq])
theorem abarr (rd rs1 rs2 : BitVec 5) : Statement (.abarr rd rs1 rs2) :=
  of123 rfl (by
    simp (disch := decide) only [decodeCustom3, decodeCustom36, ext_hi, ext_lo, ext_all, Nat.reduceSub, BitVec.reduceToNat, BitVec.reduceExtractLsb', and_self, ↓reduceIte, BitVec.reduceEq])
theorem abwait (rd rs1 : BitVec 5) : Statement (.abwait rd rs1) :=
  of123 rfl (by
    simp (disch := decide) only [decodeCustom3, decodeCustom36, ext_hi, ext_lo, ext_all, Nat.reduceSub, BitVec.reduceToNat, BitVec.reduceExtractLsb', and_self, ↓reduceIte, BitVec.reduceEq])
theorem abinit (rd rs1 rs2 : BitVec 5) : Statement (.abinit rd rs1 rs2) :=
  of123 rfl (by
    simp (disch := decide) only [decodeCustom3, decodeCustom36, ext_hi, ext_lo, ext_all, Nat.reduceSub, BitVec.reduceToNat, BitVec.reduceExtractLsb', and_self, ↓reduceIte, BitVec.reduceEq])
theorem gopen (rd : BitVec 5) : Statement (.gopen rd) :=
  of123 rfl (by
    simp (disch := decide) only [decodeCustom3, decodeCustom37, ext_hi, ext_lo, ext_all, Nat.reduceSub, BitVec.reduceToNat, BitVec.reduceExtractLsb', and_self, ↓reduceIte, BitVec.reduceEq])
theorem gsel (rd rs1 : BitVec 5) : Statement (.gsel rd rs1) :=
  of123 rfl (by
    simp (disch := decide) only [decodeCustom3, decodeCustom37, ext_hi, ext_lo, ext_all, Nat.reduceSub, BitVec.reduceToNat, BitVec.reduceExtractLsb', and_self, ↓reduceIte, BitVec.reduceEq])
theorem gcommit (rd rs1 rs2 : BitVec 5) : Statement (.gcommit rd rs1 rs2) :=
  of123 rfl (by
    simp (disch := decide) only [decodeCustom3, decodeCustom37, ext_hi, ext_lo, ext_all, Nat.reduceSub, BitVec.reduceToNat, BitVec.reduceExtractLsb', and_self, ↓reduceIte, BitVec.reduceEq])
theorem gabort (rd rs1 : BitVec 5) : Statement (.gabort rd rs1) :=
  of123 rfl (by
    simp (disch := decide) only [decodeCustom3, decodeCustom37, ext_hi, ext_lo, ext_all, Nat.reduceSub, BitVec.reduceToNat, BitVec.reduceExtractLsb', and_self, ↓reduceIte, BitVec.reduceEq])
theorem gstat (rd rs1 rs2 : BitVec 5) : Statement (.gstat rd rs1 rs2) :=
  of123 rfl (by
    simp (disch := decide) only [decodeCustom3, decodeCustom37, ext_hi, ext_lo, ext_all, Nat.reduceSub, BitVec.reduceToNat, BitVec.reduceExtractLsb', and_self, ↓reduceIte, BitVec.reduceEq])
theorem tset (rd rs1 rs2 : BitVec 5) : Statement (.tset rd rs1 rs2) :=
  of123 rfl (by
    simp (disch := decide) only [decodeCustom3, decodeCustom37, ext_hi, ext_lo, ext_all, Nat.reduceSub, BitVec.reduceToNat, BitVec.reduceExtractLsb', and_self, ↓reduceIte, BitVec.reduceEq])
theorem tmode (rd rs1 rs2 : BitVec 5) : Statement (.tmode rd rs1 rs2) :=
  of123 rfl (by
    simp (disch := decide) only [decodeCustom3, decodeCustom37, ext_hi, ext_lo, ext_all, Nat.reduceSub, BitVec.reduceToNat, BitVec.reduceExtractLsb', and_self, ↓reduceIte, BitVec.reduceEq])
theorem kbin (rd rs1 rs2 : BitVec 5) : Statement (.kbin rd rs1 rs2) :=
  of123 rfl (by
    simp (disch := decide) only [decodeCustom3, decodeCustom37, ext_hi, ext_lo, ext_all, Nat.reduceSub, BitVec.reduceToNat, BitVec.reduceExtractLsb', and_self, ↓reduceIte, BitVec.reduceEq])
theorem jrnl (rd rs1 rs2 : BitVec 5) : Statement (.jrnl rd rs1 rs2) :=
  of123 rfl (by
    simp (disch := decide) only [decodeCustom3, decodeCustom37, ext_hi, ext_lo, ext_all, Nat.reduceSub, BitVec.reduceToNat, BitVec.reduceExtractLsb', and_self, ↓reduceIte, BitVec.reduceEq])
theorem calld (imm : BitVec 12) : Statement (.calld imm) :=
  ofWord 11#7 rfl (by simp (disch := decide) only [ext_hi, ext_lo, ext_all, Nat.reduceSub, BitVec.reduceToNat, BitVec.reduceExtractLsb', and_self, ↓reduceIte, BitVec.reduceEq]) (by decide) (fun _ => (major11 (by
    simp (disch := decide) only [ext_hi, ext_lo, ext_all, Nat.reduceSub, BitVec.reduceToNat, BitVec.reduceExtractLsb', and_self, ↓reduceIte, BitVec.reduceEq])).trans (by
    simp (disch := decide) only [decodeCustom0, decodeCustom00, ext_hi, ext_lo, ext_all, Nat.reduceSub, BitVec.reduceToNat, BitVec.reduceExtractLsb', and_self, ↓reduceIte, BitVec.reduceEq]))
theorem tcalld (imm : BitVec 12) : Statement (.tcalld imm) :=
  ofWord 11#7 rfl (by simp (disch := decide) only [ext_hi, ext_lo, ext_all, Nat.reduceSub, BitVec.reduceToNat, BitVec.reduceExtractLsb', and_self, ↓reduceIte, BitVec.reduceEq]) (by decide) (fun _ => (major11 (by
    simp (disch := decide) only [ext_hi, ext_lo, ext_all, Nat.reduceSub, BitVec.reduceToNat, BitVec.reduceExtractLsb', and_self, ↓reduceIte, BitVec.reduceEq])).trans (by
    simp (disch := decide) only [decodeCustom0, decodeCustom00, ext_hi, ext_lo, ext_all, Nat.reduceSub, BitVec.reduceToNat, BitVec.reduceExtractLsb', and_self, ↓reduceIte, BitVec.reduceEq]))
theorem callh (rs1 : BitVec 5) : Statement (.callh rs1) :=
  ofWord 11#7 rfl (by simp (disch := decide) only [ext_hi, ext_lo, ext_all, Nat.reduceSub, BitVec.reduceToNat, BitVec.reduceExtractLsb', and_self, ↓reduceIte, BitVec.reduceEq]) (by decide) (fun _ => (major11 (by
    simp (disch := decide) only [ext_hi, ext_lo, ext_all, Nat.reduceSub, BitVec.reduceToNat, BitVec.reduceExtractLsb', and_self, ↓reduceIte, BitVec.reduceEq])).trans (by
    simp (disch := decide) only [decodeCustom0, decodeCustom01, ext_hi, ext_lo, ext_all, Nat.reduceSub, BitVec.reduceToNat, BitVec.reduceExtractLsb', and_self, ↓reduceIte, BitVec.reduceEq]))
theorem tcallh (rs1 : BitVec 5) : Statement (.tcallh rs1) :=
  ofWord 11#7 rfl (by simp (disch := decide) only [ext_hi, ext_lo, ext_all, Nat.reduceSub, BitVec.reduceToNat, BitVec.reduceExtractLsb', and_self, ↓reduceIte, BitVec.reduceEq]) (by decide) (fun _ => (major11 (by
    simp (disch := decide) only [ext_hi, ext_lo, ext_all, Nat.reduceSub, BitVec.reduceToNat, BitVec.reduceExtractLsb', and_self, ↓reduceIte, BitVec.reduceEq])).trans (by
    simp (disch := decide) only [decodeCustom0, decodeCustom01, ext_hi, ext_lo, ext_all, Nat.reduceSub, BitVec.reduceToNat, BitVec.reduceExtractLsb', and_self, ↓reduceIte, BitVec.reduceEq]))
theorem reth (rs1 : BitVec 5) : Statement (.reth rs1) :=
  ofWord 11#7 rfl (by simp (disch := decide) only [ext_hi, ext_lo, ext_all, Nat.reduceSub, BitVec.reduceToNat, BitVec.reduceExtractLsb', and_self, ↓reduceIte, BitVec.reduceEq]) (by decide) (fun _ => (major11 (by
    simp (disch := decide) only [ext_hi, ext_lo, ext_all, Nat.reduceSub, BitVec.reduceToNat, BitVec.reduceExtractLsb', and_self, ↓reduceIte, BitVec.reduceEq])).trans (by
    simp (disch := decide) only [decodeCustom0, decodeCustom01, ext_hi, ext_lo, ext_all, Nat.reduceSub, BitVec.reduceToNat, BitVec.reduceExtractLsb', and_self, ↓reduceIte, BitVec.reduceEq]))
theorem start (rd rs1 rs2 : BitVec 5) : Statement (.start rd rs1 rs2) :=
  of11 rfl (by
    simp (disch := decide) only [decodeCustom0, decodeCustom02, ext_hi, ext_lo, ext_all, Nat.reduceSub, BitVec.reduceToNat, BitVec.reduceExtractLsb', and_self, ↓reduceIte, BitVec.reduceEq])
theorem hend : Statement .hend := ofWord 11#7 rfl (by decide) (by decide) (fun _ => rfl)
theorem hjoin (rd rs1 : BitVec 5) : Statement (.hjoin rd rs1) :=
  of11 rfl (by
    simp (disch := decide) only [decodeCustom0, decodeCustom02, ext_hi, ext_lo, ext_all, Nat.reduceSub, BitVec.reduceToNat, BitVec.reduceExtractLsb', and_self, ↓reduceIte, BitVec.reduceEq])
theorem hpoll (rd : BitVec 5) : Statement (.hpoll rd) :=
  of11 rfl (by
    simp (disch := decide) only [decodeCustom0, decodeCustom02, ext_hi, ext_lo, ext_all, Nat.reduceSub, BitVec.reduceToNat, BitVec.reduceExtractLsb', and_self, ↓reduceIte, BitVec.reduceEq])
theorem pfx (fmt1 fmt2 n : BitVec 5) (smode : BitVec 2) (sreg : BitVec 5) : Statement (.pfx fmt1 fmt2 n smode sreg) :=
  of11 rfl (by
    simp (disch := decide) only [decodeCustom0, ext_hi, ext_lo, ext_all, Nat.reduceSub, BitVec.reduceToNat, BitVec.reduceExtractLsb', and_self, ↓reduceIte, BitVec.reduceEq])
theorem launch (rd rs1 : BitVec 5) : Statement (.launch rd rs1) :=
  of11 rfl (by
    simp (disch := decide) only [decodeCustom0, decodeCustom04, ext_hi, ext_lo, ext_all, Nat.reduceSub, BitVec.reduceToNat, BitVec.reduceExtractLsb', and_self, ↓reduceIte, BitVec.reduceEq])
theorem lpoll (rd rs1 : BitVec 5) : Statement (.lpoll rd rs1) :=
  of11 rfl (by
    simp (disch := decide) only [decodeCustom0, decodeCustom04, ext_hi, ext_lo, ext_all, Nat.reduceSub, BitVec.reduceToNat, BitVec.reduceExtractLsb', and_self, ↓reduceIte, BitVec.reduceEq])
theorem sysc (rd rs1 : BitVec 5) (dep : BitVec 1) : Statement (.sysc rd rs1 dep) :=
  of11 rfl (by
    simp (disch := decide) only [decodeCustom0, decodeCustom05, ext_hi, ext_lo, ext_all, Nat.reduceSub, BitVec.reduceToNat, BitVec.reduceExtractLsb', and_self, ↓reduceIte, BitVec.reduceEq])
theorem sysw (rd rs1 : BitVec 5) : Statement (.sysw rd rs1) :=
  of11 rfl (by
    simp (disch := decide) only [decodeCustom0, decodeCustom05, ext_hi, ext_lo, ext_all, Nat.reduceSub, BitVec.reduceToNat, BitVec.reduceExtractLsb', and_self, ↓reduceIte, BitVec.reduceEq])
theorem nfy (rd rs1 rs2 : BitVec 5) : Statement (.nfy rd rs1 rs2) :=
  of11 rfl (by
    simp (disch := decide) only [decodeCustom0, decodeCustom05, ext_hi, ext_lo, ext_all, Nat.reduceSub, BitVec.reduceToNat, BitVec.reduceExtractLsb', and_self, ↓reduceIte, BitVec.reduceEq])
theorem fhand (rd : BitVec 5) (imm : BitVec 12) : Statement (.fhand rd imm) :=
  of11 rfl (by
    simp (disch := decide) only [decodeCustom0, ext_hi, ext_lo, ext_all, Nat.reduceSub, BitVec.reduceToNat, BitVec.reduceExtractLsb', and_self, ↓reduceIte, BitVec.reduceEq])
theorem cprobe (rd rs1 rs2 : BitVec 5) : Statement (.cprobe rd rs1 rs2) :=
  of11 rfl (by
    simp (disch := decide) only [decodeCustom0, decodeCustom07, ext_hi, ext_lo, ext_all, Nat.reduceSub, BitVec.reduceToNat, BitVec.reduceExtractLsb', and_self, ↓reduceIte, BitVec.reduceEq])
theorem cpin (rd rs1 : BitVec 5) : Statement (.cpin rd rs1) :=
  of11 rfl (by
    simp (disch := decide) only [decodeCustom0, decodeCustom07, ext_hi, ext_lo, ext_all, Nat.reduceSub, BitVec.reduceToNat, BitVec.reduceExtractLsb', and_self, ↓reduceIte, BitVec.reduceEq])
theorem cunpin (rd rs1 : BitVec 5) : Statement (.cunpin rd rs1) :=
  of11 rfl (by
    simp (disch := decide) only [decodeCustom0, decodeCustom07, ext_hi, ext_lo, ext_all, Nat.reduceSub, BitVec.reduceToNat, BitVec.reduceExtractLsb', and_self, ↓reduceIte, BitVec.reduceEq])
theorem cevict (rd rs1 : BitVec 5) : Statement (.cevict rd rs1) :=
  of11 rfl (by
    simp (disch := decide) only [decodeCustom0, decodeCustom07, ext_hi, ext_lo, ext_all, Nat.reduceSub, BitVec.reduceToNat, BitVec.reduceExtractLsb', and_self, ↓reduceIte, BitVec.reduceEq])
theorem ctxflush (rd rs1 : BitVec 5) : Statement (.ctxflush rd rs1) :=
  of11 rfl (by
    simp (disch := decide) only [decodeCustom0, decodeCustom07, ext_hi, ext_lo, ext_all, Nat.reduceSub, BitVec.reduceToNat, BitVec.reduceExtractLsb', and_self, ↓reduceIte, BitVec.reduceEq])
theorem ctxload (rd rs1 : BitVec 5) : Statement (.ctxload rd rs1) :=
  of11 rfl (by
    simp (disch := decide) only [decodeCustom0, decodeCustom07, ext_hi, ext_lo, ext_all, Nat.reduceSub, BitVec.reduceToNat, BitVec.reduceExtractLsb', and_self, ↓reduceIte, BitVec.reduceEq])
theorem wsw (rd rs1 rs2 : BitVec 5) : Statement (.wsw rd rs1 rs2) :=
  of11 rfl (by
    simp (disch := decide) only [decodeCustom0, decodeCustom07, ext_hi, ext_lo, ext_all, Nat.reduceSub, BitVec.reduceToNat, BitVec.reduceExtractLsb', and_self, ↓reduceIte, BitVec.reduceEq])
theorem waitev (rd rs1 rs2 : BitVec 5) : Statement (.waitev rd rs1 rs2) :=
  of11 rfl (by
    simp (disch := decide) only [decodeCustom0, decodeCustom07, ext_hi, ext_lo, ext_all, Nat.reduceSub, BitVec.reduceToNat, BitVec.reduceExtractLsb', and_self, ↓reduceIte, BitVec.reduceEq])
theorem mark (rs1 : BitVec 5) : Statement (.mark rs1) :=
  ofWord 11#7 rfl (by simp (disch := decide) only [ext_hi, ext_lo, ext_all, Nat.reduceSub, BitVec.reduceToNat, BitVec.reduceExtractLsb', and_self, ↓reduceIte, BitVec.reduceEq]) (by decide) (fun _ => (major11 (by
    simp (disch := decide) only [ext_hi, ext_lo, ext_all, Nat.reduceSub, BitVec.reduceToNat, BitVec.reduceExtractLsb', and_self, ↓reduceIte, BitVec.reduceEq])).trans (by
    simp (disch := decide) only [decodeCustom0, decodeCustom07, ext_hi, ext_lo, ext_all, Nat.reduceSub, BitVec.reduceToNat, BitVec.reduceExtractLsb', and_self, ↓reduceIte, BitVec.reduceEq]))
theorem lui (rd : BitVec 5) (imm : BitVec 20) : Statement (.lui rd imm) :=
  of55 rfl (by
    simp (disch := decide) only [decodeLui, ext_hi, ext_lo, ext_all, Nat.reduceSub, BitVec.reduceToNat, BitVec.reduceExtractLsb', and_self, ↓reduceIte, BitVec.reduceEq])
theorem auipc (rd : BitVec 5) (imm : BitVec 20) : Statement (.auipc rd imm) :=
  of23 rfl (by
    simp (disch := decide) only [decodeAuipc, ext_hi, ext_lo, ext_all, Nat.reduceSub, BitVec.reduceToNat, BitVec.reduceExtractLsb', and_self, ↓reduceIte, BitVec.reduceEq])
theorem jal (rd : BitVec 5) (imm : BitVec 20) : Statement (.jal rd imm) :=
  of111 rfl (by
    simp (disch := decide) only [decodeJal, ext_hi, ext_lo, ext_all, Nat.reduceSub, BitVec.reduceToNat, BitVec.reduceExtractLsb', and_self, ↓reduceIte, BitVec.reduceEq, ext_append])
theorem jalr (rd rs1 : BitVec 5) (imm : BitVec 12) : Statement (.jalr rd rs1 imm) :=
  of103 rfl (by
    simp (disch := decide) only [decodeJalr, ext_hi, ext_lo, ext_all, Nat.reduceSub, BitVec.reduceToNat, BitVec.reduceExtractLsb', and_self, ↓reduceIte, BitVec.reduceEq])
theorem beq (rs1 rs2 : BitVec 5) (imm : BitVec 12) : Statement (.beq rs1 rs2 imm) :=
  of99 rfl (by
    simp (disch := decide) only [decodeBranch, ext_hi, ext_lo, ext_all, Nat.reduceSub, BitVec.reduceToNat, BitVec.reduceExtractLsb', and_self, ↓reduceIte, BitVec.reduceEq, ext_append])
theorem bne (rs1 rs2 : BitVec 5) (imm : BitVec 12) : Statement (.bne rs1 rs2 imm) :=
  of99 rfl (by
    simp (disch := decide) only [decodeBranch, ext_hi, ext_lo, ext_all, Nat.reduceSub, BitVec.reduceToNat, BitVec.reduceExtractLsb', and_self, ↓reduceIte, BitVec.reduceEq, ext_append])
theorem blt (rs1 rs2 : BitVec 5) (imm : BitVec 12) : Statement (.blt rs1 rs2 imm) :=
  of99 rfl (by
    simp (disch := decide) only [decodeBranch, ext_hi, ext_lo, ext_all, Nat.reduceSub, BitVec.reduceToNat, BitVec.reduceExtractLsb', and_self, ↓reduceIte, BitVec.reduceEq, ext_append])
theorem bge (rs1 rs2 : BitVec 5) (imm : BitVec 12) : Statement (.bge rs1 rs2 imm) :=
  of99 rfl (by
    simp (disch := decide) only [decodeBranch, ext_hi, ext_lo, ext_all, Nat.reduceSub, BitVec.reduceToNat, BitVec.reduceExtractLsb', and_self, ↓reduceIte, BitVec.reduceEq, ext_append])
theorem bltu (rs1 rs2 : BitVec 5) (imm : BitVec 12) : Statement (.bltu rs1 rs2 imm) :=
  of99 rfl (by
    simp (disch := decide) only [decodeBranch, ext_hi, ext_lo, ext_all, Nat.reduceSub, BitVec.reduceToNat, BitVec.reduceExtractLsb', and_self, ↓reduceIte, BitVec.reduceEq, ext_append])
theorem bgeu (rs1 rs2 : BitVec 5) (imm : BitVec 12) : Statement (.bgeu rs1 rs2 imm) :=
  of99 rfl (by
    simp (disch := decide) only [decodeBranch, ext_hi, ext_lo, ext_all, Nat.reduceSub, BitVec.reduceToNat, BitVec.reduceExtractLsb', and_self, ↓reduceIte, BitVec.reduceEq, ext_append])
theorem lb (rd rs1 : BitVec 5) (imm : BitVec 12) : Statement (.lb rd rs1 imm) :=
  of3 rfl (by
    simp (disch := decide) only [decodeLoad, ext_hi, ext_lo, ext_all, Nat.reduceSub, BitVec.reduceToNat, BitVec.reduceExtractLsb', and_self, ↓reduceIte, BitVec.reduceEq])
theorem lh (rd rs1 : BitVec 5) (imm : BitVec 12) : Statement (.lh rd rs1 imm) :=
  of3 rfl (by
    simp (disch := decide) only [decodeLoad, ext_hi, ext_lo, ext_all, Nat.reduceSub, BitVec.reduceToNat, BitVec.reduceExtractLsb', and_self, ↓reduceIte, BitVec.reduceEq])
theorem lw (rd rs1 : BitVec 5) (imm : BitVec 12) : Statement (.lw rd rs1 imm) :=
  of3 rfl (by
    simp (disch := decide) only [decodeLoad, ext_hi, ext_lo, ext_all, Nat.reduceSub, BitVec.reduceToNat, BitVec.reduceExtractLsb', and_self, ↓reduceIte, BitVec.reduceEq])
theorem ld (rd rs1 : BitVec 5) (imm : BitVec 12) : Statement (.ld rd rs1 imm) :=
  of3 rfl (by
    simp (disch := decide) only [decodeLoad, ext_hi, ext_lo, ext_all, Nat.reduceSub, BitVec.reduceToNat, BitVec.reduceExtractLsb', and_self, ↓reduceIte, BitVec.reduceEq])
theorem lbu (rd rs1 : BitVec 5) (imm : BitVec 12) : Statement (.lbu rd rs1 imm) :=
  of3 rfl (by
    simp (disch := decide) only [decodeLoad, ext_hi, ext_lo, ext_all, Nat.reduceSub, BitVec.reduceToNat, BitVec.reduceExtractLsb', and_self, ↓reduceIte, BitVec.reduceEq])
theorem lhu (rd rs1 : BitVec 5) (imm : BitVec 12) : Statement (.lhu rd rs1 imm) :=
  of3 rfl (by
    simp (disch := decide) only [decodeLoad, ext_hi, ext_lo, ext_all, Nat.reduceSub, BitVec.reduceToNat, BitVec.reduceExtractLsb', and_self, ↓reduceIte, BitVec.reduceEq])
theorem lwu (rd rs1 : BitVec 5) (imm : BitVec 12) : Statement (.lwu rd rs1 imm) :=
  of3 rfl (by
    simp (disch := decide) only [decodeLoad, ext_hi, ext_lo, ext_all, Nat.reduceSub, BitVec.reduceToNat, BitVec.reduceExtractLsb', and_self, ↓reduceIte, BitVec.reduceEq])
theorem sb (rs1 rs2 : BitVec 5) (imm : BitVec 12) : Statement (.sb rs1 rs2 imm) :=
  of35 rfl (by
    simp (disch := decide) only [decodeStore, ext_hi, ext_lo, ext_all, Nat.reduceSub, BitVec.reduceToNat, BitVec.reduceExtractLsb', and_self, ↓reduceIte, BitVec.reduceEq, ext_append])
theorem sh (rs1 rs2 : BitVec 5) (imm : BitVec 12) : Statement (.sh rs1 rs2 imm) :=
  of35 rfl (by
    simp (disch := decide) only [decodeStore, ext_hi, ext_lo, ext_all, Nat.reduceSub, BitVec.reduceToNat, BitVec.reduceExtractLsb', and_self, ↓reduceIte, BitVec.reduceEq, ext_append])
theorem sw (rs1 rs2 : BitVec 5) (imm : BitVec 12) : Statement (.sw rs1 rs2 imm) :=
  of35 rfl (by
    simp (disch := decide) only [decodeStore, ext_hi, ext_lo, ext_all, Nat.reduceSub, BitVec.reduceToNat, BitVec.reduceExtractLsb', and_self, ↓reduceIte, BitVec.reduceEq, ext_append])
theorem sd (rs1 rs2 : BitVec 5) (imm : BitVec 12) : Statement (.sd rs1 rs2 imm) :=
  of35 rfl (by
    simp (disch := decide) only [decodeStore, ext_hi, ext_lo, ext_all, Nat.reduceSub, BitVec.reduceToNat, BitVec.reduceExtractLsb', and_self, ↓reduceIte, BitVec.reduceEq, ext_append])
theorem addi (rd rs1 : BitVec 5) (imm : BitVec 12) : Statement (.addi rd rs1 imm) :=
  of19 rfl (by
    simp (disch := decide) only [decodeOpImm, ext_hi, ext_lo, ext_all, Nat.reduceSub, BitVec.reduceToNat, BitVec.reduceExtractLsb', and_self, ↓reduceIte, BitVec.reduceEq])
theorem slti (rd rs1 : BitVec 5) (imm : BitVec 12) : Statement (.slti rd rs1 imm) :=
  of19 rfl (by
    simp (disch := decide) only [decodeOpImm, ext_hi, ext_lo, ext_all, Nat.reduceSub, BitVec.reduceToNat, BitVec.reduceExtractLsb', and_self, ↓reduceIte, BitVec.reduceEq])
theorem sltiu (rd rs1 : BitVec 5) (imm : BitVec 12) : Statement (.sltiu rd rs1 imm) :=
  of19 rfl (by
    simp (disch := decide) only [decodeOpImm, ext_hi, ext_lo, ext_all, Nat.reduceSub, BitVec.reduceToNat, BitVec.reduceExtractLsb', and_self, ↓reduceIte, BitVec.reduceEq])
theorem xori (rd rs1 : BitVec 5) (imm : BitVec 12) : Statement (.xori rd rs1 imm) :=
  of19 rfl (by
    simp (disch := decide) only [decodeOpImm, ext_hi, ext_lo, ext_all, Nat.reduceSub, BitVec.reduceToNat, BitVec.reduceExtractLsb', and_self, ↓reduceIte, BitVec.reduceEq])
theorem ori (rd rs1 : BitVec 5) (imm : BitVec 12) : Statement (.ori rd rs1 imm) :=
  of19 rfl (by
    simp (disch := decide) only [decodeOpImm, ext_hi, ext_lo, ext_all, Nat.reduceSub, BitVec.reduceToNat, BitVec.reduceExtractLsb', and_self, ↓reduceIte, BitVec.reduceEq])
theorem andi (rd rs1 : BitVec 5) (imm : BitVec 12) : Statement (.andi rd rs1 imm) :=
  of19 rfl (by
    simp (disch := decide) only [decodeOpImm, ext_hi, ext_lo, ext_all, Nat.reduceSub, BitVec.reduceToNat, BitVec.reduceExtractLsb', and_self, ↓reduceIte, BitVec.reduceEq])
theorem slli (rd rs1 : BitVec 5) (shamt : BitVec 6) : Statement (.slli rd rs1 shamt) :=
  of19 rfl (by
    simp (disch := decide) only [decodeOpImm, ext_hi, ext_lo, ext_all, Nat.reduceSub, BitVec.reduceToNat, BitVec.reduceExtractLsb', and_self, ↓reduceIte, BitVec.reduceEq])
theorem srli (rd rs1 : BitVec 5) (shamt : BitVec 6) : Statement (.srli rd rs1 shamt) :=
  of19 rfl (by
    simp (disch := decide) only [decodeOpImm, decodeOpImm5, ext_hi, ext_lo, ext_all, Nat.reduceSub, BitVec.reduceToNat, BitVec.reduceExtractLsb', and_self, ↓reduceIte, BitVec.reduceEq])
theorem srai (rd rs1 : BitVec 5) (shamt : BitVec 6) : Statement (.srai rd rs1 shamt) :=
  of19 rfl (by
    simp (disch := decide) only [decodeOpImm, decodeOpImm5, ext_hi, ext_lo, ext_all, Nat.reduceSub, BitVec.reduceToNat, BitVec.reduceExtractLsb', and_self, ↓reduceIte, BitVec.reduceEq])
theorem addiw (rd rs1 : BitVec 5) (imm : BitVec 12) : Statement (.addiw rd rs1 imm) :=
  of27 rfl (by
    simp (disch := decide) only [decodeOpImm32, ext_hi, ext_lo, ext_all, Nat.reduceSub, BitVec.reduceToNat, BitVec.reduceExtractLsb', and_self, ↓reduceIte, BitVec.reduceEq])
theorem slliw (rd rs1 shamt : BitVec 5) : Statement (.slliw rd rs1 shamt) :=
  of27 rfl (by
    simp (disch := decide) only [decodeOpImm32, ext_hi, ext_lo, ext_all, Nat.reduceSub, BitVec.reduceToNat, BitVec.reduceExtractLsb', and_self, ↓reduceIte, BitVec.reduceEq])
theorem srliw (rd rs1 shamt : BitVec 5) : Statement (.srliw rd rs1 shamt) :=
  of27 rfl (by
    simp (disch := decide) only [decodeOpImm32, decodeOpImm325, ext_hi, ext_lo, ext_all, Nat.reduceSub, BitVec.reduceToNat, BitVec.reduceExtractLsb', and_self, ↓reduceIte, BitVec.reduceEq])
theorem sraiw (rd rs1 shamt : BitVec 5) : Statement (.sraiw rd rs1 shamt) :=
  of27 rfl (by
    simp (disch := decide) only [decodeOpImm32, decodeOpImm325, ext_hi, ext_lo, ext_all, Nat.reduceSub, BitVec.reduceToNat, BitVec.reduceExtractLsb', and_self, ↓reduceIte, BitVec.reduceEq])
theorem add (rd rs1 rs2 : BitVec 5) : Statement (.add rd rs1 rs2) :=
  of51 rfl (by
    simp (disch := decide) only [decodeOp, decodeOp0, ext_hi, ext_lo, ext_all, Nat.reduceSub, BitVec.reduceToNat, BitVec.reduceExtractLsb', and_self, ↓reduceIte, BitVec.reduceEq])
theorem sll (rd rs1 rs2 : BitVec 5) : Statement (.sll rd rs1 rs2) :=
  of51 rfl (by
    simp (disch := decide) only [decodeOp, decodeOp1, ext_hi, ext_lo, ext_all, Nat.reduceSub, BitVec.reduceToNat, BitVec.reduceExtractLsb', and_self, ↓reduceIte, BitVec.reduceEq])
theorem slt (rd rs1 rs2 : BitVec 5) : Statement (.slt rd rs1 rs2) :=
  of51 rfl (by
    simp (disch := decide) only [decodeOp, decodeOp2, ext_hi, ext_lo, ext_all, Nat.reduceSub, BitVec.reduceToNat, BitVec.reduceExtractLsb', and_self, ↓reduceIte, BitVec.reduceEq])
theorem sltu (rd rs1 rs2 : BitVec 5) : Statement (.sltu rd rs1 rs2) :=
  of51 rfl (by
    simp (disch := decide) only [decodeOp, decodeOp3, ext_hi, ext_lo, ext_all, Nat.reduceSub, BitVec.reduceToNat, BitVec.reduceExtractLsb', and_self, ↓reduceIte, BitVec.reduceEq])
theorem xor (rd rs1 rs2 : BitVec 5) : Statement (.xor rd rs1 rs2) :=
  of51 rfl (by
    simp (disch := decide) only [decodeOp, decodeOp4, ext_hi, ext_lo, ext_all, Nat.reduceSub, BitVec.reduceToNat, BitVec.reduceExtractLsb', and_self, ↓reduceIte, BitVec.reduceEq])
theorem srl (rd rs1 rs2 : BitVec 5) : Statement (.srl rd rs1 rs2) :=
  of51 rfl (by
    simp (disch := decide) only [decodeOp, decodeOp5, ext_hi, ext_lo, ext_all, Nat.reduceSub, BitVec.reduceToNat, BitVec.reduceExtractLsb', and_self, ↓reduceIte, BitVec.reduceEq])
theorem or (rd rs1 rs2 : BitVec 5) : Statement (.or rd rs1 rs2) :=
  of51 rfl (by
    simp (disch := decide) only [decodeOp, decodeOp6, ext_hi, ext_lo, ext_all, Nat.reduceSub, BitVec.reduceToNat, BitVec.reduceExtractLsb', and_self, ↓reduceIte, BitVec.reduceEq])
theorem and (rd rs1 rs2 : BitVec 5) : Statement (.and rd rs1 rs2) :=
  of51 rfl (by
    simp (disch := decide) only [decodeOp, decodeOp7, ext_hi, ext_lo, ext_all, Nat.reduceSub, BitVec.reduceToNat, BitVec.reduceExtractLsb', and_self, ↓reduceIte, BitVec.reduceEq])
theorem sub (rd rs1 rs2 : BitVec 5) : Statement (.sub rd rs1 rs2) :=
  of51 rfl (by
    simp (disch := decide) only [decodeOp, decodeOp0, ext_hi, ext_lo, ext_all, Nat.reduceSub, BitVec.reduceToNat, BitVec.reduceExtractLsb', and_self, ↓reduceIte, BitVec.reduceEq])
theorem sra (rd rs1 rs2 : BitVec 5) : Statement (.sra rd rs1 rs2) :=
  of51 rfl (by
    simp (disch := decide) only [decodeOp, decodeOp5, ext_hi, ext_lo, ext_all, Nat.reduceSub, BitVec.reduceToNat, BitVec.reduceExtractLsb', and_self, ↓reduceIte, BitVec.reduceEq])
theorem mul (rd rs1 rs2 : BitVec 5) : Statement (.mul rd rs1 rs2) :=
  of51 rfl (by
    simp (disch := decide) only [decodeOp, decodeOp0, ext_hi, ext_lo, ext_all, Nat.reduceSub, BitVec.reduceToNat, BitVec.reduceExtractLsb', and_self, ↓reduceIte, BitVec.reduceEq])
theorem mulh (rd rs1 rs2 : BitVec 5) : Statement (.mulh rd rs1 rs2) :=
  of51 rfl (by
    simp (disch := decide) only [decodeOp, decodeOp1, ext_hi, ext_lo, ext_all, Nat.reduceSub, BitVec.reduceToNat, BitVec.reduceExtractLsb', and_self, ↓reduceIte, BitVec.reduceEq])
theorem mulhsu (rd rs1 rs2 : BitVec 5) : Statement (.mulhsu rd rs1 rs2) :=
  of51 rfl (by
    simp (disch := decide) only [decodeOp, decodeOp2, ext_hi, ext_lo, ext_all, Nat.reduceSub, BitVec.reduceToNat, BitVec.reduceExtractLsb', and_self, ↓reduceIte, BitVec.reduceEq])
theorem mulhu (rd rs1 rs2 : BitVec 5) : Statement (.mulhu rd rs1 rs2) :=
  of51 rfl (by
    simp (disch := decide) only [decodeOp, decodeOp3, ext_hi, ext_lo, ext_all, Nat.reduceSub, BitVec.reduceToNat, BitVec.reduceExtractLsb', and_self, ↓reduceIte, BitVec.reduceEq])
theorem div (rd rs1 rs2 : BitVec 5) : Statement (.div rd rs1 rs2) :=
  of51 rfl (by
    simp (disch := decide) only [decodeOp, decodeOp4, ext_hi, ext_lo, ext_all, Nat.reduceSub, BitVec.reduceToNat, BitVec.reduceExtractLsb', and_self, ↓reduceIte, BitVec.reduceEq])
theorem divu (rd rs1 rs2 : BitVec 5) : Statement (.divu rd rs1 rs2) :=
  of51 rfl (by
    simp (disch := decide) only [decodeOp, decodeOp5, ext_hi, ext_lo, ext_all, Nat.reduceSub, BitVec.reduceToNat, BitVec.reduceExtractLsb', and_self, ↓reduceIte, BitVec.reduceEq])
theorem rem (rd rs1 rs2 : BitVec 5) : Statement (.rem rd rs1 rs2) :=
  of51 rfl (by
    simp (disch := decide) only [decodeOp, decodeOp6, ext_hi, ext_lo, ext_all, Nat.reduceSub, BitVec.reduceToNat, BitVec.reduceExtractLsb', and_self, ↓reduceIte, BitVec.reduceEq])
theorem remu (rd rs1 rs2 : BitVec 5) : Statement (.remu rd rs1 rs2) :=
  of51 rfl (by
    simp (disch := decide) only [decodeOp, decodeOp7, ext_hi, ext_lo, ext_all, Nat.reduceSub, BitVec.reduceToNat, BitVec.reduceExtractLsb', and_self, ↓reduceIte, BitVec.reduceEq])
theorem addw (rd rs1 rs2 : BitVec 5) : Statement (.addw rd rs1 rs2) :=
  of59 rfl (by
    simp (disch := decide) only [decodeOp32, decodeOp320, ext_hi, ext_lo, ext_all, Nat.reduceSub, BitVec.reduceToNat, BitVec.reduceExtractLsb', and_self, ↓reduceIte, BitVec.reduceEq])
theorem sllw (rd rs1 rs2 : BitVec 5) : Statement (.sllw rd rs1 rs2) :=
  of59 rfl (by
    simp (disch := decide) only [decodeOp32, ext_hi, ext_lo, ext_all, Nat.reduceSub, BitVec.reduceToNat, BitVec.reduceExtractLsb', and_self, ↓reduceIte, BitVec.reduceEq])
theorem srlw (rd rs1 rs2 : BitVec 5) : Statement (.srlw rd rs1 rs2) :=
  of59 rfl (by
    simp (disch := decide) only [decodeOp32, decodeOp325, ext_hi, ext_lo, ext_all, Nat.reduceSub, BitVec.reduceToNat, BitVec.reduceExtractLsb', and_self, ↓reduceIte, BitVec.reduceEq])
theorem subw (rd rs1 rs2 : BitVec 5) : Statement (.subw rd rs1 rs2) :=
  of59 rfl (by
    simp (disch := decide) only [decodeOp32, decodeOp320, ext_hi, ext_lo, ext_all, Nat.reduceSub, BitVec.reduceToNat, BitVec.reduceExtractLsb', and_self, ↓reduceIte, BitVec.reduceEq])
theorem sraw (rd rs1 rs2 : BitVec 5) : Statement (.sraw rd rs1 rs2) :=
  of59 rfl (by
    simp (disch := decide) only [decodeOp32, decodeOp325, ext_hi, ext_lo, ext_all, Nat.reduceSub, BitVec.reduceToNat, BitVec.reduceExtractLsb', and_self, ↓reduceIte, BitVec.reduceEq])
theorem mulw (rd rs1 rs2 : BitVec 5) : Statement (.mulw rd rs1 rs2) :=
  of59 rfl (by
    simp (disch := decide) only [decodeOp32, decodeOp320, ext_hi, ext_lo, ext_all, Nat.reduceSub, BitVec.reduceToNat, BitVec.reduceExtractLsb', and_self, ↓reduceIte, BitVec.reduceEq])
theorem divw (rd rs1 rs2 : BitVec 5) : Statement (.divw rd rs1 rs2) :=
  of59 rfl (by
    simp (disch := decide) only [decodeOp32, ext_hi, ext_lo, ext_all, Nat.reduceSub, BitVec.reduceToNat, BitVec.reduceExtractLsb', and_self, ↓reduceIte, BitVec.reduceEq])
theorem divuw (rd rs1 rs2 : BitVec 5) : Statement (.divuw rd rs1 rs2) :=
  of59 rfl (by
    simp (disch := decide) only [decodeOp32, decodeOp325, ext_hi, ext_lo, ext_all, Nat.reduceSub, BitVec.reduceToNat, BitVec.reduceExtractLsb', and_self, ↓reduceIte, BitVec.reduceEq])
theorem remw (rd rs1 rs2 : BitVec 5) : Statement (.remw rd rs1 rs2) :=
  of59 rfl (by
    simp (disch := decide) only [decodeOp32, ext_hi, ext_lo, ext_all, Nat.reduceSub, BitVec.reduceToNat, BitVec.reduceExtractLsb', and_self, ↓reduceIte, BitVec.reduceEq])
theorem remuw (rd rs1 rs2 : BitVec 5) : Statement (.remuw rd rs1 rs2) :=
  of59 rfl (by
    simp (disch := decide) only [decodeOp32, ext_hi, ext_lo, ext_all, Nat.reduceSub, BitVec.reduceToNat, BitVec.reduceExtractLsb', and_self, ↓reduceIte, BitVec.reduceEq])
theorem fence (rd rs1 : BitVec 5) (fm pred succ : BitVec 4) : Statement (.fence rd rs1 fm pred succ) :=
  of15 rfl (by
    simp (disch := decide) only [decodeMiscMem, ext_hi, ext_lo, ext_all, Nat.reduceSub, BitVec.reduceToNat, BitVec.reduceExtractLsb', and_self, ↓reduceIte, BitVec.reduceEq])
theorem lrW (rd rs1 : BitVec 5) (aq rl : BitVec 1) : Statement (.lrW rd rs1 aq rl) :=
  of47 rfl (by
    simp (disch := decide) only [decodeAmo, decodeAmo2, ext_hi, ext_lo, ext_all, Nat.reduceSub, BitVec.reduceToNat, BitVec.reduceExtractLsb', and_self, ↓reduceIte, BitVec.reduceEq])
theorem lrD (rd rs1 : BitVec 5) (aq rl : BitVec 1) : Statement (.lrD rd rs1 aq rl) :=
  of47 rfl (by
    simp (disch := decide) only [decodeAmo, decodeAmo3, ext_hi, ext_lo, ext_all, Nat.reduceSub, BitVec.reduceToNat, BitVec.reduceExtractLsb', and_self, ↓reduceIte, BitVec.reduceEq])
theorem scW (rd rs1 rs2 : BitVec 5) (aq rl : BitVec 1) : Statement (.scW rd rs1 rs2 aq rl) :=
  of47 rfl (by
    simp (disch := decide) only [decodeAmo, decodeAmo2, ext_hi, ext_lo, ext_all, Nat.reduceSub, BitVec.reduceToNat, BitVec.reduceExtractLsb', and_self, ↓reduceIte, BitVec.reduceEq])
theorem scD (rd rs1 rs2 : BitVec 5) (aq rl : BitVec 1) : Statement (.scD rd rs1 rs2 aq rl) :=
  of47 rfl (by
    simp (disch := decide) only [decodeAmo, decodeAmo3, ext_hi, ext_lo, ext_all, Nat.reduceSub, BitVec.reduceToNat, BitVec.reduceExtractLsb', and_self, ↓reduceIte, BitVec.reduceEq])
theorem amoswapW (rd rs1 rs2 : BitVec 5) (aq rl : BitVec 1) : Statement (.amoswapW rd rs1 rs2 aq rl) :=
  of47 rfl (by
    simp (disch := decide) only [decodeAmo, decodeAmo2, ext_hi, ext_lo, ext_all, Nat.reduceSub, BitVec.reduceToNat, BitVec.reduceExtractLsb', and_self, ↓reduceIte, BitVec.reduceEq])
theorem amoswapD (rd rs1 rs2 : BitVec 5) (aq rl : BitVec 1) : Statement (.amoswapD rd rs1 rs2 aq rl) :=
  of47 rfl (by
    simp (disch := decide) only [decodeAmo, decodeAmo3, ext_hi, ext_lo, ext_all, Nat.reduceSub, BitVec.reduceToNat, BitVec.reduceExtractLsb', and_self, ↓reduceIte, BitVec.reduceEq])
theorem amoaddW (rd rs1 rs2 : BitVec 5) (aq rl : BitVec 1) : Statement (.amoaddW rd rs1 rs2 aq rl) :=
  of47 rfl (by
    simp (disch := decide) only [decodeAmo, decodeAmo2, ext_hi, ext_lo, ext_all, Nat.reduceSub, BitVec.reduceToNat, BitVec.reduceExtractLsb', and_self, ↓reduceIte, BitVec.reduceEq])
theorem amoaddD (rd rs1 rs2 : BitVec 5) (aq rl : BitVec 1) : Statement (.amoaddD rd rs1 rs2 aq rl) :=
  of47 rfl (by
    simp (disch := decide) only [decodeAmo, decodeAmo3, ext_hi, ext_lo, ext_all, Nat.reduceSub, BitVec.reduceToNat, BitVec.reduceExtractLsb', and_self, ↓reduceIte, BitVec.reduceEq])
theorem amoxorW (rd rs1 rs2 : BitVec 5) (aq rl : BitVec 1) : Statement (.amoxorW rd rs1 rs2 aq rl) :=
  of47 rfl (by
    simp (disch := decide) only [decodeAmo, decodeAmo2, ext_hi, ext_lo, ext_all, Nat.reduceSub, BitVec.reduceToNat, BitVec.reduceExtractLsb', and_self, ↓reduceIte, BitVec.reduceEq])
theorem amoxorD (rd rs1 rs2 : BitVec 5) (aq rl : BitVec 1) : Statement (.amoxorD rd rs1 rs2 aq rl) :=
  of47 rfl (by
    simp (disch := decide) only [decodeAmo, decodeAmo3, ext_hi, ext_lo, ext_all, Nat.reduceSub, BitVec.reduceToNat, BitVec.reduceExtractLsb', and_self, ↓reduceIte, BitVec.reduceEq])
theorem amoandW (rd rs1 rs2 : BitVec 5) (aq rl : BitVec 1) : Statement (.amoandW rd rs1 rs2 aq rl) :=
  of47 rfl (by
    simp (disch := decide) only [decodeAmo, decodeAmo2, ext_hi, ext_lo, ext_all, Nat.reduceSub, BitVec.reduceToNat, BitVec.reduceExtractLsb', and_self, ↓reduceIte, BitVec.reduceEq])
theorem amoandD (rd rs1 rs2 : BitVec 5) (aq rl : BitVec 1) : Statement (.amoandD rd rs1 rs2 aq rl) :=
  of47 rfl (by
    simp (disch := decide) only [decodeAmo, decodeAmo3, ext_hi, ext_lo, ext_all, Nat.reduceSub, BitVec.reduceToNat, BitVec.reduceExtractLsb', and_self, ↓reduceIte, BitVec.reduceEq])
theorem amoorW (rd rs1 rs2 : BitVec 5) (aq rl : BitVec 1) : Statement (.amoorW rd rs1 rs2 aq rl) :=
  of47 rfl (by
    simp (disch := decide) only [decodeAmo, decodeAmo2, ext_hi, ext_lo, ext_all, Nat.reduceSub, BitVec.reduceToNat, BitVec.reduceExtractLsb', and_self, ↓reduceIte, BitVec.reduceEq])
theorem amoorD (rd rs1 rs2 : BitVec 5) (aq rl : BitVec 1) : Statement (.amoorD rd rs1 rs2 aq rl) :=
  of47 rfl (by
    simp (disch := decide) only [decodeAmo, decodeAmo3, ext_hi, ext_lo, ext_all, Nat.reduceSub, BitVec.reduceToNat, BitVec.reduceExtractLsb', and_self, ↓reduceIte, BitVec.reduceEq])
theorem amominW (rd rs1 rs2 : BitVec 5) (aq rl : BitVec 1) : Statement (.amominW rd rs1 rs2 aq rl) :=
  of47 rfl (by
    simp (disch := decide) only [decodeAmo, decodeAmo2, ext_hi, ext_lo, ext_all, Nat.reduceSub, BitVec.reduceToNat, BitVec.reduceExtractLsb', and_self, ↓reduceIte, BitVec.reduceEq])
theorem amominD (rd rs1 rs2 : BitVec 5) (aq rl : BitVec 1) : Statement (.amominD rd rs1 rs2 aq rl) :=
  of47 rfl (by
    simp (disch := decide) only [decodeAmo, decodeAmo3, ext_hi, ext_lo, ext_all, Nat.reduceSub, BitVec.reduceToNat, BitVec.reduceExtractLsb', and_self, ↓reduceIte, BitVec.reduceEq])
theorem amomaxW (rd rs1 rs2 : BitVec 5) (aq rl : BitVec 1) : Statement (.amomaxW rd rs1 rs2 aq rl) :=
  of47 rfl (by
    simp (disch := decide) only [decodeAmo, decodeAmo2, ext_hi, ext_lo, ext_all, Nat.reduceSub, BitVec.reduceToNat, BitVec.reduceExtractLsb', and_self, ↓reduceIte, BitVec.reduceEq])
theorem amomaxD (rd rs1 rs2 : BitVec 5) (aq rl : BitVec 1) : Statement (.amomaxD rd rs1 rs2 aq rl) :=
  of47 rfl (by
    simp (disch := decide) only [decodeAmo, decodeAmo3, ext_hi, ext_lo, ext_all, Nat.reduceSub, BitVec.reduceToNat, BitVec.reduceExtractLsb', and_self, ↓reduceIte, BitVec.reduceEq])
theorem amominuW (rd rs1 rs2 : BitVec 5) (aq rl : BitVec 1) : Statement (.amominuW rd rs1 rs2 aq rl) :=
  of47 rfl (by
    simp (disch := decide) only [decodeAmo, decodeAmo2, ext_hi, ext_lo, ext_all, Nat.reduceSub, BitVec.reduceToNat, BitVec.reduceExtractLsb', and_self, ↓reduceIte, BitVec.reduceEq])
theorem amominuD (rd rs1 rs2 : BitVec 5) (aq rl : BitVec 1) : Statement (.amominuD rd rs1 rs2 aq rl) :=
  of47 rfl (by
    simp (disch := decide) only [decodeAmo, decodeAmo3, ext_hi, ext_lo, ext_all, Nat.reduceSub, BitVec.reduceToNat, BitVec.reduceExtractLsb', and_self, ↓reduceIte, BitVec.reduceEq])
theorem amomaxuW (rd rs1 rs2 : BitVec 5) (aq rl : BitVec 1) : Statement (.amomaxuW rd rs1 rs2 aq rl) :=
  of47 rfl (by
    simp (disch := decide) only [decodeAmo, decodeAmo2, ext_hi, ext_lo, ext_all, Nat.reduceSub, BitVec.reduceToNat, BitVec.reduceExtractLsb', and_self, ↓reduceIte, BitVec.reduceEq])
theorem amomaxuD (rd rs1 rs2 : BitVec 5) (aq rl : BitVec 1) : Statement (.amomaxuD rd rs1 rs2 aq rl) :=
  of47 rfl (by
    simp (disch := decide) only [decodeAmo, decodeAmo3, ext_hi, ext_lo, ext_all, Nat.reduceSub, BitVec.reduceToNat, BitVec.reduceExtractLsb', and_self, ↓reduceIte, BitVec.reduceEq])
theorem csrrw (rd rs1 : BitVec 5) (csr : BitVec 12) : Statement (.csrrw rd rs1 csr) :=
  of115 rfl (by
    simp (disch := decide) only [decodeSystem, ext_hi, ext_lo, ext_all, Nat.reduceSub, BitVec.reduceToNat, BitVec.reduceExtractLsb', and_self, ↓reduceIte, BitVec.reduceEq])
theorem csrrs (rd rs1 : BitVec 5) (csr : BitVec 12) : Statement (.csrrs rd rs1 csr) :=
  of115 rfl (by
    simp (disch := decide) only [decodeSystem, ext_hi, ext_lo, ext_all, Nat.reduceSub, BitVec.reduceToNat, BitVec.reduceExtractLsb', and_self, ↓reduceIte, BitVec.reduceEq])
theorem csrrc (rd rs1 : BitVec 5) (csr : BitVec 12) : Statement (.csrrc rd rs1 csr) :=
  of115 rfl (by
    simp (disch := decide) only [decodeSystem, ext_hi, ext_lo, ext_all, Nat.reduceSub, BitVec.reduceToNat, BitVec.reduceExtractLsb', and_self, ↓reduceIte, BitVec.reduceEq])
theorem csrrwi (rd : BitVec 5) (csr : BitVec 12) (uimm : BitVec 5) : Statement (.csrrwi rd csr uimm) :=
  of115 rfl (by
    simp (disch := decide) only [decodeSystem, ext_hi, ext_lo, ext_all, Nat.reduceSub, BitVec.reduceToNat, BitVec.reduceExtractLsb', and_self, ↓reduceIte, BitVec.reduceEq])
theorem csrrsi (rd : BitVec 5) (csr : BitVec 12) (uimm : BitVec 5) : Statement (.csrrsi rd csr uimm) :=
  of115 rfl (by
    simp (disch := decide) only [decodeSystem, ext_hi, ext_lo, ext_all, Nat.reduceSub, BitVec.reduceToNat, BitVec.reduceExtractLsb', and_self, ↓reduceIte, BitVec.reduceEq])
theorem csrrci (rd : BitVec 5) (csr : BitVec 12) (uimm : BitVec 5) : Statement (.csrrci rd csr uimm) :=
  of115 rfl (by
    simp (disch := decide) only [decodeSystem, ext_hi, ext_lo, ext_all, Nat.reduceSub, BitVec.reduceToNat, BitVec.reduceExtractLsb', and_self, ↓reduceIte, BitVec.reduceEq])
theorem sret : Statement .sret := ofWord 115#7 rfl (by decide) (by decide) (fun _ => rfl)
theorem mret : Statement .mret := ofWord 115#7 rfl (by decide) (by decide) (fun _ => rfl)
theorem wfi : Statement .wfi := ofWord 115#7 rfl (by decide) (by decide) (fun _ => rfl)
theorem sfenceVma (rs1 rs2 : BitVec 5) : Statement (.sfenceVma rs1 rs2) :=
  ofWord 115#7 rfl (by simp (disch := decide) only [ext_hi, ext_lo, ext_all, Nat.reduceSub, BitVec.reduceToNat, BitVec.reduceExtractLsb', and_self, ↓reduceIte, BitVec.reduceEq]) (by decide) (fun _ => (major115 (by
    simp (disch := decide) only [ext_hi, ext_lo, ext_all, Nat.reduceSub, BitVec.reduceToNat, BitVec.reduceExtractLsb', and_self, ↓reduceIte, BitVec.reduceEq])).trans (by
    have h25 : (9#7 ++ rs2 ++ rs1 ++ 115#15).extractLsb' 25 7 = 9#7 := by simp (disch := decide) only [ext_hi, ext_lo, ext_all, Nat.reduceSub, BitVec.reduceToNat, BitVec.reduceExtractLsb', and_self, ↓reduceIte, BitVec.reduceEq]
    have h1 : 9#7 ++ rs2 ++ rs1 ++ 115#15 ≠ 0x10200073#32 := field_ne 25 h25 (by decide)
    have h2 : 9#7 ++ rs2 ++ rs1 ++ 115#15 ≠ 0x30200073#32 := field_ne 25 h25 (by decide)
    have h3 : 9#7 ++ rs2 ++ rs1 ++ 115#15 ≠ 0x10500073#32 := field_ne 25 h25 (by decide)
    simp (disch := decide) only [decodeSystem, ext_hi, ext_lo, ext_all, Nat.reduceSub, BitVec.reduceToNat, BitVec.reduceExtractLsb', and_self, ↓reduceIte, BitVec.reduceEq]
    unfold decodeSystem0
    rw [if_neg h1, if_neg h2, if_neg h3]
    simp (disch := decide) only [ext_hi, ext_lo, ext_all, Nat.reduceSub, BitVec.reduceToNat, BitVec.reduceExtractLsb', and_self, ↓reduceIte, BitVec.reduceEq]))
theorem cAddi4spn (rd : BitVec 3) (imm : BitVec 8) : Statement (.cAddi4spn rd imm) :=
  have hd : decodeC0 (0#3 ++ imm.extractLsb' 2 2 ++ imm.extractLsb' 4 4 ++ imm.extractLsb' 0 1 ++ imm.extractLsb' 1 1 ++ rd ++ 0#2)
      = .ok (.cAddi4spn rd imm) := by
    simp (disch := decide) only [decodeC0, ext_hi, ext_lo, ext_all, Nat.reduceSub, BitVec.reduceToNat, BitVec.reduceExtractLsb', and_self, ↓reduceIte, BitVec.reduceEq, ext_append]
  ofParcel 0#2 rfl rfl (by simp (disch := decide) only [ext_hi, ext_lo, ext_all, Nat.reduceSub, BitVec.reduceToNat, BitVec.reduceExtractLsb', and_self, ↓reduceIte, BitVec.reduceEq]) (by decide)
    (fun hw e => by
      rw [e] at hd
      have h0 : decodeC0 0#16 = .ok (.cAddi4spn 0 0) := rfl
      rw [h0] at hd
      cases hd
      exact absurd hw (by decide)) (fun _ => hd)
theorem cLw (rd rs1 : BitVec 3) (imm : BitVec 5) : Statement (.cLw rd rs1 imm) :=
  ofParcel 0#2 rfl rfl (by simp (disch := decide) only [ext_hi, ext_lo, ext_all, Nat.reduceSub, BitVec.reduceToNat, BitVec.reduceExtractLsb', and_self, ↓reduceIte, BitVec.reduceEq]) (by decide) (fun _ => parcel_ne 13 (x := 2#3) (by simp (disch := decide) only [ext_hi, ext_lo, ext_all, Nat.reduceSub, BitVec.reduceToNat, BitVec.reduceExtractLsb', and_self, ↓reduceIte, BitVec.reduceEq]) (by decide))
    (fun _ => by simp (disch := decide) only [decodeC0, ext_hi, ext_lo, ext_all, Nat.reduceSub, BitVec.reduceToNat, BitVec.reduceExtractLsb', and_self, ↓reduceIte, BitVec.reduceEq, ext_append, BitVec.reduceAppend])
theorem cLd (rd rs1 : BitVec 3) (imm : BitVec 5) : Statement (.cLd rd rs1 imm) :=
  ofParcel 0#2 rfl rfl (by simp (disch := decide) only [ext_hi, ext_lo, ext_all, Nat.reduceSub, BitVec.reduceToNat, BitVec.reduceExtractLsb', and_self, ↓reduceIte, BitVec.reduceEq]) (by decide) (fun _ => parcel_ne 13 (x := 3#3) (by simp (disch := decide) only [ext_hi, ext_lo, ext_all, Nat.reduceSub, BitVec.reduceToNat, BitVec.reduceExtractLsb', and_self, ↓reduceIte, BitVec.reduceEq]) (by decide))
    (fun _ => by simp (disch := decide) only [decodeC0, ext_hi, ext_lo, ext_all, Nat.reduceSub, BitVec.reduceToNat, BitVec.reduceExtractLsb', and_self, ↓reduceIte, BitVec.reduceEq, ext_append, BitVec.reduceAppend])
theorem cSw (rs2 rs1 : BitVec 3) (imm : BitVec 5) : Statement (.cSw rs2 rs1 imm) :=
  ofParcel 0#2 rfl rfl (by simp (disch := decide) only [ext_hi, ext_lo, ext_all, Nat.reduceSub, BitVec.reduceToNat, BitVec.reduceExtractLsb', and_self, ↓reduceIte, BitVec.reduceEq]) (by decide) (fun _ => parcel_ne 13 (x := 6#3) (by simp (disch := decide) only [ext_hi, ext_lo, ext_all, Nat.reduceSub, BitVec.reduceToNat, BitVec.reduceExtractLsb', and_self, ↓reduceIte, BitVec.reduceEq]) (by decide))
    (fun _ => by simp (disch := decide) only [decodeC0, ext_hi, ext_lo, ext_all, Nat.reduceSub, BitVec.reduceToNat, BitVec.reduceExtractLsb', and_self, ↓reduceIte, BitVec.reduceEq, ext_append, BitVec.reduceAppend])
theorem cSd (rs2 rs1 : BitVec 3) (imm : BitVec 5) : Statement (.cSd rs2 rs1 imm) :=
  ofParcel 0#2 rfl rfl (by simp (disch := decide) only [ext_hi, ext_lo, ext_all, Nat.reduceSub, BitVec.reduceToNat, BitVec.reduceExtractLsb', and_self, ↓reduceIte, BitVec.reduceEq]) (by decide) (fun _ => parcel_ne 13 (x := 7#3) (by simp (disch := decide) only [ext_hi, ext_lo, ext_all, Nat.reduceSub, BitVec.reduceToNat, BitVec.reduceExtractLsb', and_self, ↓reduceIte, BitVec.reduceEq]) (by decide))
    (fun _ => by simp (disch := decide) only [decodeC0, ext_hi, ext_lo, ext_all, Nat.reduceSub, BitVec.reduceToNat, BitVec.reduceExtractLsb', and_self, ↓reduceIte, BitVec.reduceEq, ext_append, BitVec.reduceAppend])
theorem cNop (imm : BitVec 6) : Statement (.cNop imm) :=
  ofParcel 1#2 rfl rfl (by simp (disch := decide) only [ext_hi, ext_lo, ext_all, Nat.reduceSub, BitVec.reduceToNat, BitVec.reduceExtractLsb', and_self, ↓reduceIte, BitVec.reduceEq]) (by decide) (fun _ => parcel_ne 0 (x := 1#2) (by simp (disch := decide) only [ext_hi, ext_lo, ext_all, Nat.reduceSub, BitVec.reduceToNat, BitVec.reduceExtractLsb', and_self, ↓reduceIte, BitVec.reduceEq]) (by decide))
    (fun _ => by simp (disch := decide) only [decodeC1, ext_hi, ext_lo, ext_all, Nat.reduceSub, BitVec.reduceToNat, BitVec.reduceExtractLsb', and_self, ↓reduceIte, BitVec.reduceEq, ext_append, BitVec.reduceAppend])
theorem cAddi (rd : BitVec 5) (imm : BitVec 6) : Statement (.cAddi rd imm) :=
  ofParcel 1#2 rfl rfl (by simp (disch := decide) only [ext_hi, ext_lo, ext_all, Nat.reduceSub, BitVec.reduceToNat, BitVec.reduceExtractLsb', and_self, ↓reduceIte, BitVec.reduceEq]) (by decide) (fun _ => parcel_ne 0 (x := 1#2) (by simp (disch := decide) only [ext_hi, ext_lo, ext_all, Nat.reduceSub, BitVec.reduceToNat, BitVec.reduceExtractLsb', and_self, ↓reduceIte, BitVec.reduceEq]) (by decide))
    (fun hw => by
      have h : rd ≠ 0#5 := by simpa [Instr.wf] using hw
      simp (disch := decide) only [decodeC1, ext_hi, ext_lo, ext_all, Nat.reduceSub, BitVec.reduceToNat, BitVec.reduceExtractLsb', and_self, ↓reduceIte, BitVec.reduceEq, ext_append, BitVec.reduceAppend, h])
theorem cAddiw (rd : BitVec 5) (imm : BitVec 6) : Statement (.cAddiw rd imm) :=
  ofParcel 1#2 rfl rfl (by simp (disch := decide) only [ext_hi, ext_lo, ext_all, Nat.reduceSub, BitVec.reduceToNat, BitVec.reduceExtractLsb', and_self, ↓reduceIte, BitVec.reduceEq]) (by decide) (fun _ => parcel_ne 0 (x := 1#2) (by simp (disch := decide) only [ext_hi, ext_lo, ext_all, Nat.reduceSub, BitVec.reduceToNat, BitVec.reduceExtractLsb', and_self, ↓reduceIte, BitVec.reduceEq]) (by decide))
    (fun _ => by simp (disch := decide) only [decodeC1, ext_hi, ext_lo, ext_all, Nat.reduceSub, BitVec.reduceToNat, BitVec.reduceExtractLsb', and_self, ↓reduceIte, BitVec.reduceEq, ext_append, BitVec.reduceAppend])
theorem cLi (rd : BitVec 5) (imm : BitVec 6) : Statement (.cLi rd imm) :=
  ofParcel 1#2 rfl rfl (by simp (disch := decide) only [ext_hi, ext_lo, ext_all, Nat.reduceSub, BitVec.reduceToNat, BitVec.reduceExtractLsb', and_self, ↓reduceIte, BitVec.reduceEq]) (by decide) (fun _ => parcel_ne 0 (x := 1#2) (by simp (disch := decide) only [ext_hi, ext_lo, ext_all, Nat.reduceSub, BitVec.reduceToNat, BitVec.reduceExtractLsb', and_self, ↓reduceIte, BitVec.reduceEq]) (by decide))
    (fun _ => by simp (disch := decide) only [decodeC1, ext_hi, ext_lo, ext_all, Nat.reduceSub, BitVec.reduceToNat, BitVec.reduceExtractLsb', and_self, ↓reduceIte, BitVec.reduceEq, ext_append, BitVec.reduceAppend])
theorem cAddi16sp (imm : BitVec 6) : Statement (.cAddi16sp imm) :=
  ofParcel 1#2 rfl rfl (by simp (disch := decide) only [ext_hi, ext_lo, ext_all, Nat.reduceSub, BitVec.reduceToNat, BitVec.reduceExtractLsb', and_self, ↓reduceIte, BitVec.reduceEq]) (by decide) (fun _ => parcel_ne 0 (x := 1#2) (by simp (disch := decide) only [ext_hi, ext_lo, ext_all, Nat.reduceSub, BitVec.reduceToNat, BitVec.reduceExtractLsb', and_self, ↓reduceIte, BitVec.reduceEq]) (by decide))
    (fun _ => by simp (disch := decide) only [decodeC1, ext_hi, ext_lo, ext_all, Nat.reduceSub, BitVec.reduceToNat, BitVec.reduceExtractLsb', and_self, ↓reduceIte, BitVec.reduceEq, ext_append, BitVec.reduceAppend])
theorem cLui (rd : BitVec 5) (imm : BitVec 6) : Statement (.cLui rd imm) :=
  ofParcel 1#2 rfl rfl (by simp (disch := decide) only [ext_hi, ext_lo, ext_all, Nat.reduceSub, BitVec.reduceToNat, BitVec.reduceExtractLsb', and_self, ↓reduceIte, BitVec.reduceEq]) (by decide) (fun _ => parcel_ne 0 (x := 1#2) (by simp (disch := decide) only [ext_hi, ext_lo, ext_all, Nat.reduceSub, BitVec.reduceToNat, BitVec.reduceExtractLsb', and_self, ↓reduceIte, BitVec.reduceEq]) (by decide))
    (fun hw => by
      have h : rd ≠ 2#5 := by exact (by simpa [Instr.wf] using hw : _ ∧ _).1
      simp (disch := decide) only [decodeC1, ext_hi, ext_lo, ext_all, Nat.reduceSub, BitVec.reduceToNat, BitVec.reduceExtractLsb', and_self, ↓reduceIte, BitVec.reduceEq, ext_append, BitVec.reduceAppend, h])
theorem cSrli (rd : BitVec 3) (shamt : BitVec 6) : Statement (.cSrli rd shamt) :=
  ofParcel 1#2 rfl rfl (by simp (disch := decide) only [ext_hi, ext_lo, ext_all, Nat.reduceSub, BitVec.reduceToNat, BitVec.reduceExtractLsb', and_self, ↓reduceIte, BitVec.reduceEq]) (by decide) (fun _ => parcel_ne 0 (x := 1#2) (by simp (disch := decide) only [ext_hi, ext_lo, ext_all, Nat.reduceSub, BitVec.reduceToNat, BitVec.reduceExtractLsb', and_self, ↓reduceIte, BitVec.reduceEq]) (by decide))
    (fun _ => by simp (disch := decide) only [decodeC1Arith, decodeC1, ext_hi, ext_lo, ext_all, Nat.reduceSub, BitVec.reduceToNat, BitVec.reduceExtractLsb', and_self, ↓reduceIte, BitVec.reduceEq, ext_append, BitVec.reduceAppend])
theorem cSrai (rd : BitVec 3) (shamt : BitVec 6) : Statement (.cSrai rd shamt) :=
  ofParcel 1#2 rfl rfl (by simp (disch := decide) only [ext_hi, ext_lo, ext_all, Nat.reduceSub, BitVec.reduceToNat, BitVec.reduceExtractLsb', and_self, ↓reduceIte, BitVec.reduceEq]) (by decide) (fun _ => parcel_ne 0 (x := 1#2) (by simp (disch := decide) only [ext_hi, ext_lo, ext_all, Nat.reduceSub, BitVec.reduceToNat, BitVec.reduceExtractLsb', and_self, ↓reduceIte, BitVec.reduceEq]) (by decide))
    (fun _ => by simp (disch := decide) only [decodeC1Arith, decodeC1, ext_hi, ext_lo, ext_all, Nat.reduceSub, BitVec.reduceToNat, BitVec.reduceExtractLsb', and_self, ↓reduceIte, BitVec.reduceEq, ext_append, BitVec.reduceAppend])
theorem cAndi (rd : BitVec 3) (imm : BitVec 6) : Statement (.cAndi rd imm) :=
  ofParcel 1#2 rfl rfl (by simp (disch := decide) only [ext_hi, ext_lo, ext_all, Nat.reduceSub, BitVec.reduceToNat, BitVec.reduceExtractLsb', and_self, ↓reduceIte, BitVec.reduceEq]) (by decide) (fun _ => parcel_ne 0 (x := 1#2) (by simp (disch := decide) only [ext_hi, ext_lo, ext_all, Nat.reduceSub, BitVec.reduceToNat, BitVec.reduceExtractLsb', and_self, ↓reduceIte, BitVec.reduceEq]) (by decide))
    (fun _ => by simp (disch := decide) only [decodeC1Arith, decodeC1, ext_hi, ext_lo, ext_all, Nat.reduceSub, BitVec.reduceToNat, BitVec.reduceExtractLsb', and_self, ↓reduceIte, BitVec.reduceEq, ext_append, BitVec.reduceAppend])
theorem cSub (rd rs2 : BitVec 3) : Statement (.cSub rd rs2) :=
  ofParcel 1#2 rfl rfl (by simp (disch := decide) only [ext_hi, ext_lo, ext_all, Nat.reduceSub, BitVec.reduceToNat, BitVec.reduceExtractLsb', and_self, ↓reduceIte, BitVec.reduceEq]) (by decide) (fun _ => parcel_ne 0 (x := 1#2) (by simp (disch := decide) only [ext_hi, ext_lo, ext_all, Nat.reduceSub, BitVec.reduceToNat, BitVec.reduceExtractLsb', and_self, ↓reduceIte, BitVec.reduceEq]) (by decide))
    (fun _ => by simp (disch := decide) only [decodeC1Arith, decodeC1, ext_hi, ext_lo, ext_all, Nat.reduceSub, BitVec.reduceToNat, BitVec.reduceExtractLsb', and_self, ↓reduceIte, BitVec.reduceEq, ext_append, BitVec.reduceAppend])
theorem cXor (rd rs2 : BitVec 3) : Statement (.cXor rd rs2) :=
  ofParcel 1#2 rfl rfl (by simp (disch := decide) only [ext_hi, ext_lo, ext_all, Nat.reduceSub, BitVec.reduceToNat, BitVec.reduceExtractLsb', and_self, ↓reduceIte, BitVec.reduceEq]) (by decide) (fun _ => parcel_ne 0 (x := 1#2) (by simp (disch := decide) only [ext_hi, ext_lo, ext_all, Nat.reduceSub, BitVec.reduceToNat, BitVec.reduceExtractLsb', and_self, ↓reduceIte, BitVec.reduceEq]) (by decide))
    (fun _ => by simp (disch := decide) only [decodeC1Arith, decodeC1, ext_hi, ext_lo, ext_all, Nat.reduceSub, BitVec.reduceToNat, BitVec.reduceExtractLsb', and_self, ↓reduceIte, BitVec.reduceEq, ext_append, BitVec.reduceAppend])
theorem cOr (rd rs2 : BitVec 3) : Statement (.cOr rd rs2) :=
  ofParcel 1#2 rfl rfl (by simp (disch := decide) only [ext_hi, ext_lo, ext_all, Nat.reduceSub, BitVec.reduceToNat, BitVec.reduceExtractLsb', and_self, ↓reduceIte, BitVec.reduceEq]) (by decide) (fun _ => parcel_ne 0 (x := 1#2) (by simp (disch := decide) only [ext_hi, ext_lo, ext_all, Nat.reduceSub, BitVec.reduceToNat, BitVec.reduceExtractLsb', and_self, ↓reduceIte, BitVec.reduceEq]) (by decide))
    (fun _ => by simp (disch := decide) only [decodeC1Arith, decodeC1, ext_hi, ext_lo, ext_all, Nat.reduceSub, BitVec.reduceToNat, BitVec.reduceExtractLsb', and_self, ↓reduceIte, BitVec.reduceEq, ext_append, BitVec.reduceAppend])
theorem cAnd (rd rs2 : BitVec 3) : Statement (.cAnd rd rs2) :=
  ofParcel 1#2 rfl rfl (by simp (disch := decide) only [ext_hi, ext_lo, ext_all, Nat.reduceSub, BitVec.reduceToNat, BitVec.reduceExtractLsb', and_self, ↓reduceIte, BitVec.reduceEq]) (by decide) (fun _ => parcel_ne 0 (x := 1#2) (by simp (disch := decide) only [ext_hi, ext_lo, ext_all, Nat.reduceSub, BitVec.reduceToNat, BitVec.reduceExtractLsb', and_self, ↓reduceIte, BitVec.reduceEq]) (by decide))
    (fun _ => by simp (disch := decide) only [decodeC1Arith, decodeC1, ext_hi, ext_lo, ext_all, Nat.reduceSub, BitVec.reduceToNat, BitVec.reduceExtractLsb', and_self, ↓reduceIte, BitVec.reduceEq, ext_append, BitVec.reduceAppend])
theorem cSubw (rd rs2 : BitVec 3) : Statement (.cSubw rd rs2) :=
  ofParcel 1#2 rfl rfl (by simp (disch := decide) only [ext_hi, ext_lo, ext_all, Nat.reduceSub, BitVec.reduceToNat, BitVec.reduceExtractLsb', and_self, ↓reduceIte, BitVec.reduceEq]) (by decide) (fun _ => parcel_ne 0 (x := 1#2) (by simp (disch := decide) only [ext_hi, ext_lo, ext_all, Nat.reduceSub, BitVec.reduceToNat, BitVec.reduceExtractLsb', and_self, ↓reduceIte, BitVec.reduceEq]) (by decide))
    (fun _ => by simp (disch := decide) only [decodeC1Arith, decodeC1, ext_hi, ext_lo, ext_all, Nat.reduceSub, BitVec.reduceToNat, BitVec.reduceExtractLsb', and_self, ↓reduceIte, BitVec.reduceEq, ext_append, BitVec.reduceAppend])
theorem cAddw (rd rs2 : BitVec 3) : Statement (.cAddw rd rs2) :=
  ofParcel 1#2 rfl rfl (by simp (disch := decide) only [ext_hi, ext_lo, ext_all, Nat.reduceSub, BitVec.reduceToNat, BitVec.reduceExtractLsb', and_self, ↓reduceIte, BitVec.reduceEq]) (by decide) (fun _ => parcel_ne 0 (x := 1#2) (by simp (disch := decide) only [ext_hi, ext_lo, ext_all, Nat.reduceSub, BitVec.reduceToNat, BitVec.reduceExtractLsb', and_self, ↓reduceIte, BitVec.reduceEq]) (by decide))
    (fun _ => by simp (disch := decide) only [decodeC1Arith, decodeC1, ext_hi, ext_lo, ext_all, Nat.reduceSub, BitVec.reduceToNat, BitVec.reduceExtractLsb', and_self, ↓reduceIte, BitVec.reduceEq, ext_append, BitVec.reduceAppend])
theorem cJ (imm : BitVec 11) : Statement (.cJ imm) :=
  ofParcel 1#2 rfl rfl (by simp (disch := decide) only [ext_hi, ext_lo, ext_all, Nat.reduceSub, BitVec.reduceToNat, BitVec.reduceExtractLsb', and_self, ↓reduceIte, BitVec.reduceEq]) (by decide) (fun _ => parcel_ne 0 (x := 1#2) (by simp (disch := decide) only [ext_hi, ext_lo, ext_all, Nat.reduceSub, BitVec.reduceToNat, BitVec.reduceExtractLsb', and_self, ↓reduceIte, BitVec.reduceEq]) (by decide))
    (fun _ => by simp (disch := decide) only [decodeC1, ext_hi, ext_lo, ext_all, Nat.reduceSub, BitVec.reduceToNat, BitVec.reduceExtractLsb', and_self, ↓reduceIte, BitVec.reduceEq, ext_append, BitVec.reduceAppend])
theorem cBeqz (rs1 : BitVec 3) (imm : BitVec 8) : Statement (.cBeqz rs1 imm) :=
  ofParcel 1#2 rfl rfl (by simp (disch := decide) only [ext_hi, ext_lo, ext_all, Nat.reduceSub, BitVec.reduceToNat, BitVec.reduceExtractLsb', and_self, ↓reduceIte, BitVec.reduceEq]) (by decide) (fun _ => parcel_ne 0 (x := 1#2) (by simp (disch := decide) only [ext_hi, ext_lo, ext_all, Nat.reduceSub, BitVec.reduceToNat, BitVec.reduceExtractLsb', and_self, ↓reduceIte, BitVec.reduceEq]) (by decide))
    (fun _ => by simp (disch := decide) only [decodeC1, cbOffset, ext_hi, ext_lo, ext_all, Nat.reduceSub, BitVec.reduceToNat, BitVec.reduceExtractLsb', and_self, ↓reduceIte, BitVec.reduceEq, ext_append, BitVec.reduceAppend])
theorem cBnez (rs1 : BitVec 3) (imm : BitVec 8) : Statement (.cBnez rs1 imm) :=
  ofParcel 1#2 rfl rfl (by simp (disch := decide) only [ext_hi, ext_lo, ext_all, Nat.reduceSub, BitVec.reduceToNat, BitVec.reduceExtractLsb', and_self, ↓reduceIte, BitVec.reduceEq]) (by decide) (fun _ => parcel_ne 0 (x := 1#2) (by simp (disch := decide) only [ext_hi, ext_lo, ext_all, Nat.reduceSub, BitVec.reduceToNat, BitVec.reduceExtractLsb', and_self, ↓reduceIte, BitVec.reduceEq]) (by decide))
    (fun _ => by simp (disch := decide) only [decodeC1, cbOffset, ext_hi, ext_lo, ext_all, Nat.reduceSub, BitVec.reduceToNat, BitVec.reduceExtractLsb', and_self, ↓reduceIte, BitVec.reduceEq, ext_append, BitVec.reduceAppend])
theorem cSlli (rd : BitVec 5) (shamt : BitVec 6) : Statement (.cSlli rd shamt) :=
  ofParcel 2#2 rfl rfl (by simp (disch := decide) only [ext_hi, ext_lo, ext_all, Nat.reduceSub, BitVec.reduceToNat, BitVec.reduceExtractLsb', and_self, ↓reduceIte, BitVec.reduceEq]) (by decide) (fun _ => parcel_ne 0 (x := 2#2) (by simp (disch := decide) only [ext_hi, ext_lo, ext_all, Nat.reduceSub, BitVec.reduceToNat, BitVec.reduceExtractLsb', and_self, ↓reduceIte, BitVec.reduceEq]) (by decide))
    (fun _ => by simp (disch := decide) only [decodeC2, ext_hi, ext_lo, ext_all, Nat.reduceSub, BitVec.reduceToNat, BitVec.reduceExtractLsb', and_self, ↓reduceIte, BitVec.reduceEq, ext_append, BitVec.reduceAppend])
theorem cLwsp (rd : BitVec 5) (imm : BitVec 6) : Statement (.cLwsp rd imm) :=
  ofParcel 2#2 rfl rfl (by simp (disch := decide) only [ext_hi, ext_lo, ext_all, Nat.reduceSub, BitVec.reduceToNat, BitVec.reduceExtractLsb', and_self, ↓reduceIte, BitVec.reduceEq]) (by decide) (fun _ => parcel_ne 0 (x := 2#2) (by simp (disch := decide) only [ext_hi, ext_lo, ext_all, Nat.reduceSub, BitVec.reduceToNat, BitVec.reduceExtractLsb', and_self, ↓reduceIte, BitVec.reduceEq]) (by decide))
    (fun _ => by simp (disch := decide) only [decodeC2, ext_hi, ext_lo, ext_all, Nat.reduceSub, BitVec.reduceToNat, BitVec.reduceExtractLsb', and_self, ↓reduceIte, BitVec.reduceEq, ext_append, BitVec.reduceAppend])
theorem cLdsp (rd : BitVec 5) (imm : BitVec 6) : Statement (.cLdsp rd imm) :=
  ofParcel 2#2 rfl rfl (by simp (disch := decide) only [ext_hi, ext_lo, ext_all, Nat.reduceSub, BitVec.reduceToNat, BitVec.reduceExtractLsb', and_self, ↓reduceIte, BitVec.reduceEq]) (by decide) (fun _ => parcel_ne 0 (x := 2#2) (by simp (disch := decide) only [ext_hi, ext_lo, ext_all, Nat.reduceSub, BitVec.reduceToNat, BitVec.reduceExtractLsb', and_self, ↓reduceIte, BitVec.reduceEq]) (by decide))
    (fun _ => by simp (disch := decide) only [decodeC2, ext_hi, ext_lo, ext_all, Nat.reduceSub, BitVec.reduceToNat, BitVec.reduceExtractLsb', and_self, ↓reduceIte, BitVec.reduceEq, ext_append, BitVec.reduceAppend])
theorem cJr (rs1 : BitVec 5) : Statement (.cJr rs1) :=
  ofParcel 2#2 rfl rfl (by simp (disch := decide) only [ext_hi, ext_lo, ext_all, Nat.reduceSub, BitVec.reduceToNat, BitVec.reduceExtractLsb', and_self, ↓reduceIte, BitVec.reduceEq]) (by decide) (fun _ => parcel_ne 0 (x := 2#2) (by simp (disch := decide) only [ext_hi, ext_lo, ext_all, Nat.reduceSub, BitVec.reduceToNat, BitVec.reduceExtractLsb', and_self, ↓reduceIte, BitVec.reduceEq]) (by decide))
    (fun _ => by simp (disch := decide) only [decodeC2, ext_hi, ext_lo, ext_all, Nat.reduceSub, BitVec.reduceToNat, BitVec.reduceExtractLsb', and_self, ↓reduceIte, BitVec.reduceEq, ext_append, BitVec.reduceAppend])
theorem cMv (rd rs2 : BitVec 5) : Statement (.cMv rd rs2) :=
  ofParcel 2#2 rfl rfl (by simp (disch := decide) only [ext_hi, ext_lo, ext_all, Nat.reduceSub, BitVec.reduceToNat, BitVec.reduceExtractLsb', and_self, ↓reduceIte, BitVec.reduceEq]) (by decide) (fun _ => parcel_ne 0 (x := 2#2) (by simp (disch := decide) only [ext_hi, ext_lo, ext_all, Nat.reduceSub, BitVec.reduceToNat, BitVec.reduceExtractLsb', and_self, ↓reduceIte, BitVec.reduceEq]) (by decide))
    (fun hw => by
      have h : rs2 ≠ 0#5 := by simpa [Instr.wf] using hw
      simp (disch := decide) only [decodeC2, ext_hi, ext_lo, ext_all, Nat.reduceSub, BitVec.reduceToNat, BitVec.reduceExtractLsb', and_self, ↓reduceIte, BitVec.reduceEq, ext_append, BitVec.reduceAppend, h])
theorem cJalr (rs1 : BitVec 5) : Statement (.cJalr rs1) :=
  ofParcel 2#2 rfl rfl (by simp (disch := decide) only [ext_hi, ext_lo, ext_all, Nat.reduceSub, BitVec.reduceToNat, BitVec.reduceExtractLsb', and_self, ↓reduceIte, BitVec.reduceEq]) (by decide) (fun _ => parcel_ne 0 (x := 2#2) (by simp (disch := decide) only [ext_hi, ext_lo, ext_all, Nat.reduceSub, BitVec.reduceToNat, BitVec.reduceExtractLsb', and_self, ↓reduceIte, BitVec.reduceEq]) (by decide))
    (fun _ => by simp (disch := decide) only [decodeC2, ext_hi, ext_lo, ext_all, Nat.reduceSub, BitVec.reduceToNat, BitVec.reduceExtractLsb', and_self, ↓reduceIte, BitVec.reduceEq, ext_append, BitVec.reduceAppend])
theorem cAdd (rd rs2 : BitVec 5) : Statement (.cAdd rd rs2) :=
  ofParcel 2#2 rfl rfl (by simp (disch := decide) only [ext_hi, ext_lo, ext_all, Nat.reduceSub, BitVec.reduceToNat, BitVec.reduceExtractLsb', and_self, ↓reduceIte, BitVec.reduceEq]) (by decide) (fun _ => parcel_ne 0 (x := 2#2) (by simp (disch := decide) only [ext_hi, ext_lo, ext_all, Nat.reduceSub, BitVec.reduceToNat, BitVec.reduceExtractLsb', and_self, ↓reduceIte, BitVec.reduceEq]) (by decide))
    (fun hw => by
      have h : rs2 ≠ 0#5 := by simpa [Instr.wf] using hw
      simp (disch := decide) only [decodeC2, ext_hi, ext_lo, ext_all, Nat.reduceSub, BitVec.reduceToNat, BitVec.reduceExtractLsb', and_self, ↓reduceIte, BitVec.reduceEq, ext_append, BitVec.reduceAppend, h])
theorem cSwsp (rs2 : BitVec 5) (imm : BitVec 6) : Statement (.cSwsp rs2 imm) :=
  ofParcel 2#2 rfl rfl (by simp (disch := decide) only [ext_hi, ext_lo, ext_all, Nat.reduceSub, BitVec.reduceToNat, BitVec.reduceExtractLsb', and_self, ↓reduceIte, BitVec.reduceEq]) (by decide) (fun _ => parcel_ne 0 (x := 2#2) (by simp (disch := decide) only [ext_hi, ext_lo, ext_all, Nat.reduceSub, BitVec.reduceToNat, BitVec.reduceExtractLsb', and_self, ↓reduceIte, BitVec.reduceEq]) (by decide))
    (fun _ => by simp (disch := decide) only [decodeC2, ext_hi, ext_lo, ext_all, Nat.reduceSub, BitVec.reduceToNat, BitVec.reduceExtractLsb', and_self, ↓reduceIte, BitVec.reduceEq, ext_append, BitVec.reduceAppend])
theorem cSdsp (rs2 : BitVec 5) (imm : BitVec 6) : Statement (.cSdsp rs2 imm) :=
  ofParcel 2#2 rfl rfl (by simp (disch := decide) only [ext_hi, ext_lo, ext_all, Nat.reduceSub, BitVec.reduceToNat, BitVec.reduceExtractLsb', and_self, ↓reduceIte, BitVec.reduceEq]) (by decide) (fun _ => parcel_ne 0 (x := 2#2) (by simp (disch := decide) only [ext_hi, ext_lo, ext_all, Nat.reduceSub, BitVec.reduceToNat, BitVec.reduceExtractLsb', and_self, ↓reduceIte, BitVec.reduceEq]) (by decide))
    (fun _ => by simp (disch := decide) only [decodeC2, ext_hi, ext_lo, ext_all, Nat.reduceSub, BitVec.reduceToNat, BitVec.reduceExtractLsb', and_self, ↓reduceIte, BitVec.reduceEq, ext_append, BitVec.reduceAppend])
theorem coldReset (b : BootInput) : Statement (.coldReset b) := ofNone rfl
theorem tickLock (podTick : BitVec 64) : Statement (.tickLock podTick) := ofNone rfl
theorem throttle : Statement .throttle := ofNone rfl
theorem throttleRestore : Statement .throttleRestore := ofNone rfl
theorem podcfgWrite (value : BitVec 32) : Statement (.podcfgWrite value) := ofNone rfl
theorem dvsecAcceptWrite (ld : BitVec 4) (a : DvsecAccess) : Statement (.dvsecAcceptWrite ld a) := ofNone rfl
theorem registerWrite (core strand : Nat) (csr : BitVec 12) (value : BitVec 64) : Statement (.registerWrite core strand csr value) := ofNone rfl
theorem bindVppb (ld : BitVec 4) (hdmBase hdmSize : Nat) : Statement (.bindVppb ld hdmBase hdmSize) := ofNone rfl
theorem unbindVppb (ld : BitVec 4) : Statement (.unbindVppb ld) := ofNone rfl
theorem hostWarmRestart (ld : BitVec 4) : Statement (.hostWarmRestart ld) := ofNone rfl
theorem cxlMemRequest (ld : BitVec 4) (write : Bool) (offset len : Nat) (data : List Byte) : Statement (.cxlMemRequest ld write offset len data) := ofNone rfl
theorem getVersion (ep : Nat) (req : List Byte) : Statement (.getVersion ep req) := ofNone rfl
theorem getCapabilities (ep : Nat) (req : List Byte) : Statement (.getCapabilities ep req) := ofNone rfl
theorem negotiateAlgorithms (ep : Nat) (req : List Byte) : Statement (.negotiateAlgorithms ep req) := ofNone rfl
theorem getDigests (ep : Nat) (req : List Byte) : Statement (.getDigests ep req) := ofNone rfl
theorem getCertificate (ep : Nat) (req : List Byte) : Statement (.getCertificate ep req) := ofNone rfl
theorem challenge (ep : Nat) (req : List Byte) : Statement (.challenge ep req) := ofNone rfl
theorem getMeasurements (ep : Nat) (req : List Byte) : Statement (.getMeasurements ep req) := ofNone rfl
theorem spdmUnsupportedRequest (ep : Nat) (req : List Byte) : Statement (.spdmUnsupportedRequest ep req) := ofNone rfl
theorem setWeight (e : CtlArgs) : Statement (.setWeight e) := ofNone rfl
theorem setPartition (e : CtlArgs) : Statement (.setPartition e) := ofNone rfl
theorem setTrust (e : CtlArgs) : Statement (.setTrust e) := ofNone rfl
theorem setModstore (e : CtlArgs) : Statement (.setModstore e) := ofNone rfl
theorem setSpad (e : CtlArgs) : Statement (.setSpad e) := ofNone rfl
theorem setRamap (e : CtlArgs) : Statement (.setRamap e) := ofNone rfl
theorem setWindow (e : CtlArgs) : Statement (.setWindow e) := ofNone rfl
theorem setQueues (e : CtlArgs) : Statement (.setQueues e) := ofNone rfl
theorem shootdown (e : ShootdownEntry) : Statement (.shootdown e) := ofNone rfl
theorem preempt (e : CtlArgs) : Statement (.preempt e) := ofNone rfl
theorem debugStop (e : DebugEntry) : Statement (.debugStop e) := ofNone rfl
theorem debugResume (e : DebugEntry) : Statement (.debugResume e) := ofNone rfl
theorem setCdlim (e : CtlArgs) : Statement (.setCdlim e) := ofNone rfl
theorem counterReply (e : CtlArgs) : Statement (.counterReply e) := ofNone rfl
theorem loadKey (e : CtlArgs) : Statement (.loadKey e) := ofNone rfl
theorem engineReply (e : CtlArgs) : Statement (.engineReply e) := ofNone rfl
theorem controlUnknownOp (e : CtlArgs) : Statement (.controlUnknownOp e) := ofNone rfl
theorem launchRequest (core strand : Nat) (ld : BitVec 4) (queue : Nat) : Statement (.launchRequest core strand ld queue) := ofNone rfl
theorem nop (core : Nat) (ticket : BitVec 32) : Statement (.nop core ticket) := ofNone rfl
theorem map (core : Nat) (ticket : BitVec 32) (frames : List Nat) : Statement (.map core ticket frames) := ofNone rfl
theorem unmap (core : Nat) (ticket : BitVec 32) : Statement (.unmap core ticket) := ofNone rfl
theorem ethSend (core : Nat) (p : ReadService) : Statement (.ethSend core p) := ofNone rfl
theorem ethRecv (core : Nat) (ticket : BitVec 32) : Statement (.ethRecv core ticket) := ofNone rfl
theorem storeRead (core : Nat) (p : WriteService) (data : List Byte) : Statement (.storeRead core p data) := ofNone rfl
theorem storeWrite (core : Nat) (p : ReadService) (written : Nat) : Statement (.storeWrite core p written) := ofNone rfl
theorem syscallUnknown (core : Nat) (ticket : BitVec 32) : Statement (.syscallUnknown core ticket) := ofNone rfl
theorem syscallComplete (core : Nat) (ticket : BitVec 32) (status : BitVec 64) : Statement (.syscallComplete core ticket status) := ofNone rfl
theorem rdmaSendReceived (ld : BitVec 4) (qp : Nat) (payload : List Byte) (imm : BitVec 32) : Statement (.rdmaSendReceived ld qp payload imm) := ofNone rfl
theorem rdmaInvalidRequest (ld : BitVec 4) (qp : Nat) : Statement (.rdmaInvalidRequest ld qp) := ofNone rfl
theorem ethSendCompletion (ld : BitVec 4) (qp : Nat) (cookie : BitVec 64) (status : BitVec 16) : Statement (.ethSendCompletion ld qp cookie status) := ofNone rfl
theorem launchRound : Statement .launchRound := ofNone rfl
theorem prereqRecheck : Statement .prereqRecheck := ofNone rfl
theorem claimMessage (m : ClaimMsg) : Statement (.claimMessage m) := ofNone rfl
theorem claimReport (lid : BitVec 32) (chip : Nat) (report : ClaimReport) : Statement (.claimReport lid chip report) := ofNone rfl
theorem wakeMessage (key : LaunchKey) : Statement (.wakeMessage key) := ofNone rfl
theorem endedMessage (lid : BitVec 32) (chip : Nat) : Statement (.endedMessage lid chip) := ofNone rfl
theorem coreDebugStopped (c : DebugStopped) : Statement (.coreDebugStopped c) := ofNone rfl
theorem sourceAnswer (cluster : Nat) (digest : BitVec 256) (vf : BitVec 6) (source : Nat) (offers : List Offer) : Statement (.sourceAnswer cluster digest vf source offers) := ofNone rfl
theorem codeRequest (fromChip : Nat) (digest : BitVec 256) (model : BitVec 32) : Statement (.codeRequest fromChip digest model) := ofNone rfl
theorem fetchRetry (cluster : Nat) : Statement (.fetchRetry cluster) := ofNone rfl
theorem lastAging (cluster : Nat) : Statement (.lastAging cluster) := ofNone rfl
theorem formEndReached : Statement .formEndReached := ofNone rfl
theorem illegalWord (word : BitVec 32) : Statement (.illegalWord word) := ofNone rfl
theorem resultArrival (core strand index : Nat) : Statement (.resultArrival core strand index) := ofNone rfl
theorem helperFree (core strand : Nat) : Statement (.helperFree core strand) := ofNone rfl
theorem vectorBind (bench : Nat) : Statement (.vectorBind bench) := ofNone rfl
theorem vectorEntryComplete (bench group : Nat) : Statement (.vectorEntryComplete bench group) := ofNone rfl
theorem registerCacheFill (core strand : Nat) (reg : BitVec 5) : Statement (.registerCacheFill core strand reg) := ofNone rfl
theorem vqredStep (core : Nat) : Statement (.vqredStep core) := ofNone rfl
theorem matrixEntryRetire (core : Nat) : Statement (.matrixEntryRetire core) := ofNone rfl
theorem matrixEntryComplete (core : Nat) : Statement (.matrixEntryComplete core) := ofNone rfl
theorem timerInterrupt (core strand : Nat) (machine : Bool) : Statement (.timerInterrupt core strand machine) := ofNone rfl
theorem externalInterrupt (core strand : Nat) : Statement (.externalInterrupt core strand) := ofNone rfl
theorem counterOverflowInterrupt (core : Nat) : Statement (.counterOverflowInterrupt core) := ofNone rfl
theorem remoteRefusalInterrupt (core : Nat) (index : BitVec 6) : Statement (.remoteRefusalInterrupt core index) := ofNone rfl
theorem preemptionRequest (core strand : Nat) : Statement (.preemptionRequest core strand) := ofNone rfl
theorem eccError (double dirty : Bool) (loc : Nat) : Statement (.eccError double dirty loc) := ofNone rfl
theorem pageWalk (core strand : Nat) (va : BitVec 64) (store : Bool) : Statement (.pageWalk core strand va store) := ofNone rfl
theorem shootdownAck (c : ChipCore) : Statement (.shootdownAck c) := ofNone rfl
theorem drain (core strand : Nat) : Statement (.drain core strand) := ofNone rfl
theorem evict (core line : Nat) : Statement (.evict core line) := ofNone rfl
theorem hostWriteBack (index : Nat) : Statement (.hostWriteBack index) := ofNone rfl
theorem performLoad (core strand index part : Nat) : Statement (.performLoad core strand index part) := ofNone rfl
theorem takeOwnership (bench : Nat) : Statement (.takeOwnership bench) := ofNone rfl
theorem writeLine (m : MovingEntry) : Statement (.writeLine m) := ofNone rfl
theorem writeScratchpadSector (m : MovingEntry) : Statement (.writeScratchpadSector m) := ofNone rfl
theorem entryComplete (m : MovingEntry) : Statement (.entryComplete m) := ofNone rfl
theorem ksendArrival (core strand bench : Nat) : Statement (.ksendArrival core strand bench) := ofNone rfl
theorem depart (core : Nat) : Statement (.depart core) := ofNone rfl
theorem routerForward (msg : List Byte) : Statement (.routerForward msg) := ofNone rfl
theorem malformedMessage (msg : List Byte) : Statement (.malformedMessage msg) := ofNone rfl
theorem rstMessage (msg : List Byte) : Statement (.rstMessage msg) := ofNone rfl
theorem rstAck (msg : List Byte) : Statement (.rstAck msg) := ofNone rfl
theorem rstRefuse (msg : List Byte) : Statement (.rstRefuse msg) := ofNone rfl
theorem rldMessage (msg : List Byte) : Statement (.rldMessage msg) := ofNone rfl
theorem rldReply (msg : List Byte) : Statement (.rldReply msg) := ofNone rfl
theorem gstMessage (msg : List Byte) : Statement (.gstMessage msg) := ofNone rfl
theorem prepare (group : BitVec 18) (n : Nat) : Statement (.prepare group n) := ofNone rfl
theorem ready (group : BitVec 18) (chip : Nat) : Statement (.ready group chip) := ofNone rfl
theorem groupRefuse (group : BitVec 18) (chip : Nat) (reason : BitVec 8) : Statement (.groupRefuse group chip reason) := ofNone rfl
theorem abort (group : BitVec 18) : Statement (.abort group) := ofNone rfl
theorem publish (group : BitVec 18) (atTick : BitVec 64) : Statement (.publish group atTick) := ofNone rfl
theorem groupApply (group : BitVec 18) : Statement (.groupApply group) := ofNone rfl
theorem publishAck (group : BitVec 18) (chip : Nat) : Statement (.publishAck group chip) := ofNone rfl
theorem abortAck (group : BitVec 18) (chip : Nat) : Statement (.abortAck group chip) := ofNone rfl
theorem groupTimeout (group : BitVec 18) : Statement (.groupTimeout group) := ofNone rfl
theorem routeMessage (key : LaunchKey) (route port firing : Nat) (payload : List Byte) : Statement (.routeMessage key route port firing payload) := ofNone rfl
theorem routeRecordTick (key : LaunchKey) (index : Nat) : Statement (.routeRecordTick key index) := ofNone rfl
theorem barrierRelease (core : Nat) (ch : BitVec 3) : Statement (.barrierRelease core ch) := ofNone rfl
theorem tickwExpiry (core strand : Nat) : Statement (.tickwExpiry core strand) := ofNone rfl
theorem waitevWake (core strand : Nat) : Statement (.waitevWake core strand) := ofNone rfl
theorem counterOverflow (core : Nat) (i : BitVec 2) : Statement (.counterOverflow core i) := ofNone rfl
theorem counterRecordRetry (core : Nat) : Statement (.counterRecordRetry core) := ofNone rfl
theorem launchDiscardMessage (key : LaunchKey) (code detail : BitVec 16) : Statement (.launchDiscardMessage key code detail) := ofNone rfl
theorem launchEndByExecutive (key : LaunchKey) (code detail : BitVec 16) : Statement (.launchEndByExecutive key code detail) := ofNone rfl

end Sys2Proof.Laws.RoundTrip
end

