-- ==== Sys2Proof/Tests/Slice0.lean ====
section
/-! SUPPORT. Tests: words written out from the encoding tables and the instructions that they are, terms that are not well
formed, single steps with results from the manual, and states that meet the hypotheses of the statements. -/

namespace Sys2Proof.Tests

set_option Elab.async false

open Sys2Proof Sys2Proof.Machine

/-! ## Helpers -/

/-- Every word of the list decodes to the instruction beside it. -/
noncomputable def decodesAs (l : List (Nat × Nat × Instr)) : Bool :=
  l.all (fun e => decide (decodeTableWord e.1 e.2.1 = some e.2.2))

/-- The computation answers, and `p` holds of its answer. -/
def okWith {ε α : Type} (e : Except ε α) (p : α → Bool) : Bool :=
  match e with
  | .ok a => p a
  | .error _ => false

/-- What `okWith` says. -/
theorem exists_of_okWith {ε α : Type} {e : Except ε α} {p : α → Bool} (h : okWith e p = true) :
    ∃ a, e = .ok a ∧ p a = true := by
  cases e with
  | ok a => exact ⟨a, rfl, h⟩
  | error _ => cases h

/-- The instruction answers a next state, and `p` holds of it. -/
def nextWith (o : Host.Outcome State Fault Refusal) (p : State → Bool) : Bool :=
  match o with
  | .next t => p t
  | .fault _ => false
  | .refused _ => false

/-- Strand 0 of core 0 in machine mode at the start of a form that holds `addi x0, x0, 0`. -/
def at0 : State := State.reset.place 32 0x00000013

/-- The same, with the strand changed. -/
def with0 (f : Strand → Strand) : State := at0.modMe f

/-- Strand 0 with an x register set. -/
def withX (r : BitVec 5) (v : Word) : State := at0.writeX r v


/-- The launch with LID 1 of chip 0. -/
def key1 : LaunchKey := { issuer := 0, lid := 1 }

/-! ## Decoding: words written out from the encoding tables -/

theorem test_decode_integer_1 : decodesAs [
    (32, 0x00A574B7, .lui 9 0xA57),
    (32, 0x00A57497, .auipc 9 0xA57),
    (32, 0x00A574EF, .jal 9 0x2B805),
    (32, 0xA57B04E7, .jalr 9 0x16 0xA57),
    (32, 0xAEDB0B63, .beq 0x16 0xD 0x97B),
    (32, 0xAEDB1B63, .bne 0x16 0xD 0x97B),
    (32, 0xAEDB4B63, .blt 0x16 0xD 0x97B),
    (32, 0xAEDB5B63, .bge 0x16 0xD 0x97B),
    (32, 0xAEDB6B63, .bltu 0x16 0xD 0x97B),
    (32, 0xAEDB7B63, .bgeu 0x16 0xD 0x97B),
    (32, 0xA57B0483, .lb 9 0x16 0xA57),
    (32, 0xA57B1483, .lh 9 0x16 0xA57),
    (32, 0xA57B2483, .lw 9 0x16 0xA57),
    (32, 0xA57B3483, .ld 9 0x16 0xA57),
    (32, 0xA57B4483, .lbu 9 0x16 0xA57),
    (32, 0xA57B5483, .lhu 9 0x16 0xA57),
    (32, 0xA57B6483, .lwu 9 0x16 0xA57),
    (32, 0xAEDB0B23, .sb 0x16 0xD 0xAF6),
    (32, 0xAEDB1B23, .sh 0x16 0xD 0xAF6),
    (32, 0xAEDB2B23, .sw 0x16 0xD 0xAF6),
    (32, 0xAEDB3B23, .sd 0x16 0xD 0xAF6),
    (32, 0xA57B0493, .addi 9 0x16 0xA57),
    (32, 0xA57B2493, .slti 9 0x16 0xA57),
    (32, 0xA57B3493, .sltiu 9 0x16 0xA57)] = true := by decide +kernel

theorem test_decode_integer_2 : decodesAs [
    (32, 0xA57B4493, .xori 9 0x16 0xA57),
    (32, 0xA57B6493, .ori 9 0x16 0xA57),
    (32, 0xA57B7493, .andi 9 0x16 0xA57),
    (32, 0x013B1493, .slli 9 0x16 0x13),
    (32, 0x013B5493, .srli 9 0x16 0x13),
    (32, 0x413B5493, .srai 9 0x16 0x13),
    (32, 0xA57B049B, .addiw 9 0x16 0xA57),
    (32, 0x013B149B, .slliw 9 0x16 0x13),
    (32, 0x013B549B, .srliw 9 0x16 0x13),
    (32, 0x413B549B, .sraiw 9 0x16 0x13),
    (32, 0x00DB04B3, .add 9 0x16 0xD),
    (32, 0x00DB14B3, .sll 9 0x16 0xD),
    (32, 0x00DB24B3, .slt 9 0x16 0xD),
    (32, 0x00DB34B3, .sltu 9 0x16 0xD),
    (32, 0x00DB44B3, .xor 9 0x16 0xD),
    (32, 0x00DB54B3, .srl 9 0x16 0xD),
    (32, 0x00DB64B3, .or 9 0x16 0xD),
    (32, 0x00DB74B3, .and 9 0x16 0xD),
    (32, 0x40DB04B3, .sub 9 0x16 0xD),
    (32, 0x40DB54B3, .sra 9 0x16 0xD),
    (32, 0x02DB04B3, .mul 9 0x16 0xD),
    (32, 0x02DB14B3, .mulh 9 0x16 0xD),
    (32, 0x02DB24B3, .mulhsu 9 0x16 0xD),
    (32, 0x02DB34B3, .mulhu 9 0x16 0xD)] = true := by decide +kernel

theorem test_decode_integer_3 : decodesAs [
    (32, 0x02DB44B3, .div 9 0x16 0xD),
    (32, 0x02DB54B3, .divu 9 0x16 0xD),
    (32, 0x02DB64B3, .rem 9 0x16 0xD),
    (32, 0x02DB74B3, .remu 9 0x16 0xD),
    (32, 0x00DB04BB, .addw 9 0x16 0xD),
    (32, 0x00DB14BB, .sllw 9 0x16 0xD),
    (32, 0x00DB54BB, .srlw 9 0x16 0xD),
    (32, 0x40DB04BB, .subw 9 0x16 0xD),
    (32, 0x40DB54BB, .sraw 9 0x16 0xD),
    (32, 0x02DB04BB, .mulw 9 0x16 0xD),
    (32, 0x02DB44BB, .divw 9 0x16 0xD),
    (32, 0x02DB54BB, .divuw 9 0x16 0xD),
    (32, 0x02DB64BB, .remw 9 0x16 0xD),
    (32, 0x02DB74BB, .remuw 9 0x16 0xD),
    (32, 0x835B048F, .fence 9 0x16 8 3 5)] = true := by decide +kernel

theorem test_decode_standard_atomic : decodesAs [
    (32, 0x140B24AF, .lrW 9 0x16 1 0),
    (32, 0x140B34AF, .lrD 9 0x16 1 0),
    (32, 0x1CDB24AF, .scW 9 0x16 0xD 1 0),
    (32, 0x1CDB34AF, .scD 9 0x16 0xD 1 0),
    (32, 0x0ADB24AF, .amoswapW 9 0x16 0xD 0 1),
    (32, 0x0ADB34AF, .amoswapD 9 0x16 0xD 0 1),
    (32, 0x04DB24AF, .amoaddW 9 0x16 0xD 1 0),
    (32, 0x04DB34AF, .amoaddD 9 0x16 0xD 1 0),
    (32, 0x24DB24AF, .amoxorW 9 0x16 0xD 1 0),
    (32, 0x24DB34AF, .amoxorD 9 0x16 0xD 1 0),
    (32, 0x64DB24AF, .amoandW 9 0x16 0xD 1 0),
    (32, 0x64DB34AF, .amoandD 9 0x16 0xD 1 0),
    (32, 0x42DB24AF, .amoorW 9 0x16 0xD 0 1),
    (32, 0x42DB34AF, .amoorD 9 0x16 0xD 0 1),
    (32, 0x84DB24AF, .amominW 9 0x16 0xD 1 0),
    (32, 0x84DB34AF, .amominD 9 0x16 0xD 1 0),
    (32, 0xA4DB24AF, .amomaxW 9 0x16 0xD 1 0),
    (32, 0xA4DB34AF, .amomaxD 9 0x16 0xD 1 0),
    (32, 0xC2DB24AF, .amominuW 9 0x16 0xD 0 1),
    (32, 0xC2DB34AF, .amominuD 9 0x16 0xD 0 1),
    (32, 0xE2DB24AF, .amomaxuW 9 0x16 0xD 0 1),
    (32, 0xE2DB34AF, .amomaxuD 9 0x16 0xD 0 1)] = true := by decide +kernel

theorem test_decode_system : decodesAs [
    (32, 0x3C5B14F3, .csrrw 9 0x16 0x3C5),
    (32, 0x3C5B24F3, .csrrs 9 0x16 0x3C5),
    (32, 0x3C5B34F3, .csrrc 9 0x16 0x3C5),
    (32, 0x3C5154F3, .csrrwi 9 0x3C5 2),
    (32, 0x3C5164F3, .csrrsi 9 0x3C5 2),
    (32, 0x3C5174F3, .csrrci 9 0x3C5 2),
    (32, 0x10200073, .sret),
    (32, 0x30200073, .mret),
    (32, 0x10500073, .wfi),
    (32, 0x12DB0073, .sfenceVma 0x16 0xD)] = true := by decide +kernel

theorem test_decode_control_1 : decodesAs [
    (32, 0xA570008B, .calld 0xA57),
    (32, 0xA570000B, .tcalld 0xA57),
    (32, 0x000B108B, .callh 0x16),
    (32, 0x020B100B, .tcallh 0x16),
    (32, 0x040B100B, .reth 0x16),
    (32, 0x00DB248B, .start 9 0x16 0xD),
    (32, 0x0200200B, .hend),
    (32, 0x040B248B, .hjoin 9 0x16),
    (32, 0x0600248B, .hpoll 9),
    (32, 0x4533B08B, .pfx 1 7 8 2 0x13),
    (32, 0x000B448B, .launch 9 0x16),
    (32, 0x020B448B, .lpoll 9 0x16),
    (32, 0x001B548B, .sysc 9 0x16 1),
    (32, 0x020B548B, .sysw 9 0x16),
    (32, 0x04DB548B, .nfy 9 0x16 0xD),
    (32, 0xA570648B, .fhand 9 0xA57),
    (32, 0x00DB748B, .cprobe 9 0x16 0xD),
    (32, 0x020B748B, .cpin 9 0x16),
    (32, 0x040B748B, .cunpin 9 0x16),
    (32, 0x060B748B, .cevict 9 0x16),
    (32, 0x100B748B, .ctxflush 9 0x16),
    (32, 0x120B748B, .ctxload 9 0x16),
    (32, 0x14DB748B, .wsw 9 0x16 0xD),
    (32, 0x18DB748B, .waitev 9 0x16 0xD)] = true := by decide +kernel

theorem test_decode_control_2 : decodesAs [
    (32, 0x1A0B700B, .mark 0x16)] = true := by decide +kernel

theorem test_decode_vector_1 : decodesAs [
    (32, 0x02DB24AB, .vadd 9 0x16 0xD 1 2),
    (32, 0x0ADB24AB, .vsub 9 0x16 0xD 1 2),
    (32, 0x12DB24AB, .vmul 9 0x16 0xD 1 2),
    (32, 0x1ADB24AB, .vmulh 9 0x16 0xD 1 2),
    (32, 0x22DB24AB, .vmulhn 9 0x16 0xD 1 2),
    (32, 0x2ADB24AB, .vand 9 0x16 0xD 1 2),
    (32, 0x32DB24AB, .vor 9 0x16 0xD 1 2),
    (32, 0x3ADB24AB, .vxor 9 0x16 0xD 1 2),
    (32, 0x42DB24AB, .vshl 9 0x16 0xD 1 2),
    (32, 0x4ADB24AB, .vshr 9 0x16 0xD 1 2),
    (32, 0x52DB24AB, .vsra 9 0x16 0xD 1 2),
    (32, 0x5ADB24AB, .vmin 9 0x16 0xD 1 2),
    (32, 0x62DB24AB, .vmax 9 0x16 0xD 1 2),
    (32, 0x6ADB24AB, .vminn 9 0x16 0xD 1 2),
    (32, 0x72DB24AB, .vmaxn 9 0x16 0xD 1 2),
    (32, 0x7ADB24AB, .vadds 9 0x16 0xD 1 2),
    (32, 0x837B24AB, .vaddi 9 0x16 1 0x17 2),
    (32, 0x8AEB24AB, .vshli 9 0x16 1 0xE 2),
    (32, 0x92EB24AB, .vshri 9 0x16 1 0xE 2),
    (32, 0x9AEB24AB, .vsrai 9 0x16 1 0xE 2),
    (32, 0xA2DB20AB, .vcmpeq 1 0x16 0xD 1 2),
    (32, 0xAADB20AB, .vcmplt 1 0x16 0xD 1 2),
    (32, 0xB2DB20AB, .vcmple 1 0x16 0xD 1 2),
    (32, 0xBADB20AB, .vcmpltn 1 0x16 0xD 1 2)] = true := by decide +kernel

theorem test_decode_vector_2 : decodesAs [
    (32, 0xC20B24AB, .vcnt 9 0x16 1 2),
    (32, 0xCA0B24AB, .vclz 9 0x16 1 2),
    (32, 0xD20B24AB, .vredsum 9 0x16 1 2),
    (32, 0xDA0B24AB, .vredmax 9 0x16 1 2),
    (32, 0xE20B24AB, .vredmin 9 0x16 1 2),
    (32, 0xEADB24AB, .vsel 9 0x16 0xD 1 2),
    (32, 0xF32BA4AB, .vmovi 9 1 0x257 2),
    (32, 0xFADB24AB, .vmacc 9 0x16 0xD 1 2),
    (32, 0x02DB64AB, .vfadd 9 0x16 0xD 1 2),
    (32, 0x0ADB64AB, .vfsub 9 0x16 0xD 1 2),
    (32, 0x12DB64AB, .vfmul 9 0x16 0xD 1 2),
    (32, 0x1ADB64AB, .vfma 9 0x16 0xD 1 2),
    (32, 0x22DB64AB, .vfms 9 0x16 0xD 1 2),
    (32, 0x2ADB64AB, .vfdiv 9 0x16 0xD 1 2),
    (32, 0x320B64AB, .vfsqrt 9 0x16 1 2),
    (32, 0x3ADB64AB, .vfmin 9 0x16 0xD 1 2),
    (32, 0x42DB64AB, .vfmax 9 0x16 0xD 1 2),
    (32, 0x4A0B64AB, .vfabs 9 0x16 1 2),
    (32, 0x520B64AB, .vfneg 9 0x16 1 2),
    (32, 0x5A0B64AB, .vfexp2 9 0x16 1 2),
    (32, 0x620B64AB, .vflog2 9 0x16 1 2),
    (32, 0x6A0B64AB, .vfrcp 9 0x16 1 2),
    (32, 0x72DB60AB, .vfcmpeq 1 0x16 0xD 1 2),
    (32, 0x7ADB60AB, .vfcmplt 1 0x16 0xD 1 2)] = true := by decide +kernel

theorem test_decode_vector_3 : decodesAs [
    (32, 0x82DB60AB, .vfcmple 1 0x16 0xD 1 2),
    (32, 0x8ADB60AB, .vfcmpun 1 0x16 0xD 1 2),
    (32, 0x920B64AB, .vfredsum 9 0x16 1 2),
    (32, 0x9A0B64AB, .vfredmax 9 0x16 1 2),
    (32, 0xA20B64AB, .vfredmin 9 0x16 1 2),
    (32, 0xAA6B64AB, .vfcvt 9 0x16 1 6 2),
    (32, 0xB31B64AB, .vfcvti 9 0x16 1 0x11 2),
    (32, 0xBB5B64AB, .vicvtf 9 0x16 1 0x15 2),
    (32, 0xC2DB54AB, .vfwmacc 9 0x16 0xD 1 1),
    (32, 0xCA0B64AB, .vfclass 9 0x16 1 2),
    (32, 0xD20B64AB, .vfround 9 0x16 1 2),
    (32, 0xDADB64AB, .vfscale 9 0x16 0xD 1 2),
    (32, 0xE20B64AB, .vfrsqrt 9 0x16 1 2),
    (32, 0xEADB64AB, .vfmaxnum 9 0x16 0xD 1 2),
    (32, 0xF22BE4AB, .vmoviF 9 1 0x57 2),
    (32, 0xFADB64AB, .vfminnum 9 0x16 0xD 1 2)] = true := by decide +kernel

theorem test_decode_permute_matrix_memory_1 : decodesAs [
    (32, 0x020B04DB, .vbcast 9 0x16 1),
    (32, 0x0ADB04DB, .vext 9 0x16 0xD 1),
    (32, 0x12DB04DB, .vins 9 0x16 0xD 1),
    (32, 0x1ADB04DB, .vperm 9 0x16 0xD 1),
    (32, 0x22DB04DB, .vslideup 9 0x16 0xD 1),
    (32, 0x2ADB04DB, .vslidedn 9 0x16 0xD 1),
    (32, 0x32DB04DB, .vzip 9 0x16 0xD 1),
    (32, 0x3A0B04DB, .vunzip 9 0x16 1),
    (32, 0x420B04DB, .vrev 9 0x16 1),
    (32, 0x4A5B04DB, .vcompress 9 0x16 5 1),
    (32, 0x505300DB, .pand 1 6 5),
    (32, 0x585300DB, .por 1 6 5),
    (32, 0x605300DB, .pxor 1 6 5),
    (32, 0x680300DB, .pnot 1 6),
    (32, 0x72DB00DB, .pwhile 1 0x16 0xD 1),
    (32, 0x7A0304DB, .pcount 9 6 1),
    (32, 0x820304DB, .pfirst 9 6 1),
    (32, 0x8AD304DB, .vqred 9 6 0xD 1),
    (32, 0x920B04DB, .vmv 9 0x16 1),
    (32, 0x600B14DB, .mcfg 9 0x16 6),
    (32, 0x62DB10DB, .mma 1 0x16 0xD 6),
    (32, 0x64DB10DB, .mmas 1 0x16 0xD 6),
    (32, 0x660010DB, .mzero 1 6),
    (32, 0x68DB10DB, .mst 1 0x16 0xD 6)] = true := by decide +kernel

theorem test_decode_permute_matrix_memory_2 : decodesAs [
    (32, 0x6ADB10DB, .mld 1 0x16 0xD 6),
    (32, 0x6CD314DB, .mrd 9 6 0xD 6),
    (32, 0x6EDB10DB, .mrec 1 0x16 0xD 6),
    (32, 0x000B24DB, .mprog 9 0x16),
    (32, 0x02DB20DB, .mwr 1 0x16 0xD),
    (32, 0x20DB20DB, .cvinit 1 0x16 0xD),
    (32, 0x22DB20DB, .cvprobe 1 0x16 0xD),
    (32, 0x24DB20DB, .cvcommit 1 0x16 0xD),
    (32, 0x260124DB, .cvgain 9 2),
    (32, 0x280020DB, .cvclr 1),
    (32, 0x2AD124DB, .cvsel 9 2 0xD),
    (32, 0x2C0B20DB, .cvsave 1 0x16),
    (32, 0x2E0B20DB, .cvrest 1 0x16),
    (32, 0x00DB34DB, .erun 9 0x16 0xD),
    (32, 0x020B34DB, .ewait 9 0x16),
    (32, 0x040B34DB, .estat 9 0x16),
    (32, 0x100B30DB, .qpush 1 0x16),
    (32, 0x120334DB, .qpop 9 6),
    (32, 0x140B30DB, .qpushv 1 0x16),
    (32, 0x160334DB, .qpopv 9 6),
    (32, 0x180334DB, .qstat 9 6),
    (32, 0x1A0B30DB, .qbind 1 0x16)] = true := by decide +kernel

theorem test_decode_remote_atomic_1 : decodesAs [
    (32, 0x60DB14FB, .vld 9 0x16 0xD 6 1),
    (32, 0x62DB14FB, .vst 9 0x16 0xD 6 1),
    (32, 0x64DB14FB, .vldx 9 0x16 0xD 6 1),
    (32, 0x66DB14FB, .vstx 9 0x16 0xD 6 1),
    (32, 0x68DB14FB, .vldl 9 0x16 0xD 6 1),
    (32, 0x6ADB14FB, .vstl 9 0x16 0xD 6 1),
    (32, 0x6CDB14FB, .vldk 9 0x16 0xD 6 1),
    (32, 0x6EDB14FB, .vldt 9 0x16 0xD 6 1),
    (32, 0x60DB44FB, .ldk 9 0x16 0xD 6),
    (32, 0x62DB44FB, .ldt 9 0x16 0xD 6),
    (32, 0x64DB40FB, .rld 1 0x16 0xD 6),
    (32, 0x66DB44FB, .rst 9 0x16 0xD 6),
    (32, 0x68DB44FB, .gst 9 0x16 0xD 6),
    (32, 0x6ADB44FB, .ksend 9 0x16 0xD 6),
    (32, 0x04DB54FB, .famoAddBf16x2 9 0x16 0xD 2),
    (32, 0x0CDB54FB, .famoAddF16x2 9 0x16 0xD 2),
    (32, 0x14DB54FB, .famoAddF32 9 0x16 0xD 2),
    (32, 0x1CDB54FB, .famoAddF64 9 0x16 0xD 2),
    (32, 0x24DB54FB, .famoMinBf16x2 9 0x16 0xD 2),
    (32, 0x2CDB54FB, .famoMinF16x2 9 0x16 0xD 2),
    (32, 0x34DB54FB, .famoMinF32 9 0x16 0xD 2),
    (32, 0x3CDB54FB, .famoMinF64 9 0x16 0xD 2),
    (32, 0x44DB54FB, .famoMaxBf16x2 9 0x16 0xD 2),
    (32, 0x4CDB54FB, .famoMaxF16x2 9 0x16 0xD 2)] = true := by decide +kernel

theorem test_decode_remote_atomic_2 : decodesAs [
    (32, 0x54DB54FB, .famoMaxF32 9 0x16 0xD 2),
    (32, 0x5CDB54FB, .famoMaxF64 9 0x16 0xD 2),
    (32, 0x65AB597B, .cas128 9 0x16 0xD 2),
    (32, 0x6CDB54FB, .iaddD 9 0x16 0xD 2),
    (32, 0x74DB54FB, .iaddW 9 0x16 0xD 2),
    (32, 0x7CDB54FB, .iorD 9 0x16 0xD 2),
    (32, 0x84DB54FB, .iandD 9 0x16 0xD 2),
    (32, 0x000061FB, .fenceS 3),
    (32, 0x025B64FB, .sldAcq 9 0x16 5),
    (32, 0x04DB62FB, .sstRel 0x16 0xD 5),
    (32, 0x060061FB, .barr 3),
    (32, 0x080061FB, .bwait 3),
    (32, 0x0ADB64FB, .bmask 9 0x16 0xD),
    (32, 0x0C0064FB, .tickrd 9),
    (32, 0x0E0B64FB, .tickw 9 0x16),
    (32, 0x100061FB, .sstep 3),
    (32, 0x12DB64FB, .abarr 9 0x16 0xD),
    (32, 0x140B64FB, .abwait 9 0x16),
    (32, 0x16DB64FB, .abinit 9 0x16 0xD),
    (32, 0x000074FB, .gopen 9),
    (32, 0x020B74FB, .gsel 9 0x16),
    (32, 0x04DB74FB, .gcommit 9 0x16 0xD),
    (32, 0x060B74FB, .gabort 9 0x16),
    (32, 0x08DB74FB, .gstat 9 0x16 0xD)] = true := by decide +kernel

theorem test_decode_remote_atomic_3 : decodesAs [
    (32, 0x10DB74FB, .tset 9 0x16 0xD),
    (32, 0x12DB74FB, .tmode 9 0x16 0xD),
    (32, 0x14DB74FB, .kbin 9 0x16 0xD),
    (32, 0x16DB74FB, .jrnl 9 0x16 0xD)] = true := by decide +kernel

theorem test_decode_compressed_1 : decodesAs [
    (16, 0x0D54, .cAddi4spn 5 0xA5),
    (16, 0x4DB8, .cLw 6 3 0x16),
    (16, 0x65F8, .cLd 6 3 0x19),
    (16, 0xD55C, .cSw 7 2 0xB),
    (16, 0xED5C, .cSd 7 2 0x13),
    (16, 0x0001, .cNop 0),
    (16, 0x1AAD, .cAddi 21 0x2B),
    (16, 0x3AD5, .cAddiw 21 0x35),
    (16, 0x58C5, .cLi 17 0x31),
    (16, 0x7169, .cAddi16sp 0x2D),
    (16, 0x79B9, .cLui 19 0x2E),
    (16, 0x9235, .cSrli 4 0x2D),
    (16, 0x864D, .cSrai 4 0x13),
    (16, 0x9B4D, .cAndi 6 0x33),
    (16, 0x8F0D, .cSub 6 3),
    (16, 0x8F2D, .cXor 6 3),
    (16, 0x8F4D, .cOr 6 3),
    (16, 0x8F6D, .cAnd 6 3),
    (16, 0x9F0D, .cSubw 6 3),
    (16, 0x9F2D, .cAddw 6 3),
    (16, 0xB6B1, .cJ 0x5A6),
    (16, 0xD6B5, .cBeqz 5 0xB6),
    (16, 0xF6B5, .cBnez 5 0xB6),
    (16, 0x14AA, .cSlli 9 0x2A)] = true := by decide +kernel

theorem test_decode_compressed_2 : decodesAs [
    (16, 0x54DA, .cLwsp 9 0x2D),
    (16, 0x74B6, .cLdsp 9 0x2D),
    (16, 0x8482, .cJr 9),
    (16, 0x84D2, .cMv 9 0x14),
    (16, 0x9482, .cJalr 9),
    (16, 0x94D2, .cAdd 9 0x14),
    (16, 0xDB52, .cSwsp 0x14 0x2D),
    (16, 0xF6D2, .cSdsp 0x14 0x2D)] = true := by decide +kernel

/-! ## Terms that are not well formed, one for each check -/

theorem test_ill_formed_operands_1 : ([
    .vshli 0 0 0 8 0,
    .vshri 0 0 0 16 1,
    .vsrai 0 0 0 31 1,
    .vmovi 0 0 128 0,
    .vfcvt 0 0 0 12 0,
    .vfcvti 0 0 0 4 0,
    .vicvtf 0 0 0 8 0,
    .vfwmacc 0 0 0 0 3,
    .famoAddBf16x2 0 0 0 3,
    .famoAddF16x2 0 0 0 3,
    .famoAddF32 0 0 0 3,
    .famoAddF64 0 0 0 3,
    .famoMinBf16x2 0 0 0 3,
    .famoMinF16x2 0 0 0 3,
    .famoMinF32 0 0 0 3,
    .famoMinF64 0 0 0 3,
    .famoMaxBf16x2 0 0 0 3,
    .famoMaxF16x2 0 0 0 3,
    .famoMaxF32 0 0 0 3,
    .famoMaxF64 0 0 0 3,
    .cas128 0 0 0 1,
    .cas128 0 0 0 3,
    .iaddD 0 0 0 3,
    .iaddW 0 0 0 3] : List Instr).all (fun i => !i.wf) = true := by decide

theorem test_ill_formed_operands_2 : ([
    .iorD 0 0 0 3,
    .iandD 0 0 0 3,
    .fenceS 7,
    .sldAcq 0 0 7,
    .sstRel 0 0 7,
    .barr 5,
    .bwait 5,
    .sstep 5] : List Instr).all (fun i => !i.wf) = true := by decide

theorem test_ill_formed_zero_registers : ([
    .cAddi4spn 0 0,
    .cAddi 0 0,
    .cAddiw 0 0,
    .cAddi16sp 0,
    .cLui 2 1,
    .cLui 1 0,
    .cLwsp 0 0,
    .cLdsp 0 0,
    .cJr 0,
    .cMv 0 0,
    .cJalr 0,
    .cAdd 0 0] : List Instr).all (fun i => !i.wf) = true := by decide

theorem test_ill_formed_prefix : ([
    .pfx 12 0 0 0 0,
    .pfx 0 12 0 0 0,
    .pfx 0 0 1 0 0,
    .pfx 0 0 0 0 1,
    .pfx 0 0 0 1 0,
    .pfx 0 0 0 2 0] : List Instr).all (fun i => !i.wf) = true := by decide

theorem test_ill_formed_agents_1 : ([
    .registerWrite 4096 0 0 0,
    .registerWrite 0 11 0 0,
    .getVersion 17 default,
    .getCapabilities 17 default,
    .negotiateAlgorithms 17 default,
    .getDigests 17 default,
    .getCertificate 17 default,
    .challenge 17 default,
    .getMeasurements 17 default,
    .spdmUnsupportedRequest 17 default,
    .launchRequest 4096 0 0 0,
    .launchRequest 0 11 0 0,
    .nop 4096 0,
    .map 4096 0 default,
    .unmap 4096 0,
    .ethSend 4096 ⟨0, none⟩,
    .ethRecv 4096 0,
    .storeRead 4096 ⟨0, none⟩ [],
    .storeWrite 4096 ⟨0, none⟩ 0,
    .syscallUnknown 4096 0,
    .syscallComplete 4096 0 0,
    .coreDebugStopped ⟨none, 4096⟩,
    .sourceAnswer 256 0 0 0 default,
    .fetchRetry 256] : List Instr).all (fun i => !i.wf) = true := by decide

theorem test_ill_formed_agents_2 : ([
    .lastAging 256,
    .resultArrival 4096 0 0,
    .resultArrival 0 11 0,
    .helperFree 4096 0,
    .helperFree 0 11,
    .vectorBind 1024,
    .vectorEntryComplete 1024 0,
    .vectorEntryComplete 0 4,
    .registerCacheFill 4096 0 0,
    .registerCacheFill 0 11 0,
    .vqredStep 4096,
    .matrixEntryRetire 4096,
    .matrixEntryComplete 4096,
    .timerInterrupt 4096 0 false,
    .timerInterrupt 0 11 false,
    .externalInterrupt 4096 0,
    .externalInterrupt 0 11,
    .counterOverflowInterrupt 4096,
    .remoteRefusalInterrupt 4096 0,
    .preemptionRequest 4096 0,
    .preemptionRequest 0 11,
    .pageWalk 4096 0 0 false,
    .pageWalk 0 11 0 false,
    .shootdownAck ⟨1024, 0⟩] : List Instr).all (fun i => !i.wf) = true := by decide

theorem test_ill_formed_agents_3 : ([
    .shootdownAck ⟨0, 4096⟩,
    .drain 4096 0,
    .drain 0 11,
    .evict 4096 0,
    .performLoad 4096 0 0 0,
    .performLoad 0 11 0 0,
    .takeOwnership 1024,
    .writeLine ⟨1024, 0⟩,
    .writeScratchpadSector ⟨1024, 0⟩,
    .entryComplete ⟨1024, 0⟩,
    .ksendArrival 4096 0 0,
    .ksendArrival 0 11 0,
    .ksendArrival 0 0 1024,
    .depart 4096,
    .barrierRelease 4096 0,
    .barrierRelease 0 5,
    .tickwExpiry 4096 0,
    .tickwExpiry 0 11,
    .waitevWake 4096 0,
    .waitevWake 0 11,
    .counterOverflow 4096 0,
    .counterRecordRetry 4096] : List Instr).all (fun i => !i.wf) = true := by decide


/-! ## The manual's worked examples and single steps -/

/-- The worked example of chapter 3: the return handle that a call at the second call site of g writes. -/
theorem test_return_handle :
    returnHandle 0x000123 2 (recDigest ([0x5C, 0x3A, 0x91, 0xF0, 0x02, 0xBE, 0x7D, 0x41] ++ List.replicate 56 0)) =
      0x000123000291#48 ++ 0x3A5C#16 := by decide +kernel

/-- The worked example of chapter 1: core 0x0A37 is on die 5, in its cluster 3 and bench 13. -/
theorem test_coreid : dieOf 0xA37 = 5 ∧ clusterOf 0xA37 = 5 * 32 + 3 ∧ benchOf 0xA37 = 5 * 128 + 13 := by decide

/-- The example of R223: where mode 5 places logical offsets 4 and 128. -/
theorem test_layout_mode5 : layout 5 4 = 128 ∧ layout 5 128 = 4 := by decide

/-- The example of R231: the home of local address 0x123456789 is base die 4. -/
theorem test_home_die : homeDie 0x123456789 = 4 := by decide

/-- A strand with two vector registers set. -/
def twoLines (a b : List Nat) : Strand := ((at0.me.writeV 1 (lineOfElems 1 a)).writeV 2 (lineOfElems 1 b))

/-- The example of R164: vadds.i8 on 100 and 50 gives 127, on −100 and −50 gives −128. -/
theorem test_vadds :
    let t := effVadds 3 1 2 3 0 (({ twoLines [100, 156] [50, 206] with p := Vector.replicate 8 (BitVec.allOnes 256) } : Strand))
    elemNat (t.readV 3) 1 0 = 127 ∧ elemNat (t.readV 3) 1 1 = 128 := by decide +kernel

/-- The example of R164: vadd.i8 on 100 and 50 gives −106. -/
theorem test_vadd :
    let t := effVadd 3 1 2 3 0 (({ twoLines [100] [50] with p := Vector.replicate 8 (BitVec.allOnes 256) } : Strand))
    elemNat (t.readV 3) 1 0 = 150 := by decide +kernel

/-- The example of R173: 2.5, −300.0 and NaN to int8 under RNE. -/
theorem test_vfcvti :
    toInteger rne 8 true (fmtF32.decode 0x40200000) = (2, flagNX) ∧
    toInteger rne 8 true (fmtF32.decode 0xC3960000) = (128, flagNV) ∧
    toInteger rne 8 true (fmtF32.decode 0x7FC00000) = (0, flagNV) := by decide +kernel

/-- The prefix word and its fields in the example of R329: `pfx cf8, same, block`. -/
theorem test_prefix_word : decodeTableWord 32 0x0600318B = some (.pfx 3 0 0 3 0) := by decide +kernel

/-- The word of the example of R177: `vqred.e32 v6, q2, a3`. -/
theorem test_vqred_word : decodesAs [(32, 0x8CD1035B, .vqred 6 2 13 2)] = true := by decide +kernel

/-- The example of R304: the junction folds (3, 2, 1.0) and (5, 1, 4.0) to (5, 1.5, 4.25). -/
theorem test_junction :
    rsc 20 (leBytes 4 0x40400000 ++ leBytes 4 0x40000000 ++ leBytes 8 0 ++ leBytes 4 0x3F800000)
        (leBytes 4 0x40A00000 ++ leBytes 4 0x3F800000 ++ leBytes 8 0 ++ leBytes 4 0x40800000) =
      leBytes 4 0x40A00000 ++ leBytes 4 0x3FC00000 ++ leBytes 8 0 ++ leBytes 4 0x40880000 := by decide +kernel

/-- The program of the example of R203: its two slots are used, and none is bad. -/
theorem test_micro_program : usedSlots 0x56801210 = [0x1210, 0x5680] ∧ badSlot 0x56801210 = none := by decide +kernel

/-- The example of R203: s := min(s, a + b) over (1, 5) and (2, 1) from +∞ is 3. -/
theorem test_recurrence :
    (MClass.recur .single (usedSlots 0x56801210) [fmtF32.decode 0x3F800000, fmtF32.decode 0x40000000]
      [fmtF32.decode 0x40A00000, fmtF32.decode 0x3F800000] (.inf false)) = fmtF32.decode 0x40400000 := by decide +kernel

/-- RV64I: an addition wraps at 64 bits; a source may be the destination. -/
theorem test_add_wraps :
    nextWith (exec (.add 5 5 5) (withX 5 0x8000000000000001)) (fun t => t.x 5 == 2) = true := by decide +kernel

/-- RV64I: x0 discards what is written to it. -/
theorem test_add_zero :
    nextWith (exec (.add 0 5 5) (withX 5 1)) (fun t => t.x 0 == 0) = true := by decide +kernel

/-- RV64I: addiw sign-extends bit 31 of its sum. -/
theorem test_addiw :
    nextWith (exec (.addiw 6 5 1) (withX 5 0x7FFFFFFF)) (fun t => t.x 6 == 0xFFFFFFFF80000000) = true := by decide +kernel

/-- RV64M: the quotient of a division by 0 is −1 and the remainder the dividend. -/
theorem test_div_by_zero :
    nextWith (exec (.div 6 5 0) (withX 5 7)) (fun t => t.x 6 == 0xFFFFFFFFFFFFFFFF) = true ∧
    nextWith (exec (.rem 6 5 0) (withX 5 7)) (fun t => t.x 6 == 7) = true := by decide +kernel

/-- RV64I: sraw keeps the sign of the low word. -/
theorem test_sraiw :
    nextWith (exec (.sraiw 6 5 4) (withX 5 0x80000000)) (fun t => t.x 6 == 0xFFFFFFFFF8000000) = true := by decide +kernel

/-- The example of R244: the second step of iadd.d reads the first one's 3 and leaves 6. -/
theorem test_iadd :
    nextWith (exec (.iaddD 10 12 11 1) (((withX 11 3).writeX 12 0x4000).writeX 13 0))
      (fun t => t.x 10 == 0 &&
        nextWith (exec (.iaddD 10 12 11 1) t) (fun u => u.x 10 == 3 &&
          nextWith (exec (.ld 14 12 0) u) (fun w => w.x 14 == 6))) = true := by decide +kernel
/-! ## States that meet the hypotheses: integer registers, transfers, scalar memory -/

theorem at0_ready : at0.ready := by
  unfold State.ready
  decide +kernel

theorem test_meets_integerFrame : integerForm (.add 5 6 7) = some (5, 4) ∧ at0.ready := ⟨rfl, at0_ready⟩

theorem test_meets_compressed : expansionOf (.cAdd 5 6) = some (.add 5 5 6) ∧ at0.cur < 11 := by decide +kernel

theorem test_meets_branches : branchForm at0 (.bne 0 0 1) = some (false, 2, 4) ∧
    branchForm at0 (.beq 0 0 1) = some (true, 2, 4) ∧ at0.funcLength = 4 ∧
    branchForm at0 (.beq 0 0 2) = some (true, 4, 4) ∧ branchForm at0 (.beq 0 0 (-1)) = some (true, -2, 4) ∧
    at0.me.fpc = 0 ∧ at0.me.pp = false := by decide +kernel

theorem test_meets_jumps : jumpForm at0 (.jal 1 1) = some (2, 1, 4) ∧ jumpForm at0 (.jalr 1 0 4) = some (4, 1, 4) ∧
    jumpForm at0 (.cJ (-1)) = some (BitVec.ofInt 64 (-2), 0, 2) ∧ at0.funcLength = 4 := by decide +kernel

theorem test_meets_scalarLoads : loadForm at0 (.ld 5 0 0x100) = some (5, 0x100, 8, true, 4) ∧ at0.me.pp = false ∧
    okWith (at0.loadLocs 0x100 8) (fun r => !r.1.deferred) = true := by decide +kernel

theorem test_meets_scalarStores : storeForm at0 (.sh 0 0 0x101) = some (0x101, [0, 0], 4) ∧
    okWith (at0.access .store 0x101 2) (fun r => r.2 == [0x101, 0x102]) = true := by decide +kernel

/-! ## Atomics -/

/-- An atomic of `n` bytes may be performed, and `p` holds of the state and the locations. -/
def mayAtomic (s : State) (a : Access) (va : Word) (n : Nat) (rl : Bool) (p : State → List Nat → Bool) : Bool :=
  decide (s.cur < 11) && !s.me.pp && !s.deferred && decide (va.toNat % n = 0) &&
  okWith (s.reach a va n) (fun r => atomicPlace va r.2 && !r.1.poisonedAt r.2 && !r.1.comesFirst a r.2 &&
    okWith (if rl then r.1.fence 4 else r.1.drainTo r.2) (fun s3 =>
      (s3.storeHeld s3.here s3.cur r.2).isNone && p (s3.raiseSeen s3.here r.2) r.2))

theorem ready_of_mayAtomic {s : State} {a : Access} {va : Word} {n : Nat} {rl : Bool} {p : State → List Nat → Bool}
    (h : mayAtomic s a va n rl p = true) : ∃ s2 locs, AtomicReady s a va n rl s2 locs ∧ p s2 locs = true := by
  simp only [mayAtomic, Bool.and_eq_true, decide_eq_true_eq, Bool.not_eq_true'] at h
  obtain ⟨⟨⟨⟨h1, h2⟩, h3⟩, h4⟩, h5⟩ := h
  obtain ⟨⟨s1, locs⟩, e1, h6⟩ := exists_of_okWith h5
  simp only [Bool.and_eq_true, Bool.not_eq_true'] at h6
  obtain ⟨⟨⟨h6, h7⟩, h7'⟩, h8⟩ := h6
  obtain ⟨s3, e3, h9⟩ := exists_of_okWith h8
  simp only [Bool.and_eq_true, Option.isNone_iff_eq_none] at h9
  exact ⟨s3.raiseSeen s3.here locs, locs, ⟨⟨h1, h2⟩, h3, h4, s1, s3, e1, h6, h7, h7', e3, h9.1, rfl⟩, h9.2⟩

theorem test_meets_atomics : ∃ f s2 locs, atomicForm (withX 6 0x208) (.amoaddD 5 6 7 1 1) = some (5, 0x208, 8, true, f) ∧
    AtomicReady (withX 6 0x208) .store 0x208 8 true s2 locs := by
  obtain ⟨s2, locs, h, _⟩ := ready_of_mayAtomic
    (show mayAtomic (withX 6 0x208) .store 0x208 8 true (fun _ _ => true) = true by decide +kernel)
  exact ⟨_, s2, locs, rfl, h⟩

theorem test_meets_floatAtomics : ∃ f s2 locs,
    floatAtomicForm (withX 6 0x204) (.famoAddF32 5 6 7 1) = some (5, 0x204, 4, false, f) ∧
    AtomicReady (withX 6 0x204) .store 0x204 4 false s2 locs := by
  obtain ⟨s2, locs, h, _⟩ := ready_of_mayAtomic
    (show mayAtomic (withX 6 0x204) .store 0x204 4 false (fun _ _ => true) = true by decide +kernel)
  exact ⟨_, s2, locs, rfl, h⟩

theorem test_meets_cas : ∃ s2 locs, AtomicReady (withX 6 0x210) .store ((withX 6 0x210).x 6) 16 false s2 locs ∧
    oldAt s2 locs = (withX 6 0x210).pair 0 := by
  obtain ⟨s2, locs, h, e⟩ := ready_of_mayAtomic (show mayAtomic (withX 6 0x210) .store ((withX 6 0x210).x 6) 16 false
    (fun s2 locs => oldAt s2 locs == (withX 6 0x210).pair 0) = true by decide +kernel)
  exact ⟨s2, locs, h, by simpa using e⟩

theorem test_meets_cas_other : ∃ s2 locs, AtomicReady (withX 6 0x210) .store ((withX 6 0x210).x 6) 16 false s2 locs ∧
    oldAt s2 locs ≠ (withX 6 0x210).pair 3 := by
  obtain ⟨s2, locs, h, e⟩ := ready_of_mayAtomic (show mayAtomic (withX 6 0x210) .store ((withX 6 0x210).x 6) 16 false
    (fun s2 locs => oldAt s2 locs != (withX 6 0x210).pair 3) = true by decide +kernel)
  exact ⟨s2, locs, h, by simpa using e⟩

theorem test_meets_loadReserved : ∃ s2 locs, reserveForm (withX 6 0x300) (.lrW 5 6 0 1) = some (5, 0x300, 4, true) ∧
    AtomicReady (withX 6 0x300) .load 0x300 4 true s2 locs := by
  obtain ⟨s2, locs, h, _⟩ := ready_of_mayAtomic
    (show mayAtomic (withX 6 0x300) .load 0x300 4 true (fun _ _ => true) = true by decide +kernel)
  exact ⟨s2, locs, rfl, h⟩

/-- Strand 0 with a reservation on line 3. -/
def reserved : State := { withX 6 0x300 with reservations := [{ core := 0, strand := 0, line := 3 }] }

theorem test_meets_conditional_held : ∃ s2 locs, conditionalForm reserved (.scD 5 6 6 0 0) = some (5, 0x300, 8, false, 0x300) ∧
    AtomicReady reserved .store 0x300 8 false s2 locs ∧
    s2.reservation reserved.here reserved.cur = some (locs.headD 0 / 256) := by
  obtain ⟨s2, locs, h, e⟩ := ready_of_mayAtomic (show mayAtomic reserved .store 0x300 8 false
    (fun s2 locs => s2.reservation reserved.here reserved.cur == some (locs.headD 0 / 256)) = true by decide +kernel)
  exact ⟨s2, locs, rfl, h, by simpa using e⟩

theorem test_meets_conditional_lost : ∃ s2 locs, AtomicReady (withX 6 0x300) .store 0x300 8 false s2 locs ∧
    s2.reservation 0 0 ≠ some (locs.headD 0 / 256) := by
  obtain ⟨s2, locs, h, e⟩ := ready_of_mayAtomic (show mayAtomic (withX 6 0x300) .store 0x300 8 false
    (fun s2 locs => s2.reservation 0 0 != some (locs.headD 0 / 256)) = true by decide +kernel)
  exact ⟨s2, locs, h, by simpa using e⟩

theorem test_meets_misaligned : atomicAlignment (withX 6 0x301) (.lrW 5 6 0 0) = some (0x301, 4, 4) ∧
    atomicAlignment (withX 6 0x308) (.cas128 1 6 2 0) = some (0x308, 16, 6) ∧ at0.me.pp = false := by decide +kernel

/-! ## Control and status registers, traps and interrupts -/

/-- The accesses of a CSR instruction are allowed, and performed. -/
def csrPerformed (s : State) (i : Instr) : Bool :=
  match csrForm s i with
  | none => false
  | some (_, a, writes, f) =>
    s.csrAllowed s.here s.cur a writes &&
    decide (s.counterFate s.here s.cur a (if writes then some (f (s.readCsr s.here s.cur a)) else none) = .performed)

theorem test_meets_csrInstructions : csrPerformed at0 (.csrrw 5 6 0x804) = true ∧ csrPerformed at0 (.csrrsi 5 0xC01 0) = true ∧
    csrPerformed at0 (.csrrc 5 6 0x300) = true := by decide +kernel

/-- A strand in user mode. -/
def user0 : State := with0 (fun t => { t with priv := .user })

theorem test_meets_csrIllegal : csrForm user0 (.csrrs 5 6 0x999) ≠ none ∧ user0.me.pp = false ∧
    user0.csrExists user0.here 0x999 = false ∧ user0.me.priv.rank < (0x5C0#12).toNat / 256 % 4 ∧
    (0xC00#12).toNat / 1024 = 3 ∧ user0.me.priv = .user ∧ user0.myCore.scounteren = 0 := by
  refine ⟨by simp [csrForm], ?_⟩
  decide +kernel

theorem test_meets_registerWrites : (∀ a ∈ [0x5C3#12], at0.csrExists 0 a = true ∧
    (csrAfter (at0.isServer 0) at0.me.mideleg a.toNat (at0.readCsr 0 0 a) 7).isSome = true) := by decide +kernel

/-- Function 0, resident in entry 0, and function 1, which is not, of one module whose data base is 0x5000. -/
def world : State :=
  let s := at0.modCore 0 (fun k => { k with fdir := 0x1000, nfdir := 2, modtab := 0x2000, nmod := 1, launch := some key1 })
  { s.modMe (fun t => { t with mtvec := 0x1000, ctxbase := 0x8000 }) with
    mem := [(0x1022, 1), (0x1040, 1), (0x1062, 1), (0x1068, 1), (0x2001, 0x50)] }

/-- The trap line of strand 0 is written, and its handler's record and data base are read. -/
def entersTrap (s : State) (p : State → List Byte → Word → Bool) : Bool :=
  okWith (s.translate (s.deviceCtx 0) .store (s.me.ctxbase + 0x740) 56) (fun r =>
    okWith (r.1.onDie r.2) (fun s2 =>
      let s3 := (s2.levelEntered 0 0 true 2 0x13).modStrand 0 0 (fun t => (t.pushStore (r.2.zip (List.replicate 56 0))).closeWindows)
      okWith (s3.checkHandle (s3.xctx 0 0) 0 s.me.mtvec) (fun q =>
        okWith (q.1.dataBase (s3.xctx 0 0) 0 q.2) (fun g => p g.1 q.2 g.2))))

theorem test_meets_trapEntry :
    entersTrap world (fun s5 r gp => ((s5.cluster 0).lookup (recDigest r) (s5.core 0).vfNow).isSome && gp == 0x5000) = true ∧
    entersTrap (world.modMe (fun t => { t with mtvec := 0x1040 })) (fun s5 r _ =>
      ((s5.cluster 0).lookup (recDigest r) (s5.core 0).vfNow).isNone) = true ∧
    world.stackFault 0 2 0x13 = none ∧ world.isServer 0 = true ∧ world.me.priv = .machine := by decide +kernel

/-- A strand whose trap line lies in no memory. -/
def noLine : State := world.modMe (fun t => { t with ctxbase := 0x7FFFFFFFFF00 })

theorem test_meets_trapEntry_fails : (match noLine.translate (noLine.deviceCtx 0) .store (0x7FFFFFFFFF00 + 0x740) 56 with
    | .ok _ => false | .error _ => true) = true := by decide +kernel

theorem test_meets_trapReturn : returnForm world .mret = some (true, true) ∧
    okWith (world.readData (world.deviceCtx 0) 0 0x8740 56) (fun r =>
      okWith (r.1.returnRecord (r.1.xctx 0 0) 0 0 none 0) (fun q =>
        ((q.1.cluster 0).lookup (recDigest q.2) (q.1.core 0).vfNow).isSome &&
        BitVec.ofNat 256 (recNat r.2 0x10 32) == 0)) = true ∧
    returnForm user0 .mret = some (true, false) := by decide +kernel

/-- Strand 0 of core 4, which is no server core, in user mode with an interrupt of code 5 pending and enabled. -/
def pending5 : State := at0.modStrand 4 0 (fun t => { t with status := .live, priv := .user, pos := .inForm 0, ip := 0x20, sie := 0x20 })

theorem test_meets_interruptChoice : pending5.isServer 4 = false ∧ pending5.interruptFor 4 0 = some 5 ∧
    at0.interruptFor 4 0 = none := by decide +kernel

theorem test_meets_interruptArrival : arrivalForm (.timerInterrupt 4 0 false) = some (4, 0, 5) ∧
    (let u := pending5.modStrand 4 0 (fun t => { t with ip := t.ip ||| BitVec.ofNat 64 (2 ^ 5) })
     ((u.strand 4 0).atBoundary && u.vqredBetween 4 0 && !(u.core 4).debugStopped && !(u.core 4).stopping) = true ∧ u.interruptFor 4 0 = some 5) ∧
    (let u := at0.modStrand 4 0 (fun t => { t with ip := t.ip ||| BitVec.ofNat 64 (2 ^ 9) })
     u.interruptFor 4 0 = none) := by decide +kernel

/-- A refused journal entry. -/
def refusedEntry : JEntry where
  state := .refused
  paddr := 0
  len := 8
  reason := 1
  strand := 0
  tick := 0
  cnt := 0
  cntLoc := 0
  gen := 0
  group := none
  delivered := false

/-- An interrupt of each delivered kind pends at strand 0 of core 4, and is enabled. -/
def deliver (code : Nat) : State :=
  let s := at0.modStrand 4 0 (fun t => { t with
    status := .live, priv := .user, pos := .inForm 0, sie := BitVec.ofNat 64 (2 ^ code),
    ip := if code = 18 then 0x40000 else 0 });
  s.modCore 4 (fun k => { k with
    ovf := if code = 16 then 6 else 0,
    journal := if code = 17 then [(3, refusedEntry)] else [] })

theorem test_meets_interruptDelivery :
    deliveryForm (deliver 16) (.counterOverflowInterrupt 4) = some (4, 0, 16, 1) ∧ (deliver 16).interruptFor 4 0 = some 16 ∧
    deliveryForm (deliver 17) (.remoteRefusalInterrupt 4 3) = some (4, 0, 17, 3) ∧ (deliver 17).interruptFor 4 0 = some 17 ∧
    deliveryForm (deliver 18) (.preemptionRequest 4 0) = some (4, 0, 18, 0) ∧ (deliver 18).interruptFor 4 0 = some 18 ∧
    ((deliver 17).strand 4 0).atBoundary = true ∧ (deliver 17).vqredBetween 4 0 = true ∧ ((deliver 17).core 4).stopping = false ∧
    ((deliver 17).core 4).debugStopped = false := by decide +kernel

/-- What wfi waits for at strand 0. -/
def wakes0 (s : State) : Word :=
  s.pendingBits s.here s.cur &&& (if s.isServer s.here then s.me.mie else s.me.sie ||| s.me.mie)

theorem test_meets_waitForInterrupt :
    (with0 (fun t => { t with ip := 0x20, mie := 0x20 })).me.pp = false ∧
    wakes0 (with0 (fun t => { t with ip := 0x20, mie := 0x20 })) ≠ 0 ∧
    wakes0 at0 = 0 ∧ at0.me.priv = .machine ∧ wakes0 user0 = 0 ∧ user0.me.priv = .user := by decide +kernel
/-! ## Vector instructions, vector memory, queues and key routes -/

theorem test_meets_vectorElements : (elementForm at0 at0.me (.vadd 1 2 3 0 0)).isSome = true ∧
    (predicateForm at0 at0.me (.pnot 1 0)).isSome = true ∧ (reductionForm at0.me (.vredsum 1 2 0 0)).isSome = true ∧
    (floatForm at0.me (.vfadd 1 2 3 0 2)).isSome = true ∧ okWith (at0.useV [1, 2, 3]) (fun s1 => s1.me == at0.me) = true ∧
    okWith (at0.useV [1, 2]) (fun s1 => s1.me == at0.me) = true ∧ at0.deferred = false := by decide +kernel

/-- `n` entries stand in the vector queue of core 0, behind the vqred of strand 1. -/
def behind (n : Nat) : State :=
  at0.modCore 0 (fun k => { k with
    vqueue := List.replicate n { strand := 1, instr := .vqred 1 0 2 0, xa := 0, xb := 9, rm := 0, stamp := 0 } })

theorem test_meets_vectorBehind : (behind 1).vqredAhead = true ∧ (behind 8).vqredAhead = true ∧
    okWith ((behind 1).useV [1, 2, 3]) (fun s1 => (s1.core 0).vqueue.length == 1) = true ∧
    okWith ((behind 8).useV [1, 2, 3]) (fun s1 => (s1.core 0).vqueue.length == 8) = true := by decide +kernel

theorem test_meets_vectorScalars : scalarForm at0 at0.me (.pcount 5 0 2) = some (5, [], 64) ∧
    okWith (at0.useV []) (fun s1 => s1.me == at0.me) = true ∧ at0.vqredAhead = false := by decide +kernel

/-- The first address of the core's scratchpad, whose first tile is tile 0. -/
abbrev scratch : Word := 0xFFFFFE0000000000

theorem test_meets_vectorLoads : okWith (at0.useV [1]) (fun s1 =>
      okWith (s1.loadLocs 0x1000 256) (fun _ => true) && !s1.poisonedAt [sliceLoc 0 0x3F00] &&
      okWith (s1.access .load scratch 256) (fun r => r.2.all isScratch && r.1.tilesInFlight.isEmpty &&
        (r.1.tile (tileNo (locAt r.2 0))).seq == 0 && !r.1.poisonedAt r.2)) = true ∧
    ((withX 6 0x1000).x 6 + (withX 6 0x1000).x 7).toNat % 256 = 0 ∧ (0x3F00#64).toNat < 16384 ∧
    ((withX 6 0x1001).x 6 + (withX 6 0x1001).x 7).toNat % 256 ≠ 0 ∧ 16384 ≤ ((withX 6 0x4000).x 6).toNat := by decide +kernel

/-- The addresses of a gather or scatter of `n`-byte elements. -/
def gatherOf (s : State) (rs1 rs2 : BitVec 5) (n : Nat) : List Word :=
  (List.range (256 / n)).map (fun i => s.x rs1 + BitVec.ofNat 64 (elemNat (s.v rs2) n i * n))

theorem test_meets_gathers : okWith (at0.useV [1, 2]) (fun s1 =>
    okWith (s1.accessMany .load (gatherOf s1 0 2 8) 8) (fun r =>
      r.1.ownedLine r.2.flatten == none && !r.1.poisonedAt r.2.flatten && r.2.flatten.length == 256)) = true := by decide +kernel

theorem test_meets_vectorStores : okWith (at0.useV [1]) (fun s1 =>
      okWith (s1.access .store 0x1000 256) (fun r => r.2.length == 256)) = true ∧
    okWith (at0.useV [1, 2]) (fun s1 =>
      okWith (s1.accessMany .store (gatherOf s1 0 2 8) 8) (fun r => r.2.all (fun l => l.length == 8))) = true ∧
    ((withX 6 0x3F00).x 6 + (withX 6 0x3F00).x 7).toNat < 16384 := by decide +kernel

theorem test_meets_constantsAndTiles : (0x1008#64 + 8 * at0.x 7).toNat % 8 = 0 ∧
    okWith (at0.constLocs 0x1008 8) (fun r => r.2 == (List.range 8).map (0x1008 + ·) &&
      ((r.1.cluster 0).constCache.find? (fun k => k.vf == (r.1.core 0).vfNow && k.line == locAt r.2 0 / 256)).isNone) = true ∧
    okWith (at0.useV [1]) (fun s0 => okWith (s0.constLocs 0x1000 256) (fun r =>
      r.2 == (List.range 256).map (0x1000 + ·))) = true ∧
    okWith (at0.access .load scratch 8) (fun r => r.2.all isScratch && r.1.tilesInFlight.isEmpty &&
      (r.1.tile (tileNo (locAt r.2 0))).seq == 0 && !r.1.poisonedAt r.2 && !r.1.comesFirst .load r.2) = true ∧
    okWith (at0.access .store scratch 1) (fun r => r.2.all isScratch && r.1.tilesInFlight.isEmpty) = true := by decide +kernel

theorem test_meets_taggedLoads :
    okWith (({ withX 6 scratch with tilesInFlight := [tileNo (scratchLoc 0 0)] } : State).access .load scratch 8) (fun r =>
      r.2.all isScratch && r.1.tilesInFlight.contains (tileNo (locAt r.2 0))) = true ∧
    okWith ((withX 7 0x1FFFF).access .load scratch 8) (fun r => r.2.all isScratch &&
      (r.1.tile (tileNo (locAt r.2 0))).seq.toNat != ((withX 7 0x1FFFF).x 7).toNat % 2 ^ 16) = true := by decide +kernel

/-- Queue register 0 is bound to core FIFO 7, 1 to receive queue 15 and 2 to the engine's completions; FIFO 7 holds `n`
entries. -/
def bound (n : Nat) : State :=
  (at0.modMe (fun t => { t with q := ((t.q.set 0 0x701#64).set 1 0xF02#64).set 2 0x003#64 })).modCore 0 (fun k => { k with
    fifos := k.fifos.set 7 (List.replicate n (QEntry.scalar 9)),
    engineStream := [5],
    rx := k.rx.set 15 { entries := [1], reserved := [] } })

theorem test_meets_queues : sinkOf 0x701 = some (.fifo 7) ∧ sinkOf 0x801 = none ∧
    (bound 7).me.sink 0 = .fifo 7 ∧ (((bound 7).core 0).fifo 7).length < 8 ∧ 8 ≤ (((bound 8).core 0).fifo 7).length ∧
    ((bound 7).takeEntry 0 (.fifo 7)).isSome = true ∧ ((bound 7).takeEntry 0 (.receive 15)).isSome = true ∧
    ((bound 7).takeEntry 0 .engine).isSome = true ∧ (bound 7).me.sink 3 = .unbound ∧ ((bound 0).core 0).fifo 7 = [] ∧
    okWith (bound 7).drainMine (fun _ => true) = true ∧ okWith ((bound 7).useV [5]) (fun s1 =>
      s1.me.sink 0 == .fifo 7 && okWith s1.drainMine (fun _ => true)) = true := by decide +kernel

/-- Strand 0 waits with a vqred of `bound 7` at the head of the core's queue. -/
def reducing0 : State :=
  ((bound 7).modMe (fun t => { t with park := some .vqred })).modCore 0 (fun k => { k with
    vqueue := [{ strand := 0, instr := .vqred 1 0 2 0, xa := 0, xb := 7, rm := 0, stamp := 0 }] })

/-- The entries that a vqred with a bound of `n` has added, once it has emptied FIFO 7. -/
def added (s : State) (n : Nat) : Nat := (State.reduceAll 1 0 (.fifo 7) n ((s.core 0).sinkLength (.fifo 7)) s).me.rqprog.toNat

theorem test_meets_queueReduction : (bound 7).me.sink 0 ≠ .unbound ∧ ((bound 7).core 0).vqueue = [] ∧
    (bound 7).me.park ≠ some .vqred ∧ okWith ((bound 7).useV [1]) (fun s1 => decide (7 ≤ added s1 7) && decide (added s1 8 < 8)) = true ∧
    ((behind 1).core 0).vqueue ≠ [] ∧ ((behind 1).core 0).vqueue.length < 8 ∧
    reducing0.me.park = some .vqred ∧ reducing0.vqredHead = true ∧
    okWith (reducing0.useV [1]) (fun s1 => decide (7 ≤ added s1 7) && decide (added s1 8 < 8)) = true := by decide +kernel

/-- A launch of the model's tests that has claimed cluster 0. -/
def launch1 : Launch where
  lid := 1
  lpb := []
  satp := 0
  vf := 0
  issuer := 0
  priv := .user
  sum := false
  mxr := false
  issuerCore := 0
  state := .running
  code := 0
  detail := 0
  readyTick := 0
  notBefore := 0
  doneLoc := 0x7000
  doneGen := 1
  preLocs := []
  chips := [0]
  rank := 0
  clusters := [0]
  reports := []
  endedChips := []
  woken := true
  localDone := false
  debugStop := false
  stoppedChips := []
  releases := []
  pendingCode := none

/-- Core 0 runs in that launch, with 256 KiB of scratchpad, and its bench has bins of two records. -/
def keyed (fill : Nat) : State :=
  let s := at0.modCore 0 (fun k => { k with launch := some key1, spad := 256, route := 0 });
  let s := s.modBench 0 (fun h => { h with bin := 0x200000000, fills := if fill = 0 then [] else [(0, fill)] });
  { s with launches := [launch1] }

theorem test_meets_keyBins : (at0.x 0).toNat % 16 = 0 ∧ routeWordOk 0 = true ∧ routeWordOk 0x80 = false ∧
    (keyed 0).binWordOk 0 0x200000000 = true ∧ (keyed 0).binWordOk 0 0 = false ∧ (keyed 0).ready := by
  refine ⟨by decide +kernel, by decide +kernel, by decide +kernel, by decide +kernel, by decide +kernel, ?_⟩
  unfold State.ready
  decide +kernel

theorem test_meets_keySends : (keyed 1).benchClaimed 0 0 = true ∧ ((keyed 1).bench 0).bin ≠ 0 ∧
    binCap ((keyed 1).bench 0).bin = 2 ∧ mapGet 0 ((keyed 1).bench 0).fills 0 = 1 ∧
    mapGet 0 ((keyed 2).bench 0).fills 0 = 2 ∧ at0.benchClaimed 0 0 = false ∧
    (((keyed 1).modBench 0 (fun h => { h with bin := 0 })).bench 0).bin = 0 := by decide +kernel

/-! ## The vector queue, outstanding results, the ordering machine -/

/-- An entry of core 0's vector queue. -/
def vEntry (i : Instr) : VEntry where
  strand := 0
  instr := i
  xa := 0
  xb := 1
  rm := 0
  stamp := 0

/-- Core 0's queue holds a vadd, and lane group 0 of its bench is free. -/
def queued : State :=
  let s := at0.modCore 0 (fun k => { k with vqueue := [vEntry (.vadd 1 2 3 0 0)] });
  let other : Option Bound := some { core := 1, entry := vEntry (.vadd 1 2 3 0 0) };
  s.modBench 0 (fun h => { h with
    deficit := h.deficit.set 0 4, groups := (((h.groups.set 1 other).set 2 other).set 3 other) })

/-- The same entry is bound to lane group 0. -/
def boundEntry : State := at0.modBench 0 (fun h => { h with
  groups := h.groups.set 0 (some { core := 0, entry := vEntry (.vadd 1 2 3 0 0) }) })

/-- v5 of strand 0 must be filled from its image. -/
def unfilled : State := with0 (fun t => { t with vAbsent := 0x20, ctxbase := 0x8000, park := some (.fill 5) })

theorem test_meets_vectorQueueEvents : queued.eligible 0 = [0] ∧ (queued.boundable 0).isSome = true ∧ (queued.bench 0).ptr = 0 ∧
    4 ≤ (queued.bench 0).deficit[0] ∧ (queued.bench 0).groups[0] = none ∧
    (∀ g ∈ [1, 2, 3], ((queued.bench 0).groups[g]?.getD none).isSome = true) ∧
    (boundEntry.bench 0).groups[0] = some { core := 0, entry := vEntry (.vadd 1 2 3 0 0) } ∧
    (unfilled.strand 0 0).vAbsent.getLsbD 5 = true ∧
    okWith (unfilled.translate (unfilled.deviceCtx 0) .load (0x8000 + BitVec.ofNat 64 (0x800 + 256 * 5)) 256) (fun r =>
      okWith (r.1.onDie r.2) (fun s2 => !s2.poisonedAt r.2 && decide ((s2.bench 0).regCache.length < 256) &&
        r.2.length == 256)) = true := by decide +kernel

/-- A doubleword load into x5, with its one part to perform or performed. -/
def loadInto5 (todo : Bool) : Pending where
  dst := .x 5
  todo := if todo then [(0, List.range 8)] else []
  got := List.replicate 8 0
  bits := 64
  signed := false
  window := 4
  queued := false

/-- Strand 0 with that load outstanding. -/
def outstanding (todo : Bool) : State := with0 (fun t => { t with pending := [loadInto5 todo] })

/-- A vqred at the head of core 0's queue, of which `n` additions are done. -/
def reducing (n : Word) : State :=
  let s := (bound 7).modCore 0 (fun k => { k with vqueue := [vEntry (.vqred 1 0 6 0)] });
  { s.modMe (fun t => { t with rqprog := n, park := some .vqred }) with deferred := true }

/-- The same, with an addition bound to lane group 0. -/
def reducingBound : State := (reducing 0).modBench 0 (fun h => { h with
  groups := h.groups.set 0 (some { core := 0, entry := vEntry (.vqred 1 0 6 0) }) })

/-- The same of an atomic addition that takes effect in the L1. -/
def atomicInto5 : Pending := { loadInto5 true with atomic := some { op := .add, operand := 3, use := 0 } }

/-- Strand 0 with that atomic outstanding. -/
def adding : State := with0 (fun t => { t with pending := [atomicInto5] })

theorem test_meets_outstandingResults :
    (outstanding true).mayPerform 0 0 0 (loadInto5 true) (List.range 8) = true ∧
    (loadInto5 true).atomic = none ∧ adding.mayPerform 0 0 0 atomicInto5 (List.range 8) = true ∧
    (adding.strand 0 0).pending[0]?.map (·.todo) = some [(0, List.range 8)] ∧
    ((outstanding true).strand 0 0).pending[0]?.map (·.todo) = some [(0, List.range 8)] ∧
    ((outstanding false).strand 0 0).pending[0]?.map (·.todo) = some [] ∧
    (reducing 1).entryReady 0 (vEntry (.vqred 1 0 6 0)) = true ∧ (reducing 1).vqredGroup 0 = none ∧ reducingBound.vqredGroup 0 = some 0 ∧
    ((reducingBound.freeGroup 0 0).takeEntry 0 ((reducingBound.strand 0 0).sink 0)).isSome = true ∧ (1#64).toNat ≤ ((reducing 1).strand 0 0).rqprog.toNat ∧
    ((reducing 0).strand 0 0).rqprog.toNat < (1#64).toNat ∧
    ((reducing 0).takeEntry 0 (((reducing 0).strand 0 0).sink 0)).isSome = true := by decide +kernel

/-- Strand 0 holds two stores in its buffer. -/
def buffered : State := with0 (fun t => { t with storeBuf := [{ cells := [(0x100, 7), (0x101, 8)] }, { cells := [(0x101, 9)] }] })

theorem test_meets_drains : Memory.wf buffered.mem = true ∧ (buffered.strand 0 0).storeBuf.length = 2 ∧
    buffered.storeHeld 0 0 [0x100, 0x101] = none := by decide +kernel

/-- Line 1 is in the L1 of core 0 and line 2 in the L2 of its die; a store to line 1 has come to the home. -/
def cached : State := { at0 with
  l1 := [{ core := 0, line := 1, scope := 1 }]
  l2 := [{ die := 0, line := 2, vf := 0 }]
  drained := [{ cells := [(0x100, 7)], core := 0, die := 0, reach := .h, engine := false }] }

theorem test_meets_reaches : Memory.wf cached.mem = true ∧ cached.imageOf 1 = none ∧ cached.imageOf 2 = none ∧ cached.imageOf 3 = none ∧
    cached.l1.any (fun x => x.core == 0 && x.line == 1) = true ∧ cached.l1.any (fun x => x.core == 0 && x.line == 2) = false ∧
    (cached.l2.filter (fun x => x.die == dieOf 0 && x.line % 16384 == 1 % 16384)).length < 24 ∧
    cached.l2.any (fun x => x.die == dieOf 0 && x.line == 2) = true ∧ cached.l2.any (fun x => x.die == dieOf 0 && x.line == 3) = false ∧
    (∀ k ∈ cached.cores, k.2.evmode = 0) ∧ Core.reset.evmode = 0 ∧ cached.drained[0]?.map (·.reach) = some .h := by decide +kernel

/-- A strand that waits for a page walk. -/
def walking : State := { with0 (fun t => { t with park := some (.walk 0x1000 false) }) with walks := [(0, 0)] }

/-- The same strand in user mode, with no page mapped. -/
def unmapped : State := (walking.modMe (fun t => { t with priv := .user })).modCore 0 (fun k => { k with satp := 0x9000000000000000 })

/-- A counter of cycles about to wrap, and strand 0 with a counter-access record that was offered at tick 0, 1,024 ticks ago. -/
def wrapping : State :=
  let s := (with0 (fun t => { t with park := some (.counterReply 0xC03 0 0 0 (some 0)) })).modCore 0 (fun k => { k with
    evcnt := k.evcnt.set 1 (BitVec.ofNat 48 (2 ^ 48 - 1)), evsel := k.evsel.set 1 0x101 });
  { s with chip := { s.chip with tick := 1024 } }

theorem test_meets_machineEvents : isRegCache 0x100 = false ∧ isScratch 0x100 = false ∧ isShelf 0x100 = false ∧
    at0.stillRead 0x100 = false ∧ at0.stillRead (regLoc 0 0 5 7) = false ∧ (walking.strand 0 0).park = some (.walk 0x1000 false) ∧
    walking.hasWalker 0 0 = true ∧ unmapped.hasWalker 0 0 = true ∧
    okWith (walking.physical (walking.xctx 0 0) .load 0x1000) (fun _ => true) = true ∧
    (match unmapped.physical (unmapped.xctx 0 0) .load 0x1000 with | .ok _ => false | .error _ => true) = true ∧
    (wrapping.core 0).evcnt[1] = BitVec.ofNat 48 (2 ^ 48 - 1) ∧ isEvent 1 = true ∧ wrapping.runsWorld 0 = true ∧
    wrapping.eventCounts 0 1 = true ∧ (∀ j ∈ [1, 2, 3, 4, 5, 6, 7, 8, 9, 10], (wrapping.strand 0 j).park = none) ∧
    (wrapping.strand 0 0).park = some (.counterReply 0xC03 0 0 0 (some 0)) ∧
    1024 ≤ (wrapping.tick - 0).toNat := by decide +kernel
/-! ## The matrix unit -/

/-- No listed core of the state records the overflows of its counters. -/
def quiet (s : State) : Bool := s.cores.all (fun k => !k.2.evmode.getLsbD 1)

theorem noTrace_of_quiet {s : State} (h : quiet s = true) : NoTrace s := by
  intro c
  have gen : ∀ m : SMap Core, m.all (fun k => !k.2.evmode.getLsbD 1) = true → (mapGet Core.reset m c).evmode.getLsbD 1 = false := by
    intro m
    induction m with
    | nil => intro _; show Core.reset.evmode.getLsbD 1 = false; decide +kernel
    | cons k m ih =>
      intro h
      simp only [List.all_cons, Bool.and_eq_true, Bool.not_eq_true'] at h
      unfold mapGet mapFind
      split
      · exact h.1
      · exact ih h.2
  exact gen _ h

/-- A command may run in `s1`, and `p` holds of what its checks fix. -/
def mayCommand (s s1 : State) (e : MEntry) (p : MCmd → Bool) : Bool :=
  decide (s.cur < 11) && !s.deferred && !s1.deferred && decide (s1.here = s.here) && decide (s1.cur = s.cur) &&
  (s.core s.here).mqueue.isEmpty && (!s.me.pp || (Prefix.ofWord s.me.kpfx).legal) &&
  quiet s && quiet s1 &&
  okWith (matrixCheck (s.claimHeld s.here s.me.mcfgw) (s.core s.here).mprog e) (fun m => s1.holdsGroup s.here m && p m)

theorem ready_of_mayCommand {s s1 : State} {e : MEntry} {p : MCmd → Bool} (h : mayCommand s s1 e p = true) :
    ∃ m, MatrixReady s s1 e m ∧ p m = true := by
  simp only [mayCommand, Bool.and_eq_true, decide_eq_true_eq, Bool.not_eq_true', List.isEmpty_iff] at h
  obtain ⟨⟨⟨⟨⟨⟨⟨⟨⟨h1, h2⟩, h3⟩, h4⟩, h5⟩, h6⟩, h7⟩, q1⟩, q2⟩, h8⟩ := h
  obtain ⟨m, e1, h9⟩ := exists_of_okWith h8
  rw [Bool.and_eq_true] at h9
  exact ⟨m, ⟨h1, ⟨h2, h3⟩, ⟨h4, h5⟩, h6, fun hp => by simpa [hp] using h7, e1, h9.1,
    noTrace_of_quiet q1, noTrace_of_quiet q2⟩, h9.2⟩

/-- Core 0 has claimed sub-array 0 for binary32 operands of one row and one column; K is 1. -/
def claimed0 : State :=
  let s := with0 (fun t => { t with mcfgw := 0x101108001, mkLen := 1 });
  let s := s.modCore 0 (fun k => { k with samask := 1 });
  (s.modBench 0 (fun h => { h with owner := h.owner.set 0 (some 0) })).writeX 6 0x1000

theorem test_meets_matrixRows : ∃ s1 m, claimed0.drainMine = .ok s1 ∧
    MatrixReady claimed0 s1 (claimed0.matrixEntry (.mma 0 6 6 0) 0x1000 0x1000) m ∧
    rowCommand claimed0 (.mma 0 6 6 0) = some (false, false, 0x1000, 0x1000) ∧
    (s1.matrixRetire 0 (claimed0.matrixEntry (.mma 0 6 6 0) 0x1000 0x1000) m).stop = none ∧
    (s1.matrixRetire 0 (claimed0.matrixEntry (.mma 0 6 6 0) 0x1000 0x1000) m).s.holdsGroup 0 m = true := by
  obtain ⟨s1, e1, h⟩ := exists_of_okWith (show okWith claimed0.drainMine (fun s1 =>
    mayCommand claimed0 s1 (claimed0.matrixEntry (.mma 0 6 6 0) 0x1000 0x1000) (fun m =>
      let r := s1.matrixRetire 0 (claimed0.matrixEntry (.mma 0 6 6 0) 0x1000 0x1000) m
      r.stop == none && r.s.holdsGroup 0 m)) = true by decide +kernel)
  obtain ⟨m, hm, h⟩ := ready_of_mayCommand h
  simp only [Bool.and_eq_true, beq_iff_eq] at h
  exact ⟨s1, m, e1, hm, by decide +kernel, h.1, h.2⟩

theorem test_meets_matrixCells :
    mayCommand claimed0 claimed0 (claimed0.matrixEntry (.mzero 1 0) 0 0) (fun _ => true) = true ∧
    okWith (claimed0.useV [2]) (fun s1 =>
      mayCommand claimed0 s1 (claimed0.matrixEntry (.mrd 2 0 0 0) 0 (claimed0.x 0)) (fun _ => true) &&
      mayCommand claimed0 s1 (claimed0.matrixEntry (.mwr 0 2 0) 0 (claimed0.x 0)) (fun _ => true)) = true := by decide +kernel

/-! A coverage image is long, and its witness goes by lemmas. -/

/-- A pass over a list each of whose steps answers. -/
theorem mapM_some {α β : Type} {f : α → Option β} {g : α → β} {l : List α} (h : ∀ a ∈ l, f a = some (g a)) :
    l.mapM f = some (l.map g) := by
  induction l with
  | nil => rfl
  | cons a l ih =>
    simp only [List.mapM_cons, h a (by simp), ih fun b hb => h b (by simp [hb]), List.map_cons]
    rfl

/-- The state with other accesses left to the caches. -/
abbrev used (s : State) (u : List CacheUse) : State := { s with cacheUses := u }

/-- A page of device memory of chip 0 that is reached without translation. -/
theorem bare_page {s : State} {x : XCtx} (hb : x.bare = true) (hc : s.chipNumber = 0) (a : Access) (ld : Nat) (r : XRange)
    (u : List CacheUse) (va n : Nat) (hr : r.s = used s u) (hv : va + n < 65536) :
    ∃ u', XRange.step x a ld r (BitVec.ofNat 64 va, n) =
      { r with s := used s u', locs := r.locs ++ (List.range n).map (va + ·) } ∧ (a = .store → u' = u) := by
  have hva : (BitVec.ofNat 64 va).toNat = va := by simp; omega
  have hw : inWindow (BitVec.ofNat 64 va) = false := by
    have h : 65536 ≤ windowBase := by decide +kernel
    rw [inWindow, hva, decide_eq_false (Nat.not_le.2 (Nat.lt_of_le_of_lt (Nat.le_add_right va n) (Nat.lt_of_lt_of_le hv h)))]
    rfl
  have hm : (List.range n).mapM (fun i => (used s u).paLoc ld (va + i)) = some ((List.range n).map (va + ·)) := by
    apply mapM_some
    intro i hi
    have hi := List.mem_range.1 hi
    have h1 : (va + i) / 2 ^ 42 = 0 := by omega
    have h2 : (va + i) % 2 ^ 42 = va + i := by omega
    have h3 : isDevice (va + i) = true := by
      have : 65536 ≤ Config.deviceBytes := by decide
      simp only [isDevice, decide_eq_true_eq]
      omega
    have hc' : (used s u).chipNumber = 0 := hc
    simp only [State.paLoc, h1, hc', h2, State.localLoc, h3, Bool.true_or, ite_true]
  have hp : (used s u).physical x a (BitVec.ofNat 64 va) = .ok (used s u, va) := by
    have : va < 2 ^ 52 := by omega
    simp only [State.physical, hb, hva, this, if_true]
  have hn : ¬ inWindow (BitVec.ofNat 64 va) = true := by rw [hw]; exact Bool.false_ne_true
  unfold XRange.step
  rw [if_neg hn, hr, hp]
  dsimp only
  rw [hm]
  dsimp only
  cases a
  · exact ⟨_, rfl, by simp⟩
  · exact ⟨_, rfl, fun _ => rfl⟩

/-- Pages of device memory that are reached without translation. -/
theorem bare_pages {s : State} {x : XCtx} (hb : x.bare = true) (hc : s.chipNumber = 0) (a : Access) (ld : Nat)
    (l : List (Nat × Nat)) (hl : ∀ p ∈ l, p.1 + p.2 < 65536) (r : XRange) (u : List CacheUse) (hr : r.s = used s u) :
    ∃ u', (l.map (fun p => (BitVec.ofNat 64 p.1, p.2))).foldl (XRange.step x a ld) r =
      { r with s := used s u', locs := r.locs ++ l.flatMap (fun p => (List.range p.2).map (p.1 + ·)) } ∧
      (a = .store → u' = u) := by
  induction l generalizing r u with
  | nil => exact ⟨u, by simp [← hr], fun _ => rfl⟩
  | cons p l ih =>
    obtain ⟨u1, e1, k1⟩ := bare_page hb hc a ld r u p.1 p.2 hr (hl p (by simp))
    rw [List.map_cons, List.foldl_cons, e1]
    obtain ⟨u2, e2, k2⟩ := ih (fun q hq => hl q (by simp [hq]))
      { r with s := used s u1, locs := r.locs ++ (List.range p.2).map (p.1 + ·) } u1 rfl
    exact ⟨u2, e2.trans (by simp), fun h => (k2 h).trans (k1 h)⟩

/-- The bytes of a range of such pages are reached; a store leaves the state as it was. -/
theorem bare_translate {s : State} {x : XCtx} (hb : x.bare = true) (hc : s.chipNumber = 0) (a : Access) (n : Nat) (va : Word)
    (l : List (Nat × Nat)) (hw : inWindow va = false) (hl : ∀ p ∈ l, p.1 + p.2 < 65536)
    (hp : pageChunks (n / 4096 + 2) va n = l.map (fun p => (BitVec.ofNat 64 p.1, p.2))) :
    ∃ u locs, s.translate x a va n = .ok (used s u, locs) ∧ locs.length = (l.map (·.2)).sum ∧
      (a = .store → u = s.cacheUses) := by
  obtain ⟨u, e, k⟩ := bare_pages hb hc a (s.core x.core).ld.toNat l hl { s := s, locs := [], access := none, page := none }
    s.cacheUses rfl
  simp only [State.translate, hw, hp, Bool.false_eq_true, if_false]
  rw [e]
  exact ⟨u, _, rfl, by simp [List.length_flatMap], k⟩

/-- No unit owns a byte. -/
theorem no_owner {s : State} (locs : List Nat) (hb : ∀ b ∈ s.benches, b.2.owned = [])
    (hk : ∀ k ∈ s.cores, k.2.matrixOwned = []) : s.ownedLine locs = none := by
  have e1 : s.benches.findSome? (fun b => (locs.find? (fun l => b.2.owned.contains (lineNo l))).map lineNo) = none := by
    simp only [List.findSome?_eq_none_iff]
    intro b h
    simp [hb b h]
  simp only [State.ownedLine, e1, List.findSome?_eq_none_iff]
  intro k h
  simp [hk k h]

/-- The bytes that a matrix unit reads of an empty memory. -/
theorem read_zeros {s : State} {x : XCtx} {va : Word} {n : Nat} {locs : List Nat} {u : List CacheUse}
    (ht : s.translate x .load va n = .ok (used s u, locs)) (ho : s.ownedLine locs = none)
    (h1 : s.sealedLines = []) (h2 : s.poisoned = []) (h3 : s.drained = [])
    (h4 : s.mem = []) : s.matrixRead x va n = .ok (used s u, List.replicate locs.length 0#8) := by
  have ho' : (used s u).ownedLine locs = none := ho
  have hm : locs.map ((used s u).byteFor (.core x.core)) = List.replicate locs.length 0#8 := by
    rw [List.eq_replicate_iff]
    refine ⟨by simp, fun b h => ?_⟩
    obtain ⟨l, _, rfl⟩ := List.mem_map.1 h
    simp only [State.byteFor, h3, h4]
    rfl
  have hp : (used s u).poisonedAt locs = false := by simp [State.poisonedAt, h2]
  simp only [State.matrixRead, ht, ho', State.onDie, h1, unsealAll, hp, hm, Bool.false_eq_true, if_false]

theorem leNat_zeros (n : Nat) : leNat (List.replicate n 0#8) = 0 := by
  induction n with
  | zero => rfl
  | succ n ih => simp only [List.replicate_succ, leNat, ih]; rfl

theorem zeros_ok (n : Nat) : imageOk (List.replicate n 0#8) = true := by
  have hn : isNan32 0 = false := by decide +kernel
  simp only [imageOk, recNat, List.drop_replicate, List.take_replicate, leNat_zeros, hn]
  rw [Bool.and_eq_true]
  exact ⟨rfl, List.all_eq_true.2 fun _ _ => rfl⟩

/-- A cvrest of an image of zeros retires. -/
theorem restores {s : State} {c n : Nat} {e : MEntry} {m : MCmd} {a : BitVec 2} {b : BitVec 5} (hi : e.instr = .cvrest a b)
    {u : List CacheUse} (h : s.matrixRead (s.pipeCtx c e) e.xa coverageSize = .ok (used s u, List.replicate n 0#8)) :
    (s.matrixRetire c e m).stop = none ∧ (s.matrixRetire c e m).s = used s u := by
  simp only [State.matrixRetire, hi, State.retireRestore, h, zeros_ok, if_true, and_self]

/-- A cvsave retires. -/
theorem saves {s : State} {c : Nat} {e : MEntry} {m : MCmd} {a : BitVec 2} {b : BitVec 5} {locs : List Nat}
    (hi : e.instr = .cvsave a b) (h : s.translate (s.matrixCtx c e) .store e.xa coverageSize = .ok (s, locs))
    (ho : s.ownedLine locs = none) (h1 : s.sealedLines = []) :
    (s.matrixRetire c e m).stop = none ∧ (s.matrixRetire c e m).s = s ∧ (s.matrixRetire c e m).e.locs = [locs] := by
  simp only [State.matrixRetire, hi, destRows, h, ho, State.onDie, h1, unsealAll, and_self]

theorem claimed0_plain : (∀ b ∈ claimed0.benches, b.2.owned = []) ∧ (∀ k ∈ claimed0.cores, k.2.matrixOwned = []) ∧
    claimed0.sealedLines = [] ∧ claimed0.poisoned = [] ∧ claimed0.drained = [] ∧ claimed0.mem = [] ∧
    claimed0.chipNumber = 0 := by decide +kernel

/-- The pages of an image at 0x1000. -/
def imagePages : List (Nat × Nat) := [(0x1000, 4096), (0x2000, 4096), (0x3000, 4096), (0x4000, 4096), (0x5000, 512)]

theorem imagePages_ok : (∀ p ∈ imagePages, p.1 + p.2 < 65536) ∧ (imagePages.map (·.2)).sum = 0x4200 ∧
    pageChunks (coverageSize / 4096 + 2) 0x1000 coverageSize = imagePages.map (fun p => (BitVec.ofNat 64 p.1, p.2)) := by
  decide +kernel

theorem claimed0_cvrest (m : MCmd) : (claimed0.matrixRetire 0 (claimed0.matrixEntry (.cvrest 0 6) 0x1000 0) m).stop = none ∧
    ∃ u, (claimed0.matrixRetire 0 (claimed0.matrixEntry (.cvrest 0 6) 0x1000 0) m).s = used claimed0 u := by
  obtain ⟨h1, h2, h3, h4, h5, h6, h7⟩ := claimed0_plain
  obtain ⟨u, locs, ht, _⟩ := bare_translate (x := claimed0.pipeCtx 0 (claimed0.matrixEntry (.cvrest 0 6) 0x1000 0))
    (by decide +kernel) h7 .load _ _ _ (by decide) imagePages_ok.1 imagePages_ok.2.2
  obtain ⟨e1, e2⟩ := restores (m := m) rfl (read_zeros ht (no_owner locs h1 h2) h3 h4 h5 h6)
  exact ⟨e1, u, e2⟩

theorem claimed0_cvsave (m : MCmd) : (claimed0.matrixRetire 0 (claimed0.matrixEntry (.cvsave 0 6) 0x1000 0) m).stop = none ∧
    (claimed0.matrixRetire 0 (claimed0.matrixEntry (.cvsave 0 6) 0x1000 0) m).s.drained = [] ∧
    ∃ locs, (claimed0.matrixRetire 0 (claimed0.matrixEntry (.cvsave 0 6) 0x1000 0) m).e.locs = [locs] ∧
      locs.length = 0x4200 := by
  obtain ⟨h1, h2, h3, h4, h5, h6, h7⟩ := claimed0_plain
  obtain ⟨u, locs, ht, hl, hu⟩ := bare_translate (x := claimed0.matrixCtx 0 (claimed0.matrixEntry (.cvsave 0 6) 0x1000 0))
    (by decide +kernel) h7 .store _ _ _ (by decide) imagePages_ok.1 imagePages_ok.2.2
  obtain rfl := hu rfl
  obtain ⟨e1, e2, e3⟩ := saves (m := m) rfl ht (no_owner locs h1 h2) h3
  exact ⟨e1, by rw [e2]; exact h5, locs, e3, by rw [hl]; exact imagePages_ok.2.1⟩

theorem test_meets_matrixStores : okWith claimed0.drainMine (fun s1 => s1 == claimed0) = true ∧
    mayCommand claimed0 claimed0 (claimed0.matrixEntry (.mst 0 6 0 0) 0x1000 0) (fun m =>
      let r := claimed0.matrixRetire 0 (claimed0.matrixEntry (.mst 0 6 0 0) 0x1000 0) m
      r.stop == none && r.s.drained.isEmpty && r.e.locs.all (fun l => l.length == rowBytes (m.cls.rowCode m.fmt1) m.cols)) =
      true ∧
    mayCommand claimed0 claimed0 (claimed0.matrixEntry (.cvsave 0 6) 0x1000 0) (fun _ => true) = true := by decide +kernel

theorem test_meets_coverageUnit :
    mayCommand claimed0 claimed0 (claimed0.matrixEntry (.cvinit 0 0 0) 0 0) (fun _ => true) = true ∧
    mayCommand claimed0 claimed0 (claimed0.matrixEntry (.cvclr 0) 0 0) (fun _ => true) = true ∧
    mayCommand claimed0 claimed0 (claimed0.matrixEntry (.cvcommit 0 0 0) 0 0) (fun _ => true) = true ∧
    okWith (claimed0.useV [2]) (fun s1 =>
      mayCommand claimed0 s1 (claimed0.matrixEntry (.cvprobe 0 2 0) 0 0) (fun _ => true) &&
      mayCommand claimed0 s1 (claimed0.matrixEntry (.cvgain 2 0) 0 0) (fun _ => true) &&
      mayCommand claimed0 s1 (claimed0.matrixEntry (.cvsel 5 0 2) 0 0) (fun _ => true)) = true ∧
    mayCommand claimed0 claimed0 (claimed0.matrixEntry (.cvrest 0 6) 0x1000 0) (fun m => claimed0.holdsGroup 0 m) = true := by
  decide +kernel

theorem test_meets_matrixSetup : claimed0.me.pp = false ∧ (claimed0.core 0).mqueue = [] ∧ quiet claimed0 = true ∧ configBad 0x10 = true ∧
    configBad 0x101108001 = false ∧ (at0.bench 0).owner[0] = none ∧
    (((at0.modBench 0 (fun h => { h with owner := h.owner.set 0 (some 1) })).bench 0).owner[0]) = some 1 ∧
    badSlot 0 = none ∧ badSlot 0xF000 = some 0 := by decide +kernel

/-- That mma in the matrix queue, retired or not. -/
def mmaEntry (retired : Bool) : MEntry where
  strand := 0
  instr := .mma 0 6 6 0
  xa := 0x1000
  xb := 0x1000
  mcfgw := 0x101108001
  mstra := 0
  mstrb := 0
  mkLen := 1
  mrp := 0
  prefixWord := none
  sregVal := 0
  chain := none
  retired := retired
  rowsA := [[0, 0, 0, 0]]
  rowsB := [[0, 0, 0, 0]]
  scales := []
  locs := []
  stamp := 0

/-- The matrix queue of core 0 holds it. -/
def multiplying (retired : Bool) : State := claimed0.modCore 0 (fun k => { k with mqueue := [mmaEntry retired] })

theorem test_meets_matrixQueue :
    ((multiplying false).core 0).mqueue.find? (fun x => !x.retired) = some (mmaEntry false) ∧
    quiet (multiplying false) = true ∧ quiet (multiplying true) = true ∧
    okWith (matrixCheck true (((multiplying false).core 0).programAt 0) (mmaEntry false)) (fun m =>
      let r := (multiplying false).matrixRetire 0 (mmaEntry false) m
      r.stop == none && r.e.strand == 0) = true ∧
    ((multiplying true).core 0).mqueue = [mmaEntry true] ∧ (multiplying true).matrixWaits 0 (mmaEntry true) = false ∧
    okWith (matrixCheck true ((multiplying true).core 0).mprog (mmaEntry true)) (fun _ => true) = true := by decide +kernel

/-! ## Fences, ticks, barriers, count objects -/

/-- The waits of a fence are met, and `p` holds of the state in which the strand's stores have drained. -/
def mayFence (s : State) (scope : Nat) (p : State → Bool) : Bool :=
  decide (s.cur < 11) && !s.me.pp && Memory.wf s.mem && (s.core s.here).mqueue.isEmpty && s.me.pending.isEmpty &&
  okWith s.drainMine (fun s1 => s1.images.isEmpty && p s1) && (scope < 5 || (!s.remoteWaits && (s.core s.here).refusalFor s.cur == none))

theorem ready_of_mayFence {s : State} {scope : Nat} {p : State → Bool} (h : mayFence s scope p = true) :
    ∃ s1, FenceReady s s1 scope ∧ p s1 = true := by
  simp only [mayFence, Bool.and_eq_true, decide_eq_true_eq, Bool.not_eq_true', List.isEmpty_iff, Bool.or_eq_true,
    beq_iff_eq] at h
  obtain ⟨⟨⟨⟨⟨⟨h1, h2⟩, h3⟩, h4⟩, h5⟩, h6⟩, h7⟩ := h
  obtain ⟨s1, e1, hp⟩ := exists_of_okWith h6
  simp only [Bool.and_eq_true, List.isEmpty_iff] at hp
  refine ⟨s1, ⟨⟨h1, h2⟩, h3, by simp [h4], by simp [h5], e1, fun h => ?_, fun _ _ _ _ _ _ _ => by simp [State.imageOf, hp.1]⟩, hp.2⟩
  rcases h7 with h7 | h7
  · omega
  · exact h7

theorem test_meets_fences : ∃ s1, FenceReady buffered s1 6 := by
  obtain ⟨s1, h, _⟩ := ready_of_mayFence (show mayFence buffered 6 (fun _ => true) = true by decide +kernel)
  exact ⟨s1, h⟩

/-- The buffered stores, with x6 the address of a doubleword. -/
def releasing : State := buffered.writeX 6 0x200

theorem test_meets_releases : okWith (releasing.access .store (releasing.x 6) 8) (fun r =>
      syncPlace (releasing.x 6) r.2 && r.2.length == 8 && r.1.here == 0 && r.1.cur == 0 && r.1.me == releasing.me &&
      mayFence r.1 6 (fun s1 => (s1.raiseCore 0 (scopeReach 6)).storeHeld 0 0 r.2 == none)) = true ∧
    (releasing.x 6).toNat % 8 = 0 ∧ okWith (releasing.loadLocs (releasing.x 6) 8) (fun r =>
      syncPlace (releasing.x 6) r.2 && !r.1.deferred) = true ∧ 7 ≤ (7#5).toNat ∧
    ((withX 6 (BitVec.ofNat 64 chipScratchBase)).x 6).toNat % 8 = 0 ∧ inWindow ((withX 6 (BitVec.ofNat 64 chipScratchBase)).x 6) = false ∧
    (∀ a ∈ [Access.load, .store], okWith ((withX 6 (BitVec.ofNat 64 chipScratchBase)).access a (BitVec.ofNat 64 chipScratchBase) 8)
      (fun r => !r.2.all isDevice) = true) := by decide +kernel

theorem test_meets_ticks : at0.me.pending = [] ∧ (at0.x 6).toNat ≤ at0.chip.tick.toNat ∧
    at0.chip.tick.toNat < ((withX 6 1).x 6).toNat ∧
    ((with0 (fun t => { t with park := some (.untilTick 0) })).strand 0 0).park = some (.untilTick 0) := by decide +kernel

/-- A live vpe slot. -/
def slotOf (n : BitVec 24) : Slot where
  vpeid := n
  live := true
  images := []
  sstepcnt := 0
  waiting := none

/-- Core 0 runs slot 0 of `n` live ones, with this channel 4. -/
def atBarrier (n : Nat) (h : Channel) : State :=
  at0.modCore 0 (fun k => { k with slots := (List.range n).map (fun j => slotOf (BitVec.ofNat 24 j)), channels := k.channels.set 4 h })

/-- A channel whose core is a member, and one on which slot 0 has arrived. -/
def memberChannel : Channel := { Channel.reset with member := 1 }
def arrivedChannel : Channel := { Channel.reset with member := 1, arrived := [(0, 0)], sent := some 0 }

/-- What the arrival on level 4 finds. -/
def barrierFound (s : State) : Bool :=
  s.cur == 0 && !s.me.pp && s.me.park.isNone && !((s.core 0).channel (s.channelOf 0 4)).hasArrived (s.core 0).slot &&
  okWith (s.fence ((s.core 0).channel 4).scope) (fun s1 =>
    decide (s1.core 0 = { s.core 0 with strands := (s1.core 0).strands }) && s1.here == 0 && s1.cur == 0 && s1.tick == s.tick &&
    s1.me.park.isNone)

/-- The live slots other than the running one that have not arrived. -/
def othersOf (s : State) : List Nat :=
  (s.core 0).liveSlots.filter (fun j => j != (s.core 0).slot && !((s.core 0).channel 4).hasArrived j)

theorem test_meets_barriers_arrive : at0.channelOf 0 4 = 4 ∧ barrierFound (atBarrier 2 memberChannel) = true ∧
    othersOf (atBarrier 2 memberChannel) = [1] ∧ barrierFound (atBarrier 1 memberChannel) = true ∧
    othersOf (atBarrier 1 memberChannel) = [] ∧ memberChannel.isMember = true ∧ memberChannel.sent = none ∧
    barrierFound (atBarrier 1 Channel.reset) = true ∧
    okWith ((atBarrier 1 Channel.reset).fence Channel.reset.scope) (fun s1 => s1.me.park.isNone) = true ∧ Channel.reset.isMember = false ∧ Channel.reset.later = [] ∧
    4 < (5#5).toNat ∧ (4#5).toNat ≤ 4 := by decide +kernel

/-- The same core with a live helper. -/
def withHelper (s : State) : State := s.modStrand 0 1 (fun t => { t with status := .live })

/-- The same core with a helper that is ENDING. -/
def endingHelper (s : State) : State := s.modStrand 0 1 (fun t => { t with status := .ending })

theorem test_meets_barriers_wait :
    (((atBarrier 1 arrivedChannel).core 0).channel 4).hasArrived 0 = true ∧
    (withHelper (atBarrier 1 arrivedChannel)).helpersAlive = true ∧ (withHelper at0).helpersLive = true ∧
    (withHelper at0).resultsIn 0 0 = true ∧ at0.helpersLive = false ∧ (endingHelper (atBarrier 2 memberChannel)).helpersLive = false ∧
    at0.resultsIn 0 0 = true ∧ (at0.core 0).mqueue = [] ∧
    (at0.core 0).slotAt (at0.core 0).slot = none ∧ okWith (at0.fence 3) (fun s1 => s1.me.instret == at0.me.instret &&
      s1.me.fpc == at0.me.fpc && s1.here == 0 && s1.cur == 0) = true ∧
    ((((atBarrier 1 memberChannel).modCore 0 (fun k => k.modSlot 0 (fun x => { x with waiting := some 4 }))).core 0).slotAt 0).map
      (·.waiting) = some (some 4) ∧
    (((endingHelper (atBarrier 2 memberChannel)).core 0).slotAt 0).map (·.waiting) = some none ∧
    barrierFound (endingHelper (atBarrier 2 memberChannel)) = true ∧
    othersOf (endingHelper (atBarrier 2 memberChannel)) = [1] ∧
    okWith ((endingHelper (atBarrier 2 memberChannel)).fence 3) (fun s1 => s1.helpersAlive) = true := by decide +kernel

/-- The same core in the launch of the tests. -/
def inLaunch (s : State) : State :=
  { s.modCore 0 (fun k => { k with launch := some key1 }) with launches := [launch1] }

theorem test_meets_barrierGroups :
    let s := inLaunch (atBarrier 1 arrivedChannel)
    s.groupMembers 0 4 = [0] ∧ ((s.core 0).channel 4).span ≠ 2 ∧ ((s.core 0).channel 4).sent.isSome = true ∧
    (s.core 0).debugStopped = false ∧ (s.core 0).liveSlots ≠ [] ∧ ((s.core 0).channel 4).later = [] ∧
    ((s.core 0).channel 4).log = 0 ∧ (s.strand 0 0).park = none ∧
    (inLaunch (atBarrier 1 memberChannel)).groupMembers 0 4 = [0] ∧ (((atBarrier 1 memberChannel).core 0).channel 4).sent = none ∧
    field (0x104#64) 0 3 = 4 ∧ field (0x304#64) 8 2 = 3 ∧ field (0x005#64) 0 3 = 5 ∧ s.cur = 0 ∧ s.me.pp = false := by decide +kernel

/-- A count object of generation 3 at 0x1000 with REMAIN `n`, and x6 and x7 as an arrival has them. -/
def counting (magic n gen : Nat) : State :=
  { (withX 6 0x1000).writeX 7 (BitVec.ofNat 64 gen) with
    mem := if magic = 0 then [] else (if n = 0 then [] else [(0x1008, BitVec.ofNat 8 n)]).foldr (fun c m => m ++ [c])
      [(0x1000, 0x4B), (0x1001, 0x43), (0x1002, 0x4E), (0x1003, 0x54), (0x1004, 3)] }

/-- What an instruction on that object finds, with its object. -/
def countFound (s : State) (p : State → Bool) : Bool :=
  s.cur == 0 && !s.me.pp && s.me.park.isNone && !s.deferred && decide ((s.x 6).toNat % 64 = 0) &&
  okWith (s.access .store (s.x 6) 32) (fun r => r.2.all isDevice && r.2.headD 0 == 0x1000 && !r.1.deferred && r.1.me == s.me &&
    r.1.here == 0 && r.1.cur == 0 && p (r.1.atHome 0x1000 32) &&
    okWith (r.1.fence 4) (fun s2 => s2.launches.isEmpty && s.launches.isEmpty && s2.decremented.isEmpty && s2.me.fpc == s.me.fpc &&
      s2.me.instret == s.me.instret && s2.here == 0 && s2.cur == 0 && p (s2.atHome 0x1000 32)))

theorem test_meets_countObjects :
    countFound (counting 0 0 3) (fun o => o.coMagic 0x1000 == 0) = true ∧
    countFound (counting 1 2 4) (fun o => o.coMagic 0x1000 == 0x544E434B && o.coGen 0x1000 == 3) = true ∧
    countFound (counting 1 0 3) (fun o => o.coGen 0x1000 == 3 && o.coRemain 0x1000 == 0) = true ∧
    countFound (counting 1 2 3) (fun o => o.coGen 0x1000 == 3 && o.coRemain 0x1000 == 2) = true := by decide +kernel

/-- The strand parked in abwait on that object, of generation 3. -/
def waitingFor (n gen : Nat) : State := (counting 1 n gen).modMe (fun t => { t with park := some (.countObject 0x1000 3) })

theorem test_meets_countObjectWaits : (waitingFor 0 3).cur = 0 ∧ (waitingFor 0 3).me.pp = false ∧ (waitingFor 0 3).deferred = false ∧
    (waitingFor 0 3).me.park = some (.countObject 0x1000 3) ∧ ((waitingFor 0 3).atHome 0x1000 32).coRemain 0x1000 = 0 ∧
    ((waitingFor 2 4).modMe (fun t => { t with park := some (.countObject 0x1000 4) })).me.park = some (.countObject 0x1000 4) ∧
    ((waitingFor 2 4).atHome 0x1000 32).coGen 0x1000 ≠ 4 ∧ ((waitingFor 2 3).atHome 0x1000 32).coRemain 0x1000 ≠ 0 ∧
    ((waitingFor 2 3).atHome 0x1000 32).coGen 0x1000 = 3 := by decide +kernel

/-- Strand 0 with x6 a doubleword's address, and its watch on the line, fired or not. -/
def watching (fired : Bool) : State :=
  { withX 6 0x1000 with watches := [{ core := 0, strand := 0, line := 0x10, fired := fired }] }

theorem test_meets_watchedWords : okWith ((withX 6 0x1000).loadLocs 0x1000 8) (fun r => r.1.watches.isEmpty &&
      r.1.here == 0 && r.1.cur == 0 &&
      BitVec.ofNat 64 (leNat (r.2.map (r.1.readByte (.strand 0 0)))) == at0.x 7 &&
      BitVec.ofNat 64 (leNat (r.2.map (r.1.readByte (.strand 0 0)))) != (withX 7 1).x 7) = true ∧
    okWith ((watching true).loadLocs 0x1000 8) (fun r => r.1.watches.any (fun w => w.fired && w.core == 0 && w.strand == 0)) = true ∧
    (((watching true).modMe (fun t => { t with park := some .watchWord })).strand 0 0).park = some .watchWord := by decide +kernel

/-! ## Calls, helpers, contexts, worlds -/

/-- A fetch of function 1 by core 0. -/
def fetch1 : Fetch where
  digest := 1
  vf := 0
  portOnly := false
  accept := none
  core := 0
  executive := false
  entry := []
  next := 1
  peer := 0
  held := none
  install := none

/-- Function 0 with a call at its start and one import, the handle of function 0 itself; function 1 is being fetched. -/
def calling (w : Nat) : State :=
  let s := (State.reset.place 32 w).modCore 0 (fun k => { k with
    fdir := 0x1000, nfdir := 2, modtab := 0x2000, nmod := 1, helpers := 2, launch := some key1 });
  let s := s.modCluster 0 (fun k => { k with fetches := [fetch1], dir := [(0, { placedEntry 32 w with nwp := 1 })] });
  { (s.writeX 6 0x1040).writeX 7 0x1000 with
    mem := [(0x1022, 1), (0x102C, 1), (0x1031, 0x30), (0x1040, 1), (0x1062, 1), (0x1068, 1), (0x2001, 0x50), (0x3001, 0x10)] }

/-- What a call through a handle finds: the record, the waypoint of a call that links, the data base, and the state then. -/
def callFound (s s1 : State) (h : Word) (link : Bool) (p : State → List Byte → Bool) : Bool :=
  okWith (s1.checkHandle s1.ctx s1.cur h) (fun q => (!link || okWith s.callWaypoint (fun _ => true)) &&
    okWith (q.1.dataBase q.1.ctx q.1.cur q.2) (fun u => u.1.here == s.here && u.1.cur == s.cur && p u.1 q.2))

/-- The call of import 0, and the call through x6. -/
theorem test_meets_calls_resident : okWith (calling 0x0000008B).currentRecord (fun r => decide (0 < recNimp r.2) &&
    okWith (r.1.readData r.1.ctx r.1.cur (recImph r.2 + BitVec.ofNat 64 (8 * 0)) 8) (fun q =>
      BitVec.ofNat 64 (leNat q.2) == 0x1000 && callFound (calling 0x0000008B) q.1 0x1000 true (fun u r =>
        ((u.cluster 0).lookup (recDigest r) (u.core 0).vfNow).isSome))) = true ∧
    (calling 0x0000008B).resultsIn 0 0 = true := by decide +kernel

theorem test_meets_calls_missing : okWith (calling 0x0003108B).currentRecord (fun r =>
    callFound (calling 0x0003108B) r.1 ((calling 0x0003108B).x 6) true (fun u r =>
      ((u.cluster 0).lookup (recDigest r) (u.core 0).vfNow).isNone &&
      ((u.cluster 0).fetch (recDigest r) (u.core 0).vfNow).isSome)) = true := by decide +kernel

theorem test_meets_calls_bad : okWith (calling 0x0000108B).currentRecord (fun r =>
    match r.1.checkHandle r.1.ctx r.1.cur 0 with
    | .error (.trap c v _) => c == causeCallHandle && v == 0
    | _ => false) = true := by decide +kernel

/-- A return handle: directory index 0, waypoint 1. -/
abbrev returnTo : Word := 0x1000000

theorem test_meets_returns : returnTo ≠ exitHandle ∧ returnTo.toNat / 2 ^ 40 < ((calling 0x0000008B).core 0).nfdir ∧
    returnTo.toNat / 2 ^ 24 % 2 ^ 16 = 1 ∧
    okWith ((calling 0x0000008B).readData (calling 0x0000008B).ctx 0 (((calling 0x0000008B).core 0).handle 0) 64) (fun q =>
      recValid q.2 && decide (returnTo.toNat % 2 ^ 24 = (recDigest q.2).toNat % 2 ^ 24) &&
      okWith (q.1.dataBase q.1.ctx q.1.cur q.2) (fun u =>
        match (u.1.cluster 0).lookup (recDigest q.2) (u.1.core 0).vfNow with
        | some e => decide (1 ≤ e.2.nwp)
        | none => false)) = true ∧
    ((calling 0x0000008B).core 0).nfdir ≤ (0x20000000000#64).toNat / 2 ^ 40 := by decide +kernel

theorem test_meets_helpers_start : (calling 0).x 7 = 0x1000 ∧
    okWith ((calling 0).checkHandle (calling 0).ctx 0 0x1000) (fun q => q.1.here == 0 && q.1.cur == 0 &&
      (q.1.core 0).helpers == 2 && (q.1.strand 0 1).status == .free &&
      okWith (q.1.dataBase q.1.ctx q.1.cur q.2) (fun u => okWith u.1.drainMine (fun s3 => s3.here == 0 && s3.cur == 0))) = true ∧
    okWith (((calling 0).modStrand 0 1 (fun t => { t with status := .live })).modStrand 0 2 (fun t =>
      { t with status := .ending }) |>.checkHandle (calling 0).ctx 0 0x1000) (fun q =>
        (q.1.strand 0 1).status != .free && (q.1.strand 0 2).status != .free && (q.1.core 0).helpers == 2) = true := by
  decide +kernel

/-- Helper 1 of core 0 issues. -/
def helping : State :=
  { at0.modStrand 0 1 (fun t => { t with status := .live, pos := .inForm 0 }) with cur := 1 }

theorem test_meets_helpers_end : 0 < helping.cur ∧ helping.cur < 11 ∧ helping.resultsIn 0 1 = true ∧
    (helping.core 0).mqueue = [] ∧ (helping.writeX 6 exitHandle).x 6 = exitHandle ∧ helping.me.storeBuf = [] ∧
    helping.deferred = false ∧ ({ helping with deferred := true } : State).deferred = true := by decide +kernel

theorem test_meets_helpers_join : ((withX 6 0).x 6).toNat = 0 ∧ 10 < ((withX 6 11).x 6).toNat ∧ (at0.strand 0 10).status = .free ∧
    (helping.strand 0 1).status ≠ .free ∧
    (let s := at0.modStrand 0 1 (fun t => { t with status := .ending })
     (s.strand 0 1).status = .ending ∧ (s.strand 0 1).pending = [] ∧ s.vectorIdle 0 1 = true ∧ (s.strand 0 1).storeBuf = []) ∧
    (11#5).toNat < 12 ∧ (12#5).toNat ≥ 12 ∧ (16#5).toNat = 16 := by decide +kernel

/-- A core whose strand 0 names strand 1 in x6; its image is at 0x2000. -/
def imaging : State := (withX 6 2).modStrand 0 1 (fun t => { t with ctxbase := 0x1C00 })

/-- The pages of the image of strand 1. -/
def ctxPages : List (Nat × Nat) := [(0x2000, 4096), (0x3000, 4096), (0x4000, 1024)]

theorem ctxPages_ok : (∀ p ∈ ctxPages, p.1 + p.2 < 65536) ∧ (ctxPages.map (·.2)).sum = 0x2400 ∧
    pageChunks (0x2400 / 4096 + 2) ((imaging.strand 0 1).ctxbase + 0x400) 0x2400 =
      ctxPages.map (fun p => (BitVec.ofNat 64 p.1, p.2)) := by
  decide +kernel

/-- The strand of the mask is no longer held. -/
def released : State := imaging.modStrand 0 1 (fun x => { x with onHold := false })

theorem test_meets_contexts_holds : imaging.me.priv ≠ .user ∧ (imaging.core 0).mqueue = [] ∧
    (imaging.modStrand 0 1 (fun t => { t with pending := [loadInto5 true] })).standsStill 0 1 = false := by decide +kernel

/-- Its image is noted. -/
def imaged : State := (used released released.cacheUses).noteImageAt released.imageCtx.core (imaging.strand 0 1).ctxbase

theorem imaged_plain : (imaged.drainAll 0 1).sealedLines = [] ∧ (imaged.drainAll 0 1).me = imaging.me ∧
    (imaged.drainAll 0 1).here = 0 ∧ (imaged.drainAll 0 1).cur = 0 := by decide +kernel

theorem released_reach {locs : List Nat}
    (ht : released.translate released.imageCtx .store ((imaging.strand 0 1).ctxbase + 0x400) 0x2400 =
      .ok (used released released.cacheUses, locs)) :
    released.imageReach released.imageCtx .store (imaging.strand 0 1).ctxbase = .ok (imaged, locs) := by
  unfold State.imageReach imaged
  rw [ht]

theorem test_meets_contexts_flush : ∃ s1 s2 locs, imaging.me.priv ≠ .user ∧ (imaging.core 0).mqueue = [] ∧
    imaging.standsStill 0 1 = true ∧ imaging.x 6 = BitVec.ofNat 64 (2 ^ 1) ∧
    released.imageReach released.imageCtx .store (imaging.strand 0 1).ctxbase = .ok (s1, locs) ∧
    (s1.drainAll 0 1).onDie locs = .ok s2 ∧ locs.length = 0x2400 ∧ s2.me = imaging.me ∧ s2.here = 0 ∧ s2.cur = 0 := by
  obtain ⟨u, locs, ht, hl, hu⟩ := bare_translate (s := released) (x := released.imageCtx) (by decide +kernel) (by decide +kernel)
    .store 0x2400 ((imaging.strand 0 1).ctxbase + 0x400) ctxPages (by decide +kernel) ctxPages_ok.1 ctxPages_ok.2.2
  rw [hu rfl] at ht
  refine ⟨imaged, imaged.drainAll 0 1, locs, by decide +kernel, by decide +kernel, by decide +kernel, by decide +kernel,
    released_reach ht, by rw [State.onDie, imaged_plain.1, unsealAll], by rw [hl]; exact ctxPages_ok.2.1, imaged_plain.2⟩

theorem test_meets_contexts_load : (imaging.strand 0 1).status ≠ .live ∧
    okWith (imaging.translate imaging.imageCtx .load ((imaging.strand 0 1).ctxbase + 0x400) 0x400) (fun r =>
      r.2.length == 0x400 && okWith ((r.1.noteImageAt 0 (imaging.strand 0 1).ctxbase).onDie r.2) (fun s2 => s2.me == imaging.me && s2.here == 0 && s2.cur == 0 &&
        [0x208, 0x209, 0x20A].all (fun k => s2.readByte (.strand 0 0) (locAt r.2 k) == 0))) = true ∧
    (imaging.modMe (fun t => { t with priv := .user })).me.priv = .user := by decide +kernel

/-- Strand 0 of server core 0 in machine mode, with x6 core 16 and x7 a world descriptor at 0x1000. -/
def switching (d : Word) (good : Bool) : State :=
  { (withX 6 16).writeX 7 d with mem := if good then [(0x1000, 0x4B), (0x1001, 0x57), (0x1002, 0x4C), (0x1003, 0x44), (0x1009, 0x20)] else [] }

theorem test_meets_worldSwitches : at0.me.priv = .machine ∧ at0.isServer 0 = true ∧ at0.resultsIn 0 0 = true ∧
    (at0.core 0).mqueue = [] ∧ user0.me.priv ≠ .machine ∧ 4096 ≤ ((withX 6 4096).x 6).toNat ∧ at0.isServer 0 = true ∧
    at0.isServer 16 = false ∧ (0x1001#64).toNat % 64 ≠ 0 ∧ at0.canStop 16 = true ∧ (at0.core 16).wdesc = 0 ∧
    (at0.modStrand 16 0 (fun t => { t with status := .live, pending := [loadInto5 true] })).canStop 16 = false ∧
    okWith ((switching 0x1000 false).readData (switching 0x1000 false).ctx 0 0x1000 128) (fun r =>
      leNat (r.2.take 4) != 0x444C574B) = true := by decide +kernel

theorem test_meets_worldSwitches_loads :
    okWith ((switching 0x1000 true).readData (switching 0x1000 true).ctx 0 0x1000 128) (fun r =>
      let desc := r.2
      let u := ((r.1.modCore 16 (fun k => { k with stopping := false })).modBench (benchOf 16) (fun b =>
        { b with regCache := b.regCache.filter (fun l => l.core != 16 || l.out.isSome) })).haltCore 16
      !descriptorBad desc && r.1.canStop 16 && (r.1.core 16).wdesc == 0 &&
      okWith (u.readData u.ctx u.cur 0x1000 128) (fun w => w.2 == desc && okWith (w.1.readData w.1.ctx w.1.cur (recWord desc 8) 88) (fun q =>
        let s4 := q.1.modCore 16 (fun k => { k with
          vf := BitVec.ofNat 6 (recNat desc 4 1), ld := BitVec.ofNat 4 (recNat desc 5 1), keyslot := recNat desc 6 2,
          evsel := Vector.ofFn (fun (n : Fin 4) => recWord desc (0x10 + 8 * n.val)),
          evcnt := Vector.ofFn (fun (n : Fin 4) => BitVec.ofNat 48 (recNat desc (0x30 + 8 * n.val) 6)),
          evallow := Vector.ofFn (fun (n : Fin 4) => recWord desc (0x50 + 8 * n.val)), evmode := recWord desc 0x70,
          ovf := BitVec.ofNat 4 (recNat desc 0x78 1), wdesc := 0x1000 })
        let s5 := (List.range 11).foldl (fun (u : State) n =>
          u.modStrand 16 n (fun x => { x with ctxbase := recWord q.2 (8 * n) })) s4
        okWith (s5.loadStrands s5.imageCtx 16 ((List.range 11).map (fun n => (n, recWord q.2 (8 * n)))) true) (fun _ => true)))) = true := by
  decide +kernel

/-! ## Services, system calls, the shelf -/

/-- The first 32 bytes of a packet with a service and arguments, by words. -/
def packetOf (service : Nat) (args : List Nat) : Packet where
  bytes := leBytes 8 service ++ args.flatMap (leBytes 8) ++ List.replicate (56 - 8 * args.length) 0
  ticket := 5
  strong := false
  strand := 0

/-- Core 0 has queued a packet; its logical device has accepted Ethernet and storage, and has queue pair 1. -/
def served (service : Nat) (args : List Nat) : State :=
  let s := at0.modCore 0 (fun k => { k with syscalls := [packetOf service args], ticket := 6 });
  let s := s.modLd 0 (fun d => { d with accept := 0xC });
  { s with qps := [{ ld := 0, number := 1, srq := 2, queue := 0, error := false, sends := [7], reliable := true }],
           srqBuffers := [{ ld := 0, srq := 2, locs := [0x500, 0x501], cookie := 9 }] }

/-- The packet stands in its queue and may be served. -/
def servesNow (s : State) (service : Nat) (p : Packet) : Bool :=
  decide ((s.core 0).syscalls.find? (fun q => q.ticket == 5) = some p) && recNat p.bytes 0 2 == service &&
  recNat p.bytes 2 6 == 0 && (s.ld (s.core 0).ld.toNat).serves service &&
  mayServe ((s.core 0).syscalls.takeWhile (fun q => q.ticket != 5)) p

/-- Core 0 translates; its tables lead to the leaf table of the pages from 0, in which page 5 is mapped or not. -/
def tabled (leaf : Bool) (service n : Nat) : State :=
  let s := (served service [0x5000, n]).modCore 0 (fun k => { k with satp := 0x9000000000000010 });
  { s with mem := [(0x10000, 1), (0x10001, 0x44), (0x11000, 1), (0x11001, 0x48), (0x12000, 1), (0x12001, 0x4C)] ++
             (if leaf then [(0x13028, 0xD7), (0x13029, 0x80)] else []) }

theorem test_meets_services : servesNow (served 1 []) 1 (packetOf 1 []) = true ∧
    recNat (packetOf 0x10001 []).bytes 2 6 ≠ 0 ∧ (at0.ld 0).serves 0x20 = false ∧ recNat (packetOf 0x20 []).bytes 2 6 = 0 ∧
    servesNow (served 0x10 [0x800000000001, 0]) 0x10 (packetOf 0x10 [0x800000000001, 0]) = true ∧
    rangeCanonical (recWord (packetOf 0x10 [0x800000000001, 0]).bytes 8) 0 = false ∧
    servesNow (served 0x11 [0x800000000001, 0]) 0x11 (packetOf 0x11 [0x800000000001, 0]) = true := by decide +kernel

theorem test_meets_services_no_bytes :
    servesNow (tabled false 0x10 0) 0x10 (packetOf 0x10 [0x5000, 0]) = true ∧
    servesNow (tabled false 0x11 0) 0x11 (packetOf 0x11 [0x5000, 0]) = true ∧
    ((tabled false 0x10 0).core 0).mappable 0x5000 0 = true ∧
    ((tabled false 0x10 0).shootAll (((tabled false 0x10 0).core 0).rangeShootdown 0 0)).isSome = true ∧
    ((tabled false 0x11 0).shootAll (((tabled false 0x11 0).core 0).rangeShootdown 0 0)).isSome = true := by decide +kernel

theorem test_meets_services_map : servesNow (tabled false 0x10 16) 0x10 (packetOf 0x10 [0x5000, 16]) = true ∧
    ((tabled false 0x10 16).core 0).mappable 0x5000 16 = true ∧
    (match (tabled false 0x10 16).mapPages 0x10 [0x5000#64] [0x20] with
      | some s1 => (s1.shootAll (((tabled false 0x10 16).core 0).rangeShootdown 0x5000 4096)).isSome
      | none => false) = true := by decide +kernel

theorem test_meets_services_unmap : servesNow (tabled true 0x11 4096) 0x11 (packetOf 0x11 [0x5000, 4096]) = true ∧
    ((tabled true 0x11 4096).core 0).mappable 0x5000 4096 = true ∧
    (match (tabled true 0x11 4096).walkFrom (dieOf 0) 5 3 0x10 with
      | .ok l => l.sizeBits == 12 && (((tabled true 0x11 4096).commitSystem (cellsAt l.loc (List.replicate 8 0))).shootAll
          (((tabled true 0x11 4096).core 0).rangeShootdown 0x5000 4096)).isSome
      | .error _ => false) = true := by decide +kernel

theorem test_meets_services_buffers :
    servesNow (served 0x20 [1, 0x600, 4, 3]) 0x20 (packetOf 0x20 [1, 0x600, 4, 3]) = true ∧
    ((served 0x20 [1, 0x600, 4, 3]).qps.find? (fun q => q.ld == 0 && q.number == 1)).isSome = true ∧
    ((served 0x20 [1, 0x600, 4, 3]).serviceBytes 0 [] 0x600 4).isSome = true ∧
    servesNow (served 0x21 [2, 0x600, 4, 3]) 0x21 (packetOf 0x21 [2, 0x600, 4, 3]) = true ∧
    ((served 0x21 [2, 0x600, 4, 3]).serviceLocs 0 .store 0x600 4).isSome = true ∧
    servesNow (served 0x30 [1, 0, 0x600, 4]) 0x30 (packetOf 0x30 [1, 0, 0x600, 4]) = true ∧
    ((served 0x30 [1, 0, 0x600, 4]).serviceLocs 0 .store 0x600 4).isSome = true ∧
    servesNow (served 0x31 [1, 0, 0x600, 4]) 0x31 (packetOf 0x31 [1, 0, 0x600, 4]) = true ∧
    ((served 0x31 [1, 0, 0x600, 4]).serviceBytes 0 [] 0x600 4).isSome = true ∧
    (packetOf 0x30 []).strong = false ∧ ((served 0x20 [1, 0x600, 4, 3]).serviceLocs 0 .load 0x600 4).isSome = true ∧
    ((served 0x31 [1, 0, 0x600, 4]).serviceLocs 0 .load 0x600 4).isSome = true ∧ (0x600 % 32 + 0) / 32 = 0 := by decide +kernel

/-- The logical device is bound to a host. -/
def bindings (service : Nat) : State := (served service []).modLd 0 (fun d => { d with bound := true })

theorem test_meets_services_pairs : ((bindings 0).ld 0).bound = true ∧ ((served 1 []).ld 0).bound = false ∧ (served 1 []).qps.Nodup ∧ (served 1 []).srqBuffers.Nodup ∧
    ((served 1 []).qps.map (·.sends)) = [[7]] ∧ ((served 1 []).posted 0 2).length = 1 ∧
    ({ served 1 [] with srqBuffers := [] }.commitSystem [(0x500, 1)]).queueBlocks 0 0 = [] ∧
    ({ served 1 [] with qps := (served 1 []).qps.map (fun q => { q with error := true }) } : State).qps.map (·.error) =
      [true] := by
  decide +kernel

/-- Logical device 0 has one queue for the host at 0x800, of two records at 0xA00, with PI 5; x6 holds 0x600, where the bytes
of a record of kind 0x100 stand, x7 the number of a queue and x8 the address of a record of a device kind. -/
def queued1 (ci queue : Nat) : State :=
  let s := (((served 1 []).writeX 6 0x600).writeX 7 (BitVec.ofNat 64 queue)).writeX 8 0x640;
  { s.modLd 0 (fun d => { d with nqueues := 1, queues := 0x800 }) with
    mem := [(0x601, 1), (0x640, 1), (0x801, 0xA), (0x808, 1), (0x810, 5), (0x814, BitVec.ofNat 8 ci)] }

theorem test_meets_systemCalls : (queued1 5 0).ready ∧ okWith ((queued1 5 0).loadNow 0x600 64) (fun r =>
      r.1.here == 0 && r.1.cur == 0) = true ∧ ((queued1 5 0).core 0).syscalls.length < 32 ∧
    32 ≤ ((at0.modCore 0 (fun k => { k with syscalls := List.replicate 32 (packetOf 1 []) })).core 0).syscalls.length ∧
    (∀ p, p ∈ ((queued1 5 0).core 0).syscalls → p.ticket ≠ 9) ∧ (packetOf 1 []).ticket = 5 ∧
    (at0.core 0).evmode.getLsbD 1 = false := by
  refine ⟨?_, by decide +kernel⟩
  unfold State.ready
  decide +kernel

theorem test_meets_systemCalls_records : (queued1 5 1).queueBlocks 0 0 = [0x800] ∧
    okWith ((queued1 5 0).loadNow 0x600 32) (fun r => r.1.queueBlocks 0 0 == [0x800] && recNat r.2 0 2 == 0x100 &&
      okWith (r.1.fence 6) (fun _ => true)) = true ∧
    okWith ((queued1 5 0).loadNow 0x640 32) (fun r => r.1.queueBlocks 0 0 == [0x800] && recNat r.2 0 2 == 1) = true := by
  decide +kernel

theorem test_meets_records : (queued1 5 0).readNat .device 0x808 1 = 1 ∧ (queued1 5 0).readNat .device 0x810 4 = 5 ∧
    (queued1 5 0).readNat .device 0x814 4 = 5 ∧ (queued1 3 0).readNat .device 0x814 4 = 3 ∧
    (5 + 2 ^ 32 - 3) % 2 ^ 32 = 2 ^ 1 ∧ (queued1 5 0).readNat .device 0x800 8 = 0xA00 ∧
    ((at0.modCore 0 (fun k => { k with evmode := 0x4002 })).core 0).evmode.getLsbD 1 = true ∧
    isDevice (0x4000 + 7) = true ∧ isDevice (0x4000 + 32 + 31) = true := by decide +kernel

/-- The code shelf of cluster 0 as placed, its one entry changed; x6 holds a slot of zeros, x7 a selector. -/
def shelved (f : DirEntry → DirEntry) (sel : Nat) : State :=
  (((withX 6 0x40).writeX 7 (BitVec.ofNat 64 sel)).modCluster 0 (fun k => { k with
    dir := k.dir.map (fun e => (e.1, f e.2)), cdlim := 64 }))

/-- Strand 0 runs in server code outside the shelf's entry, whose digest is 0. -/
def outside (f : DirEntry → DirEntry) : State := (shelved f 0).modMe (fun t => { t with pos := .inForm 9 })

/-- What an instruction that reads a digest finds. -/
def shelfFound (s : State) (p : State → Option (Nat × DirEntry) → Bool) : Bool :=
  okWith (s.loadNow 0x40 32) (fun r => r.1.here == 0 && decide (r.1.cluster 0 = s.cluster 0) &&
    r.1.myCore.vfNow == s.myCore.vfNow && p r.1 ((s.cluster 0).lookup (BitVec.ofNat 256 (leNat r.2)) s.myCore.vfNow))

theorem test_meets_shelf_images : ((mapFind ((shelved id 0).cluster 0).dir 0).isSome && (shelved id 0).me.priv == .machine &&
      okWith ((shelved id 0).storeBytes 0x40 (placedEntry 32 0x13).image) (fun _ => true) &&
      (mapFind ((shelved id 5).cluster 0).dir 5).isNone &&
      okWith ((shelved id 5).storeBytes 0x40 (List.replicate 64 0)) (fun _ => true)) = true := by decide +kernel

theorem test_meets_shelf_entries :
    (shelfFound (outside id) (fun u f => f.isSome && !u.executed 0 0) &&
      shelfFound (outside (fun d => { d with pinned := true })) (fun _ f => (f.map (·.2.pinned)) == some true) &&
      shelfFound (outside (fun d => { d with hold := true })) (fun _ f => (f.map (·.2.hold)) == some true) &&
      shelfFound (outside (fun d => { d with digest := 3 })) (fun _ f => f.isNone) &&
      decide ((outside id).me.priv ≠ .user) && user0.me.priv == .user && (((outside id).cluster 0).cdlim == 64) &&
      shelfFound ((outside id).modCluster 0 (fun k => { k with cdlim := 1 })) (fun u f =>
        (f.map (·.2.pinned)) == some false && (u.cluster 0).cdlim == 1)) = true := by decide +kernel

/-! ## The copy engine -/

/-- An entry that fills 32 bytes at 0x1000 with a pattern, and is the last. -/
def fillEntry : ChainEntry where
  op := 2
  flags := 1
  smode := 0
  dmode := 0
  seq := 0
  pad := 0
  src := 0
  dst := 0x1000
  len := 32
  rows := 1
  sstride := 0
  dstride := 0
  value := 0x0102030405060708
  count := 0

/-- A chain of core 0 of that entry. -/
def fillChain : Chain where
  entries := [fillEntry]
  ticket := 9
  core := 0
  strand := 0
  bad := none
  unread := []
  unmapped := []
  gens := [none]
  next := 0
  phase := .waiting
  moving := []
  marked := []
  priv := .machine
  sum := false
  mxr := false
  satp := 0
  vf := 0

/-- An entry that copies 32 bytes from 0x800 to 0x1000, and its chain. -/
def copyEntry : ChainEntry := { fillEntry with op := 1, value := 0, src := 0x800 }
def copyChain : Chain := { fillChain with entries := [copyEntry] }

/-- Bench 0 holds a chain. -/
def chained (f : Chain → Chain) : State := at0.modBench 0 (fun h => { h with chains := [f fillChain], turn := 3 })

theorem test_meets_engineInstructions : (at0.x 0).toNat % 64 = 0 ∧ (at0.bench 0).chains.length < 16 ∧
    16 ≤ ((at0.modBench 0 (fun h => { h with chains := List.replicate 16 fillChain })).bench 0).chains.length ∧
    okWith (loadChain 1 (withX 6 1) 0) (fun r => okWith r.1.drainMine (fun s2 => s2.here == 0 && s2.cur == 0)) = true ∧
    ((chained id).bench 0).chains.find? (fun k => k.ticket == 9) = some fillChain ∧
    ((chained id).bench 0).chains.find? (fun k => k.ticket == 8) = none := by decide +kernel

/-- The chain with its entry under way, with this left to write. -/
def writing (todo : List (Nat × Byte)) (fails : Bool) : State :=
  chained (fun k => { k with next := 1, moving := [
    { index := 0, todo := todo, plan := [0x1000, 0x1001], fails := fails, count := none }] })

/-- What an entry that starts finds. -/
def startFound (k : Chain) (e : ChainEntry) (s1 : State) (p : State → List Nat → List Nat → Bool) : Bool :=
  okWith (s1.entryRanges k e) (fun r => okWith (r.1.entryCount k e) (fun q =>
    (r.1.ownedLine ((r.2.1 ++ r.2.2).filter (fun x => !isScratch x))).isNone && (q.1.bench 0).chains.contains k && p q.1 r.2.1 r.2.2))

theorem test_meets_engineSteps_start : ((chained id).bench 0).pick 0 = some (0, fillChain) ∧
    ((chained (fun k => { k with bad := some (0, 0x100) })).bench 0).pick 0 =
      some (0, { fillChain with bad := some (0, 0x100) }) ∧ fillEntry.moves = true ∧
    startFound fillChain fillEntry (chained id) (fun s3 sl dl => s3.failingLines sl == [] && s3.failingLines dl == [] &&
      okWith (s3.onDie (sl ++ dl)) (fun s4 => dl.length == (s4.entryBytes fillChain fillEntry sl).length &&
        (s4.bench 0).chains.contains fillChain)) = true ∧
    startFound copyChain copyEntry { (chained (fun _ => copyChain)) with poisoned := [0x40] } (fun s3 sl _ =>
      sl.any (fun l => s3.poisoned.contains (l / 32))) = true ∧
    okWith ((chained id).entryRanges fillChain fillEntry) (fun r =>
      (({ r.1 with benches := r.1.benches.map (fun b => (b.1, { b.2 with owned := [0x10] })) } : State).ownedLine
        ((r.2.1 ++ r.2.2).filter (fun x => !isScratch x))).isSome) = true := by decide +kernel

theorem test_meets_engineSteps_write :
    (((writing [(0x1000, 1), (0x1001, 2), (chipScratchBase, 3)] false).bench 0).movers[0]?).isSome = true ∧
    (writing [(0x1000, 1), (0x1001, 2), (chipScratchBase, 3)] false).wf ∧
    (((writing [] true).bench 0).movers.map (fun x => (x.2.todo.length, x.1.moving.map (·.fails)))) = [(0, [true])] ∧
    (((writing [] false).bench 0).movers.map (fun x => (x.2.todo.length, x.2.fails, x.2.count.isNone,
      x.1.entries[x.2.index]? == some fillEntry))) = [(0, false, true, true)] ∧
    isScratch 0x1000 = false ∧ isScratch chipScratchBase = true := by unfold State.wf; decide +kernel
/-! ## Remote access -/

/-- Logical device 0 of chip 0, of a pod of 4 chips in a row whose links stand, has opened its first granule, through a map at
0x2000; x6 holds an address and x7 a descriptor. -/
def remote (addr d : Nat) : State :=
  let s := (withX 6 (BitVec.ofNat 64 addr)).writeX 7 (BitVec.ofNat 64 d);
  let s := s.modLd 0 (fun d => { d with ramap := 0x2000 });
  { s with mem := [(0x1000, 7), (0x2000, 1)],
           chip := { s.chip with locked := true, podcfg := 0xC00, cables := BitVec.allOnes 24 } }

/-- The address of byte 0x1000 of chip 1. -/
abbrev far : Nat := 0x40000001000

/-- The queue that a remote load names, and what stands in its way, if anything. -/
def rxBefore (s : State) (n : Nat) (p : State → Nat → Bool) : Bool :=
  okWith (s.remoteAddress .load (s.x 6) n) (fun r => r.1.here == 0 && r.1.cur == 0 && decide (r.1.core 0 = s.core 0) && p r.1 r.2)

/-- Receive queue 3 of core 0 is full. -/
def full3 : State :=
  let q : RxQueue := { entries := List.replicate 16 0, reserved := [] };
  (remote far 0x40005).modCore 0 (fun k => { k with rx := k.rx.setIfInBounds 3 q })

/-- One store of a doubleword in a combining buffer. -/
def oneStore (addr : Nat) (group : Option (BitVec 18)) : Combining where
  paddr := addr
  data := [1, 2, 3, 4, 5, 6, 7, 8]
  cnt := 0
  cntLoc := 0
  strand := 0
  group := group

/-- Stores stand in the combining buffer of core 0. -/
def buffering (addr : Nat) (es : List Combining) (now : Bool) : State :=
  { (remote addr 0x20).modCore 0 (fun k => { k with combining := es }) with deferred := !now }

theorem test_meets_rld : (remote 0x1000 0x40005).ready ∧ (remote 0x1000 0x40005).chipNumber = 0 ∧
    rxBefore (remote 0x1000 0x40005) 4 (fun u pa => pa / 2 ^ 42 == u.chipNumber && ((u.core 0).meets pa 4).isNone) = true ∧
    rxBefore (buffering 0x1000 [oneStore 0x1000 none] true) 4 (fun u pa => ((u.core 0).meets pa 4).any (fun e =>
      e.group.isNone && e.paddr ≤ pa && pa + 4 ≤ e.paddr + e.data.length)) = true ∧
    rxBefore (buffering 0x1006 [oneStore 0x1000 none] true) 4 (fun u pa => ((u.core 0).meets pa 4).any (fun e =>
      e.paddr + e.data.length < pa + 4)) = true ∧
    rxBefore (remote far 0x40005) 4 (fun u pa => pa / 2 ^ 42 != u.chipNumber && ((u.core 0).meets pa 4).isNone &&
      !u.linkRefused (pa / 2 ^ 42)) = true ∧
    rxBefore (withX 6 (BitVec.ofNat 64 far)) 4 (fun u pa => pa / 2 ^ 42 != u.chipNumber && u.linkRefused (pa / 2 ^ 42)) = true ∧
    sinkSize ≤ ((full3.core 0).receive 3).entries.length ∧
    256 < (0xFF#64).toNat % 256 + 0x40005 / 2 ^ 16 % 256 := by
  unfold State.ready
  decide +kernel

/-- The strand stores x5 to the address in x6, and finds a combining buffer like this. -/
def rstFound (s : State) (now : Bool) (p : State → Nat → List Combining → Bool) : Bool :=
  okWith (s.useV []) (fun s0 => okWith (s0.countAt 0) (fun q => okWith (q.1.remoteAddress .store (s.x 6) 8) (fun r =>
    r.1.here == 0 && r.1.cur == 0 && decide (r.1.me = s0.me) && !r.1.me.pp && r.1.deferred != now &&
    p r.1 r.2 (r.1.core 0).combining)))

theorem test_meets_rst : (0x1004#64).toNat % 8 ≠ 0 ∧ (0x20#64).getLsbD 5 = true ∧ 8 * ((0x25#64).toNat % 32 + 1) ≠ 8 ∧
    rstFound (buffering 0x1000 [] true) true (fun u pa es => es.isEmpty && (u.core 0).journal.isEmpty &&
      pa / 2 ^ 42 == u.chipNumber && (u.refuses u.chipNumber (u.core 0).ld.toNat pa 8).isNone) = true ∧
    rstFound (buffering far [] false) false (fun _ _ es => es.isEmpty) = true ∧
    rstFound (buffering (far + 8) [oneStore far none] false) false (fun _ pa es => es.length < 16 &&
      es.getLast?.any (fun w => w.merges (oneStore pa none))) = true ∧
    rstFound (buffering far (List.replicate 16 (oneStore 0 none)) false) false (fun _ _ es => 16 ≤ es.length) = true := by
  decide +kernel

/-- A posted journal entry. -/
def postedEntry : JEntry := { refusedEntry with state := .posted, reason := 0 }

/-- Core 0 has one store in its combining buffer, and entry 3 of its journal is in use. -/
def combining1 (addr : Nat) (j : JEntry) : State :=
  (remote 0 0).modCore 0 (fun k => { k with
    combining := [oneStore addr none],
    journal := [(3, j)] })

theorem test_meets_jrnl : mapFind ((combining1 0 refusedEntry).core 0).journal (0x302 / 256) = some refusedEntry ∧
    0x302 % 256 = 2 ∧ 0x303 % 256 = 3 ∧ 0x303 < 2 ^ 14 ∧ refusedEntry.state = .refused ∧ postedEntry.state ≠ .refused ∧
    (∀ e, e ∈ ((combining1 0 refusedEntry).core 0).journal → e.2.state = .refused) ∧ at0.me.park = none ∧
    (∀ e, e ∈ ((combining1 0 postedEntry).core 0).journal → e.1 < 64) ∧ (combining1 0 postedEntry).me.park = none ∧
    okWith ((combining1 0 refusedEntry).storeBytes 0x40 (leBytes 8 refusedEntry.paddr ++ leBytes 2 refusedEntry.len ++
      [2, refusedEntry.reason, BitVec.ofNat 8 refusedEntry.strand, 0, 0, 0] ++ leBytes 8 refusedEntry.tick.toNat ++
      leBytes 8 refusedEntry.cnt.toNat)) (fun _ => true) = true := by decide +kernel

/-- A message from chip 1 to chip 0 about entry 3 or receive queue 3 of core 0. -/
def fromOne (kind len tag aux : Nat) : Msg where
  kind := kind
  sched := false
  chip := 1
  ld := 0
  dst := 0
  len := len
  addr := 0x1000
  core := 0
  strand := 0
  index := 3
  tag := tag
  aux := aux
  payload := List.replicate len 7

/-- The message's bytes keep the layout, name this chip, say what it says, and come by a port that is up. -/
def arrivesAt (s : State) (kind : Nat) (m : Msg) : Bool :=
  headerOk m.bytes && decide (Msg.ofBytes m.bytes = m) && m.dst == s.chipNumber && m.kind == kind &&
  (s.arrivalPort m.chip m.dst).all (fun p => !s.linkDown p)

/-- What `arrivesAt` says. -/
theorem arrives_of {s : State} {kind : Nat} {m : Msg} (h : arrivesAt s kind m = true) :
    Arrives s (s.countFabric 0x61 (flitsOf m.len)) m.bytes kind m := by
  simp only [arrivesAt, Bool.and_eq_true, decide_eq_true_eq, beq_iff_eq] at h
  obtain ⟨⟨⟨⟨h1, h2⟩, h3⟩, h4⟩, h5⟩ := h
  refine ⟨h1, h2, h3, h4, fun _ p hp => ?_, rfl⟩
  rw [hp] at h5
  simpa using h5

theorem test_meets_departs : ((combining1 0x1000 refusedEntry).core 0).freeEntry = some 0 ∧
    ((combining1 0x1000 refusedEntry).core 0).combining.map (fun e => (e.group, e.cnt)) = [(none, 0)] ∧
    (combining1 0x1000 refusedEntry).refuses 0 0 0x1000 8 = none ∧ far / 2 ^ 42 ≠ (combining1 far refusedEntry).chipNumber ∧
    (combining1 far refusedEntry).linkRefused 1 = false ∧ at0.linkRefused 1 = true := by decide +kernel

/-- A message from chip 1 to another chip. -/
def onward (dst : Nat) : Msg := { fromOne kindRst 8 0 0 with dst := dst }

theorem test_meets_messages : arrivesAt (remote 0 0) kindRst (fromOne kindRst 8 0 0) = true ∧
    (remote 0 0).refuses 1 0 0x1000 8 = some 2 ∧
    ({ remote 0 0 with launches := [{ launch1 with chips := [0, 1] }] } : State).refuses 1 0 0x1000 8 = none ∧
    arrivesAt (remote 0 0) kindRstAck (fromOne kindRstAck 0 0 0) = true ∧
    arrivesAt (remote 0 0) kindRstRefuse (fromOne kindRstRefuse 0 0 2) = true ∧
    mapFind ((combining1 0 postedEntry).core 0).journal 3 = some postedEntry ∧
    (combining1 0 postedEntry).launches = [] ∧ (combining1 0 postedEntry).groups = [] ∧
    arrivesAt (remote 0 0) kindRld (fromOne kindRld 8 5 0) = true ∧
    arrivesAt (remote 0 0) kindRldReply (fromOne kindRldReply 8 5 0) = true ∧
    ({ chip := 1, addr := 0x1000, tag := 5, len := 8, cancelled := false } : RxSlot).answers (fromOne kindRldReply 8 5 0) =
      true ∧
    (remote 0 0).chipNumber ≠ 2 ∧ headerOk (onward 2).bytes = true ∧ Msg.ofBytes (onward 2).bytes = onward 2 ∧ (onward 2).sched = false ∧
    ((remote 0 0).arrivalPort 1 2).map (remote 0 0).linkDown = some false ∧ (onward 2).bytes.length = 64 * flitsOf 8 ∧
    (((at0.arrivalPort 1 0).map at0.linkDown) = some true) ∧ headerOk [] = false := by decide +kernel

/-! ## Groups -/

/-- Entry 2 of the group table of chip 0, owned by core 0. -/
def group2 (state : GroupState) (dests : List (Nat × Nat)) : Group where
  state := state
  core := 0
  vf := 0
  dests := dests
  reason := 0
  pubTick := 0
  count := 0
  countLoc := 0
  gen := 0
  prepared := true
  prepareTick := 0
  answered := []
  abortSent := true
  acked := []

/-- Strand 0 of core 0, with group 2 in the table, selected, and named by x6. -/
def grouped (state : GroupState) (dests : List (Nat × Nat)) : State :=
  let s := ((remote 0x1000 0x20).modMe (fun t => { t with gsel := 2 })).writeX 8 2;
  { s with groups := [(2, group2 state dests)], chip := { s.chip with tick := 70000 } }

theorem owned_group2 (state : GroupState) (dests : List (Nat × Nat)) :
    Owned (grouped state dests) 2 2 (group2 state dests) := by
  have h : (grouped state dests).chipNumber = ((0xC00#64).extractLsb' 0 10).toNat := rfl
  exact ⟨by rw [h]; decide, by decide, rfl, rfl, rfl⟩

theorem test_meets_groupInstructions : (grouped .opened []).ready ∧ (grouped .opened []).deferred = false ∧
    (grouped .opened []).x 8 = 2 ∧ (grouped .opened []).x 0 = 0 ∧ (0x20#64).toNat % 64 ≠ 0 ∧
    (grouped .opened []).me.gsel = 2 ∧ (grouped .opened []).chipNumber = 0 ∧
    (grouped .opened []).groupInBuffer 2 (group2 .opened []) = false ∧
    (grouped .preparing [(1, 3)]).groupInBuffer 2 (group2 .preparing [(1, 3)]) = false ∧
    mapFind (grouped .opened []).groups 0 = none ∧
    (∀ l, l < 256 → mapFind ((List.range 256).map (fun n => (n, group2 .opened []))) l = some (group2 .opened [])) ∧
    mapFind (grouped .opened []).groups 3 = none := by
  refine ⟨?_, ?_⟩
  · unfold State.ready
    decide +kernel
  · decide +kernel

/-- Group 2 of chip 1 at this chip as its destination. -/
def dest2 (state : DestState) : DestGroup where
  group := 0x102
  state := state
  reason := 0
  atTick := 7
  staged := [(0, [(0x1008, 9)])]
  count := 1

/-- A store of the group stands in the combining buffer. -/
def groupBuffered (state : GroupState) (dests : List (Nat × Nat)) (addr : Nat) : State :=
  (grouped state dests).modCore 0 (fun k => { k with combining := [oneStore addr (some 2)] })

/-- This chip is the one destination of its own group, in this state there. -/
def own2 (state : DestState) : DestGroup := { dest2 state with group := 2 }
def ownDest (gstate : GroupState) (dstate : DestState) : State := { grouped gstate [(0, 1)] with destGroups := [own2 dstate] }

theorem test_meets_groupInstructions_ends :
    (groupBuffered .opened [(1, 1)] far).groupInBuffer 2 (group2 .opened [(1, 1)]) = true ∧
    (grouped .opened [(1, 1)]).groupInBuffer 2 (group2 .opened [(1, 1)]) = false ∧
    (grouped .failed [(1, 1)]).groupInBuffer 2 (group2 .failed [(1, 1)]) = false ∧
    (∀ n, ((grouped .opened [(1, 1)]).chipNumber, n) ∉ (group2 .opened [(1, 1)]).dests) ∧
    (ownDest .opened .staging).groupInBuffer 2 (group2 .opened [(0, 1)]) = false ∧
    (ownDest .opened .staging).destGroup 2 = some (own2 .staging) ∧ (own2 .staging).count = 1 ∧
    okWith ((grouped .opened []).translate ((grouped .opened []).xctx 0 0) .store 0x40 32) (fun r =>
      r.2.all isDevice && r.1.here == 0 && r.1.cur == 0 && decide (r.1.groups = (grouped .opened []).groups) &&
      decide (r.1.me = (grouped .opened []).me)) = true ∧
    (match (grouped .opened []).translate ((grouped .opened []).xctx 0 0) .store 0xFFFFFFFFFFFFFFC0 32 with
      | .ok _ => false
      | .error _ => true) = true := by
  refine ⟨by decide +kernel, by decide +kernel, by decide +kernel, fun n h => ?_, by decide +kernel⟩
  have hc : (grouped .opened [(1, 1)]).chipNumber = 0 := by decide +kernel
  simp [group2, hc] at h

theorem test_meets_groupStores_merge :
    okWith ({ groupBuffered .opened [(1, 1)] far with deferred := true }.writeX 6 (BitVec.ofNat 64 (far + 8)) |>.useV []) (fun s0 =>
      okWith (s0.remoteAddress .store (s0.x 6) 8) (fun r => r.1.here == 0 && r.1.cur == 0 && !r.1.me.pp && r.1.deferred &&
        (r.1.core 0).combining.getLast?.any (fun w => w.merges (oneStore r.2 (some 2))))) = true := by decide +kernel

theorem test_meets_groupStores : ((grouped .opened []).x 6).toNat % 8 = 0 ∧ ((grouped .opened []).x 7).toNat < 64 ∧
    okWith ({ grouped .opened [] with deferred := true }.useV []) (fun s0 =>
      okWith (s0.remoteAddress .store (s0.x 6) 8) (fun r => r.1.here == 0 && r.1.cur == 0 && !r.1.me.pp &&
        r.1.chipNumber == 0 && decide ((r.1.destChips 2 (group2 .opened [])).length < 64) && r.1.deferred &&
        (r.1.core 0).combining.isEmpty)) = true ∧
    okWith ((grouped .opened []).modCore 0 (fun k => { k with combining := List.replicate 16 ({
      paddr := 0, data := [], cnt := 0, cntLoc := 0, strand := 0, group := none } : Combining) }) |>.useV []) (fun s0 =>
      okWith (s0.remoteAddress .store (s0.x 6) 8) (fun r => r.1.here == 0 && r.1.cur == 0 && !r.1.me.pp &&
        r.1.chipNumber == 0 && decide ((r.1.destChips 2 (group2 .opened [])).length < 64) &&
        decide (16 ≤ (r.1.core 0).combining.length))) = true := by decide +kernel

/-- This chip is a destination of group 2 of chip 1, which a running launch has claimed. -/
def destined (state : DestState) : State :=
  { remote 0 0 with destGroups := [dest2 state], chip := { (remote 0 0).chip with tick := 8 } }

theorem test_meets_groupSteps_staging : (destined .staging).launches = [] ∧
    (0x102#18).toNat / 256 = 1 ∧ (destined .staging).destGroup 0x102 = some (dest2 .staging) ∧
    homeDie 0x1000 < 8 ∧ ((destined .staging).staging[homeDie 0x1000]?.getD 0) + (8 + 47) / 48 ≤ 32768 ∧
    (dest2 .staging).state = .staging ∧ (2 : Nat) ≠ (dest2 .staging).count ∧
    (destined .ready).destGroup 0x102 = some (dest2 .ready) ∧ (destined .applying).destGroup 0x102 = some (dest2 .applying) ∧
    (dest2 .applying).atTick.toNat ≤ (destined .applying).chip.tick.toNat ∧ (destined .applying).chipNumber = 0 ∧
    (at0.chip.tick.toNat < (dest2 .applying).atTick.toNat) ∧ Memory.wf (destined .applying).mem = true := by decide +kernel

theorem test_meets_groupSteps_gst :
    (let s : State := { destined .staging with launches := [{ launch1 with chips := [0, 1] }] }
     arrivesAt s kindGst (fromOne kindGst 8 0 0x102) = true ∧ s.destGroup 0x102 = some (dest2 .staging) ∧
     s.refuses 1 0 0x1000 8 = none) ∧ homeDie (0x1000 % 2 ^ 42) < 8 := by decide +kernel

theorem test_meets_groupSteps_departs : ((groupBuffered .opened [] far).core 0).freeEntry = some 0 ∧
    ((groupBuffered .opened [] far).core 0).combining = [oneStore far (some 2)] ∧ far / 2 ^ 42 ≠ (groupBuffered .opened [] far).chipNumber ∧
    (groupBuffered .opened [] far).linkRefused 1 = false ∧
    ({ groupBuffered .opened [] far with chip := at0.chip } : State).linkRefused 1 = true ∧
    (groupBuffered .opened [] far).launches = [] := by decide +kernel

theorem test_meets_groupSteps_own : ((group2 .preparing [(1, 3), (0, 1)]).dests.any (fun x => x.1 == (0 : Nat))) = true ∧
    (group2 .preparing [(1, 3), (0, 1)]).dests.filter (fun x => x.1 != (0 : Nat)) = [(1, 3)] ∧
    (ownDest .preparing .ready).destGroup 2 = some (own2 .ready) ∧ (own2 .staging).state ≠ .applying ∧
    (groupBuffered .preparing [(1, 1)] far).groupInBuffer 2 (group2 .preparing [(1, 1)]) = true ∧
    (group2 .aborting [(1, 3)]).abortSent = true := by decide +kernel

theorem test_meets_groupSteps_issuer : (2#18).toNat / 256 = (grouped .preparing [(1, 3)]).chipNumber ∧
    (2#18).toNat % 256 = 2 ∧ (grouped .preparing [(1, 3)]).launches = [] ∧
    (group2 .preparing [(1, 3)]).prepared = true ∧ (group2 .preparing [(1, 3)]).count = 0 ∧
    (∀ x, x ∈ (group2 .preparing [(1, 3)]).dests → x.1 = 1) ∧ (group2 .preparing [(1, 3)]).dests ≠ [] ∧
    ((0, 3) ∉ (group2 .preparing [(1, 3)]).dests) ∧ (1 ∉ (group2 .preparing [(1, 3)]).answered) ∧
    ((grouped .aborting [(1, 3)]).core 0).journal = [] ∧
    (group2 .preparing [(1, 3)]).prepareTick.toNat + 65536 ≤ (grouped .preparing [(1, 3)]).chip.tick.toNat := by decide +kernel

/-! ## Launches -/

/-- A launch parameter block of one function with so many vpes, and some features. -/
def blockOf (vpes feature : Nat) : List Byte :=
  [0x4B, 0x4C, 0x50, 0x42, 1, 0, 0, 0] ++ leBytes 8 0x1000 ++ leBytes 8 vpes ++ leBytes 8 0x77 ++ leBytes 16 feature ++
    List.replicate 0x28 0 ++ leBytes 8 0x1000 ++ leBytes 4 1 ++ leBytes 4 1 ++ leBytes 8 0x2000 ++ List.replicate 0x90 0

/-- Logical device 0 may claim cluster 5; the record of function 0 stands in memory, at 0x1000, and x6 names a block at 0x4000. -/
def launching (s : State) : State :=
  let s := s.modLd 0 (fun d => { d with partition := [(0, 0x20)], accept := 0x8000000000000002, bound := true, weight := 8 });
  { s.writeX 6 0x4000 with mem := [(0x1022, 1)] }

/-- What the block of a launch comes to at strand 0 of core 0. -/
def checked0 (vpes feature : Nat) : Checked :=
  (launching at0).checkBlock ((launching at0).xctx 0 0) 0 (blockOf vpes feature)

theorem test_meets_launchInstructions_access : okWith ((launching at0).access .load 0x4000 256) (fun r =>
      okWith (r.1.fence 6) (fun s2 => s2.here == 0 && s2.cur == 0)) = true ∧ (launching at0).launches = [] ∧
    ({ launching at0 with launches := [launch1] } : State).launch { issuer := (launching at0).chipNumber, lid := 1 } = some launch1 ∧ (1#32).toNat / 2 ^ 28 = ((launching at0).core 0).ld.toNat ∧
    { launching at0 with launches := [launch1] }.laterLids launch1 < 4096 ∧
    (at0.ld 0).accept.getLsbD 63 = false := by decide +kernel

/-- The host queue of logical device 0, of two records at 0xA00, holds one record of a kind, for the block at 0x4000; the device
has accepted some features. -/
def requesting (kind pi : Nat) (accept : BitVec 64) : State :=
  { (launching at0).modLd 0 (fun d => { d with accept := accept, nqueues := 1, queues := 0x800 }) with
    mem := [(0x801, 0xA), (0x808, 1), (0x809, 1), (0x810, BitVec.ofNat 8 pi), (0x814, 5)] ++
      (if kind % 256 = 0 then [] else [(0xA20, BitVec.ofNat 8 kind)]) ++
      (if kind < 256 then [] else [(0xA21, BitVec.ofNat 8 (kind / 256))]) ++ [(0xA29, 0x40), (0x1022, 1)] }

/-- The executive of core 0 may take the record. -/
def mayTake (s : State) (kind : Nat) : Bool :=
  s.isServer 0 && (s.strand 0 0).status == .live && (s.strand 0 0).priv != .user && (s.ld 0).bound &&
  (s.ld 0).accept.getLsbD 63 && (s.queueBlocks 0 1)[0]? == some 0x800 &&
  s.readNat .host 0x810 4 != s.readNat .host 0x814 4 && (recNat (s.readBytes .host 0xA20 32) 0 2 == kind) &&
  recNat (s.readBytes .host 0xA20 32) 2 6 == 0 && recNat (s.readBytes .host 0xA20 32) 16 16 == 0 &&
  recWord (s.readBytes .host 0xA20 32) 8 == 0x4000 &&
  s.readNat .device 0x800 8 % 2 ^ 42 + 32 * (s.readNat .host 0x814 4 % 2 ^ s.readNat .device 0x808 1) == 0xA20

theorem test_meets_launchInstructions_records : mayTake (requesting 0x20 6 0x8000000000000003) 0x20 = true ∧
    ((requesting 0x20 6 0x8000000000000003).unitBytes ((requesting 0x20 6 0x8000000000000003).xctx 0 0) 0 0x4000 256).map lpbMulti =
      some false ∧ mayTake (requesting 0x20 6 0x8000000000000001) 0x20 = true ∧
    mayTake (requesting 0x30 6 0x8000000000000003) 0x30 = true ∧ mayTake (requesting 0x100 6 0x8000000000000003) 0x100 = true ∧
    (requesting 0x20 5 0x8000000000000003).readNat .host 0x810 4 = (requesting 0x20 5 0x8000000000000003).readNat .host 0x814 4 ∧
    (requesting 0x20 6 0x8000000000000003).readNat .host 0x810 4 = 6 := by decide +kernel

theorem test_meets_submitted : checked0 16 0 = .accepted ∧ checked0 0 0 = .refused 2 0 ∧ checked0 (2 ^ 24) 0 = .refused 0x102 0 ∧
    checked0 1 (2 ^ 127) = .refused 0x103 127 ∧
    at0.checkBlock (at0.xctx 0 0) 0 [] = .malformed 0 ∧ (lpbDone (blockOf 16 0) = 0) ∧ at0.decremented = [] ∧
    (∀ i, i < 4 → lpbPrereq (blockOf 16 0) i = 0) := by decide +kernel

theorem test_meets_submitted_fit : (launching at0).blockFits 0 (blockOf 1 0) = true ∧ at0.blockFits 0 (blockOf 1 0) = false ∧
    (launching at0).blockBad ((launching at0).xctx 0 0) 0 (blockOf 1 0) = none ∧
    (launching at0).blockBad ((launching at0).xctx 0 0) 0 (blockOf 0 0) = none := by decide +kernel

/-- A launch of that block in a state; its LID is logical device 0's. -/
def launchIn (state : LaunchState) : Launch := { launch1 with
  lpb := blockOf 16 0, state := state, chips := if state = .claiming then [0, 1] else [0], clusters := [], woken := false,
  preLocs := [0, 0, 0, 0] }

/-- The launch of chip 0, alone in the launch unit. -/
def unit (state : LaunchState) : State :=
  let s := launching (remote 0 0);
  { s with launches := [launchIn state], mem := [(0x1022, 1)] }

theorem test_meets_placement_prereq : (unit .queued).rechecked ≠ (unit .queued).chip.tick.toNat / 1024 + 1 ∧ (unit .queued).prereqVerdict (launchIn .queued) = .ready ∧
    (unit .queued).prereqVerdict { launchIn .queued with
      lpb := (blockOf 16 0).take 0x38 ++ leBytes 8 0x7000 ++ (blockOf 16 0).drop 0x40, preLocs := [0x7000, 0, 0, 0] } ≠ .ready ∧
    ({ unit .queued with mem := [(0x7000, 0x4B), (0x7001, 0x43), (0x7002, 0x4E), (0x7003, 0x54), (0x7004, 1), (0x700C, 1)] } :
      State).prereqVerdict { launchIn .queued with
      lpb := (blockOf 16 0).take 0x38 ++ leBytes 8 0x7000 ++ (blockOf 16 0).drop 0x40, preLocs := [0x7000, 0, 0, 0] } =
        .waiting := by decide +kernel

theorem test_meets_placement_round : (unit .ready).launches = [launchIn .ready] ∧ (launchIn .ready).issuer = 0 ∧
    lidLd (launchIn .ready).lid = 0 ∧ ((unit .ready).ld 0).bound = true ∧
    (∀ e, e < 16 → e ≠ 0 → ((unit .ready).ld e).bound = false) ∧
    (launchIn .ready).notBefore.toNat ≤ (unit .ready).chip.tick.toNat ∧ (unit .ready).roundTick ≠ some (unit .ready).chip.tick ∧
    lpbMulti (launchIn .ready).lpb = false ∧ (unit .ready).cost 0 (launchIn .ready).lpb = 1 ∧
    min (((unit .ready).ld 0).deficit + ((unit .ready).ld 0).weight) 512 = 8 ∧
    ((unit .ready).modLd 0 (fun d => { d with weight := 0 })).cost 0 (launchIn .ready).lpb = 1 ∧
    placeOn (launchIn .ready).lpb ((unit .ready).claimable 0 0) [] = some [5] ∧ placeOn (launchIn .ready).lpb [] [] = none ∧
    (launchIn .ready).clusters = [] := by decide +kernel

theorem test_meets_placement_reports :
    (unit .claiming).launch (launchIn .claiming).key = some (launchIn .claiming) ∧ (launchIn .claiming).issuer = 0 ∧
    ({ launchIn .claiming with reports := [(0, .loaded)] } : Launch).chips = [0, 1] ∧ (launchIn .claiming).active = true ∧
    (launchIn .claiming).pendingCode = none ∧ (unit .claiming).groups = [] ∧ lpbDone (launchIn .claiming).lpb = 0 := by
  decide +kernel

theorem test_meets_placement_claim : placeOn (blockOf 16 0) ((unit .ready).claimable 0 0) (unit .ready).heldClusters = some [5] ∧
    placeOn (blockOf 16 0) (at0.claimable 0 0) at0.heldClusters = none ∧ (unit .ready).tableBad 0 0 [] = false ∧
    at0.tableBad 0 0 [] = true := by decide +kernel

/-- The launch runs in cluster 5. -/
def runIn5 (issuer : Nat) : Launch := { launchIn .running with clusters := [5], issuer := issuer }

/-- The launch of 16 vpes on 16 cores. -/
def running5 (issuer : Nat) : State :=
  { launching (remote 0 0) with launches := [runIn5 issuer], mem := [(0x1022, 1)] }

theorem test_meets_launchEnds : (running5 0).launch (runIn5 0).key = some (runIn5 0) ∧ (runIn5 0).cores.Nodup ∧
    (runIn5 0).cores.length = 16 ∧ lpbVpes (runIn5 0).lpb = 16 ∧ (runIn5 0).chips.length = 1 ∧ (runIn5 0).rank = 0 ∧
    (runIn5 0).active = true ∧ (runIn5 0).pendingCode = none ∧ (0 ∈ (runIn5 0).chips ∧ 0 ∉ (runIn5 0).endedChips) ∧
    (runIn5 0).localDone = false ∧ (running5 0).groups = [] ∧ lpbDone (runIn5 0).lpb = 0 ∧ codeFault ≠ codeDone ∧
    (running5 1).chipNumber ≠ (runIn5 1).issuer ∧ (running5 1).launch (runIn5 1).key = some (runIn5 1) ∧
    (∀ c ∈ (runIn5 0).chips, c = (running5 0).chipNumber) := by decide +kernel

/-- The launch spans chips 0 and 1, and chip 1 has not ended; a core here has passed a stack limit. -/
def spanned : Launch := { runIn5 0 with chips := [0, 1], debugStop := true }
def spanning : State :=
  { ((running5 0).modCore 80 (fun k => { k with launch := some (runIn5 0).key })).modStrand 80 0 (fun t =>
      { t with park := some (.stackLimit 3) }) with launches := [spanned] }

theorem test_meets_launchEnds_spanning : spanning.launch (runIn5 0).key = some spanned ∧
    1 ≠ spanning.chipNumber ∧ spanning.limitPassed spanned 3 = true ∧
    codeStackLimit ≠ codeDone ∧ spanning.groups = [] := by decide +kernel

/-- Core 80 runs one vpe of the launch, whose debug stop is requested. -/
def stopping : State := { (running5 0).modCore 80 (fun k => { k with launch := some (runIn5 0).key, slots := [] }) with
  launches := [{ runIn5 0 with debugStop := true }] }

theorem test_meets_debugStop : (stopping.core 80).launch = some (runIn5 0).key ∧ (stopping.core 80).debugStopped = false ∧
    stopping.debugMayStop 80 = true := by decide +kernel

/-! ## The control queue -/

/-- The control queue's block is at 0x800, with one entry, at 0xA00; PI is 1 and CI 0. -/
def commanded (s : State) : State := { s with ctlq := 0x800, mem := [(0x801, 0xA), (0x808, 1), (0x810, 1)] }

/-- The arguments of an entry of logical device 3 and virtual function 5. -/
def args (a0 a1 a2 a3 a4 : Word) : CtlArgs := { ld := 3, vf := 5, a0 := a0, a1 := a1, a2 := a2, a3 := a3, a4 := a4, a5 := 0, a6 := 0 }

theorem test_meets_controlSettings : EntryStands (commanded at0) ∧ (args 0 0 0 0 0).ld.toNat < 16 ∧ (args 0 0 0 0 0).vf.toNat < 64 ∧
    ¬(({ args 0 0 0 0 0 with vf := 64 } : CtlArgs).vf.toNat < 64) ∧
    ({ commanded at0 with launches := [launch1] } : State).launch { issuer := at0.chipNumber, lid := (1#64).setWidth 32 } = some launch1 ∧
    launch1.active = true ∧ (∀ c, c ∈ launch1.chips → c = at0.chipNumber) ∧ 1 ≠ at0.chipNumber ∧
    ({ commanded at0 with launches := [{ launch1 with issuer := 1 }] } : State).launch { issuer := 1, lid := (1#64).setWidth 32 } =
      some { launch1 with issuer := 1 } := by
  refine ⟨?_, by decide +kernel⟩
  unfold EntryStands
  decide +kernel

/-- A shootdown of virtual function 5 that a chip issued: cores here, and elsewhere, have to acknowledge it. -/
def request (issuer : Nat) (cs : List Nat) (others : List (Nat × Nat)) : Shootdown where
  vf := 5
  asid := none
  base := 0
  length := 0
  issuer := issuer
  waiting := cs
  others := others

/-- Such a shootdown is in progress. -/
def shot (cs : List Nat) (others : List (Nat × Nat)) : State := { commanded at0 with shootdown := some (request 0 cs others) }

theorem shot_stands : EntryStands (shot [0] []) := by
  unfold EntryStands
  decide +kernel

theorem test_meets_shootdowns : (args 1 0 0 0x3000 0x4000).a0.toNat ≤ 2 ^ 16 ∧ (args 1 0 0 0x3000 0x4000).vf.toNat < 64 ∧
    ((commanded at0).readNat .device 0x4000 128).testBit (commanded at0).chipNumber = false ∧
    ({ commanded at0 with mem := [(0x3000, 1), (0x4000, 1)] }.readNat .device 0x4000 128).testBit 0 = true ∧
    ({ commanded at0 with mem := [(0x3000, 1), (0x4000, 1)] }.readNat .device 0x3000 512).testBit 0 = true ∧
    (shot [0] []).shootdown = some (request 0 [0] []) ∧ ((shot [0] []).core 0).mqueue = [] ∧ ((shot [0] []).core 0).combining = [] ∧
    ((shot [0] []).core 0).journal = [] ∧ ((shot [0] []).bench (benchOf 0)).chains = [] ∧
    (∀ i, i < 11 → ((shot [0] []).strand 0 i).storeBuf = [] ∧ ((shot [0] []).strand 0 i).pending = []) ∧
    (shot [0] []).foreignShootdowns = [] ∧ (∀ k, k ∈ (request 0 [0] []).waiting → k = 0) ∧ (1 ∈ (request 0 [0, 1] []).waiting ∧ 1 ≠ 0) ∧
    1 ≠ at0.chipNumber ∧ quiet (shot [] [(1, 0)]) = true ∧ (request 0 [] [(1, 0)]).others.filter (· ≠ (1, 0)) = [] ∧
    (0#4096 ||| 1).getLsbD 0 = true := by decide +kernel

theorem test_meets_shootdowns_early :
    (let s := (commanded at0).modStrand 0 0 (fun t => { t with storeBuf := [{ cells := [(0x100, 7)], early := true }] })
     (s.strand 0 0).storeBuf.map (·.early)) = [true] ∧
    ({ commanded at0 with foreignShootdowns := [request 1 [0] []] } : State).shootdown = none := by decide +kernel

/-- Strand 0 stands at `csrrw x5, evsel1, x6` and waits for the reply to it. -/
def asking : State :=
  commanded ((State.reset.place 32 0x5C6312F3).modMe (fun t => { t with park := some (.counterReply 0x5C6 0 7 9 (some 9)) }))

theorem test_meets_controlReplies : EntryStands (commanded (chained (fun k => { k with phase := .faulted none }))) ∧
    ((commanded (chained (fun k => { k with phase := .faulted none }))).bench 0).chain ((9#64).setWidth 32) =
      some { fillChain with phase := .faulted none } ∧
    (∀ k, ((commanded at0).bench 0).chain ((9#64).setWidth 32) ≠ some k) ∧ EntryStands asking ∧
    (asking.strand 0 0).park = some (.counterReply 0x5C6 0 7 9 (some 9)) ∧
    field ({ asking with here := 0, cur := 0 } : State).currentWord 12 3 = 1 ∧
    ({ asking with here := 0, cur := 0 } : State).currentWord.toNat / 2 ^ 20 % 2 ^ 12 = 0x5C5 + 1 ∧
    ((commanded at0).strand 0 0).park = none := by
  unfold EntryStands
  refine ⟨by decide +kernel, by decide +kernel, ?_, by decide +kernel⟩
  have h : ((commanded at0).bench 0).chain ((9#64).setWidth 32) = none := by decide +kernel
  intro k hk
  rw [h] at hk
  cases hk

/-- A key record for slot 1 of logical device 3 and virtual function 12 stands at 0x1000. -/
def keyRecord : State :=
  { at0 with ctlq := 0x800, mem := [(0x801, 0xA), (0x808, 1), (0x810, 1), (0x1000, 1), (0x1002, 3), (0x1003, 12)] }

theorem keyRecord_bytes : keyRecord.readBytes .device 0x1000 1280 = [1, 0, 3, 12] ++ List.replicate 1276 0 := by
  decide +kernel

theorem test_meets_tenantKeys : EntryStands keyRecord ∧ keyRecord.paLoc 0 0x1000 = some 0x1000 ∧ 0x1000 % 256 = 0 ∧
    isDevice (0x1000 + 1279) = true ∧ mapFind keyRecord.security.keys 1 = none ∧
    (let r := keyRecord.readBytes .device 0x1000 1280
     recNat r 0 2 = 1 ∧ recNat r 2 1 = 3 ∧ recNat r 3 1 / 4 = 3 ∧ (∀ n, 4 ≤ n → r.getD n 0 = 0)) ∧
    recNat ((commanded at0).readBytes .device 0x2000 1280) 0 2 = 0 := by
  refine ⟨?_, by decide +kernel, by decide, by decide, by decide +kernel, ?_, by decide +kernel⟩
  · unfold EntryStands
    decide +kernel
  · rw [keyRecord_bytes]
    refine ⟨by decide +kernel, by decide +kernel, by decide +kernel, fun n hn => ?_⟩
    rw [List.getD_eq_getElem?_getD, List.getElem?_append_right (by simpa using hn), List.getElem?_replicate]
    split <;> rfl

/-! ## Hosts, bring-up, the responder -/

/-- Logical device 3 is bound to a host that has device memory at 0x1000 and has enabled it or not. -/
def bound3 (accept : Word) : State :=
  at0.modLd 3 (fun d => { d with bound := true, hdmBase := 0x1000, hdmSize := 0x100, accept := accept })

theorem test_meets_hosts : (at0.ld 3).bound = false ∧ ((bound3 0).ld 3).bound = true ∧ ((bound3 0).ld 3).accept.getLsbD 63 = false ∧
    ((bound3 0x8000000000000000).ld 3).accept.getLsbD 63 = true ∧ ((bound3 0x8000000000000001).ld 3).accept.getLsbD 63 = true ∧
    ((bound3 0).ld 3).hdmBase + ((bound3 0).ld 3).hdmSize ≤ 864 * 2 ^ 30 ∧ 0xF8 + 8 ≤ ((bound3 0).ld 3).hdmSize ∧
    ((bound3 0).ld 3).hdmSize < 0xF9 + 8 ∧ (at0.ld 3).quiescing = false := by decide +kernel

/-- A write of 0, or of ENABLE alone, accepts no feature, whatever is offered. -/
theorem test_meets_hosts_accept : (0#64 &&& Config.offer.setWidth 64).toNat % 64 = ((bound3 0x8000000000000000).ld 3).accept.toNat % 64 ∧
    (0x8000000000000000#64 &&& Config.offer.setWidth 64).toNat % 64 = ((bound3 0x8000000000000000).ld 3).accept.toNat % 64 ∧
    (0#64 &&& Config.offer.setWidth 64).toNat % 64 ≠ ((bound3 0x8000000000000001).ld 3).accept.toNat % 64 := by
  have h : ∀ o : BitVec 64, (0x8000000000000000#64 &&& o).toNat % 64 = 0 := by
    intro o
    have e : (0x8000000000000000#64 &&& o).extractLsb' 0 6 = 0 := by
      ext i hi
      have : i < 63 := by omega
      simp only [BitVec.getElem_extractLsb', BitVec.getLsbD_and, Nat.zero_add]
      rw [show (0x8000000000000000#64 : BitVec 64) = BitVec.twoPow 64 63 by decide, BitVec.getLsbD_twoPow]
      simp
      omega
    have := congrArg BitVec.toNat e
    simpa [BitVec.extractLsb'_toNat] using this
  refine ⟨?_, ?_, ?_⟩
  · simp only [BitVec.zero_and]
    decide +kernel
  · rw [h]
    decide +kernel
  · simp only [BitVec.zero_and]
    decide +kernel

/-- Chip 0 waits in stage 5 for its tick to lock; the server cores' entry is the record at 0x1000. -/
def waiting5 (entry : Word) : State :=
  { State.reset with
    mem := [(0x1022, 1)]
    chip := { State.reset.chip with
      stage := 5, bootEntry := entry, bootFdir := 0x1000, bootNfdir := 1, bootModtab := 0x2000, bootNmod := 1 } }

/-- The chip as its tick locks, with the server cores' launch values. -/
def locked5 (entry : Word) : State :=
  (waiting5 entry).serverCores.foldl (fun s c => s.modCore c (fun k => k.bootValues (waiting5 entry).chip))
    { waiting5 entry with chip := { (waiting5 entry).chip with locked := true } }

theorem test_meets_tickLock : (waiting5 0x1000).chip.locked = false ∧ (waiting5 0x1000).chip.stage = 5 ∧
    (waiting5 0x1000).chip.stop = 0 ∧ (waiting5 0x1000).chipNumber = 0 ∧
    ((locked5 0x1000).bootEntryRecord ((locked5 0x1000).serverCores.headD 0)).isSome = true ∧
    (locked5 0x1001).bootEntryRecord ((locked5 0x1001).serverCores.headD 0) = none := by decide +kernel

/-- An image of nothing, with no signature. -/
def emptyImage : SignedImage := { bytes := [], edSig := [], mlSig := [], edPub := [], mlPub := [] }

/-- What a cold reset finds when the power is good and a boot record of zeros is written. -/
def bootInput : BootInput where
  railsOk := true
  cables := 0
  memoryOk := true
  romVersion := 0
  firmware := emptyImage
  microcode := emptyImage
  portFirmware := emptyImage
  rootKeyHashes := []
  identity := emptyImage
  device := { edKey := [], mlKey := [], serial := [], model := 0 }
  chain := []
  bootRecord := some (List.replicate 256 0)
  loaded := [(0x2000, [1])]
  bundles := []
  executiveKey := 0

theorem test_meets_coldReset : bootInput.railsOk = true ∧ bootInput.memoryOk = true ∧
    bootInput.loaded = [(0x2000, [1])] ∧ bootInput.bootRecord = some (List.replicate 256 0) ∧ (List.replicate 256 (0 : Byte)).length = 256 := by decide +kernel

/-- The MCTP endpoint's connection has come to a stage, and a certificate chain of four bytes stands. -/
def connected (stage : Nat) : State :=
  { at0 with security := { at0.security with
      endpoints := [(16, { stage := stage, opening := [1], certificates := [2], measurements := [3] })], chain := [9, 8, 7, 6] } }

theorem test_meets_responder : (connected 3).hasEndpoint 16 = true ∧ ((connected 3).endpoint 16).stage = 3 ∧
    ((connected 0).endpoint 16).stage < 1 ∧ (at0.ld 3).bound = false ∧ ((bound3 0).ld 3).bound = true ∧
    recNat ([0x13, 0x83, 0, 0, 0, 0, 4, 0] : List Byte) 2 1 % 16 = 0 ∧
    recNat ([0x13, 0x82, 0, 0, 0, 0, 4, 0] : List Byte) 4 2 < (connected 3).security.chain.length ∧
    (connected 3).security.chain.length < 2 ^ 16 ∧ recNat ([0x13, 0xE0, 1, 0xFF] : List Byte) 3 1 = 0xFF ∧
    recNat ([0x13, 0xE0, 1, 0xFF] : List Byte) 2 1 % 2 = 1 ∧ recNat ([0x13, 0xE0, 0, 17] : List Byte) 3 1 = 17 := by decide +kernel

/-! ## Fetching code -/

/-- The computation answers this. -/
def okIs {ε α : Type} [DecidableEq α] (e : Except ε α) (a : α) : Bool :=
  match e with
  | .ok b => b == a
  | .error _ => false

/-- The computation fails with this. -/
def errIs {ε α : Type} [DecidableEq ε] (e : Except ε α) (x : ε) : Bool :=
  match e with
  | .ok _ => false
  | .error y => y == x

/-- The strands of a cluster's cores, looked at one by one, wait on no fetch of a digest. -/
theorem noneWaits_of {s : State} {l : Nat} {d : Digest} {except : Nat → Nat → Prop} [DecidableRel except]
    (h : (List.range 16).all (fun j => (List.range 11).all (fun i => decide (except (16 * l + j) i) ||
      (match (s.strand (16 * l + j) i).pos with
        | .miss m => m.digest != d
        | _ => true) &&
      (match (s.strand (16 * l + j) i).park with
        | some (.fetch e _) => e != d
        | _ => true))) = true) : NoneWaits s l d except := by
  intro c i hc hi he
  have hc' : c = 16 * l + c % 16 := by
    simp only [clusterOf] at hc
    omega
  simp only [List.all_eq_true, List.mem_range] at h
  have h1 := h (c % 16) (Nat.mod_lt _ (by decide)) i hi
  rw [← hc'] at h1
  rw [Bool.or_eq_true, Bool.and_eq_true, decide_eq_true_eq] at h1
  rcases h1 with h1 | ⟨h1, h2⟩
  · exact absurd h1 he
  constructor
  · intro m hm
    rw [hm] at h1
    simpa using h1
  · intro rd hp
    rw [hp] at h2
    simp at h2

/-- A portable form of two parcels. -/
def plainForm : Form where
  kind := .portable
  content := 1
  nwp := 0
  wptab := []
  code := [0x13, 0, 0, 0]
  src := 0
  keyId := 0

/-- Cluster 0 fetches the form of digest 1, having come to a source; the shelf of cluster 1 holds a portable one, or not; the
strand 1 of core 0 may wait for it. -/
def fetching (next : Nat) (portOnly shelf waits : Bool) : State :=
  let s := at0.modCluster 0 (fun k => { k with fetches := [{ fetch1 with next := next, portOnly := portOnly }] });
  let s := s.modCluster 1 (fun k => { k with dir := if shelf then [(0, { placedEntry 32 0x13 with digest := 1, content := 1 })] else [] });
  let m : Miss := { digest := 1, resume := .entry, saved := { dir := 0, fpc := 0, form := none, ra := 0, gp := 0, dig := 0 },
                    handler := none, counts := true };
  s.modStrand 0 1 (fun t => { t with pos := if waits then .miss m else .nowhere })

/-- That fetch. -/
def fetchAt (next : Nat) (portOnly : Bool) : Fetch := { fetch1 with next := next, portOnly := portOnly }

theorem noneWaits_plain (next : Nat) (h : next = 1 ∨ next = 5) (portOnly shelf : Bool) :
    NoneWaits (fetching next portOnly shelf false) 0 1 (fun _ _ => False) := by
  apply noneWaits_of
  rcases h with rfl | rfl <;> cases portOnly <;> cases shelf <;> decide +kernel

theorem noneWaits_but (next : Nat) (h : next = 1 ∨ next = 5) (portOnly shelf : Bool) :
    NoneWaits (fetching next portOnly shelf true) 0 1 (fun a b => a = 0 ∧ b = 1) := by
  apply noneWaits_of
  rcases h with rfl | rfl <;> cases portOnly <;> cases shelf <;> decide +kernel

theorem test_meets_sourceAnswers : (at0.cluster 0).fetch 1 0 = none ∧
    ((fetching 1 false false false).cluster 0).fetch 1 0 = some (fetchAt 1 false) ∧ (fetchAt 1 false).next ≠ 2 ∧
    (fetchAt 1 false).install = none ∧ (fetchAt 1 false).held = none ∧ clusterOf (fetchAt 1 false).core = 0 ∧
    Shown (fetching 1 false false false) 0 (fetchAt 1 false) 1 [] = [] ∧
    Shown (fetching 5 false false false) 0 (fetchAt 5 false) 5 [] = [] ∧
    ((fetching 5 false false true).strand 0 1).pos ≠ .nowhere ∧ ((fetching 5 false false true).core 0).vfNow = 0 := by
  decide +kernel

theorem test_meets_sourceAnswers_checks :
    errIs ((fetching 4 false false false).verify (fetchAt 4 false) 4 (.offered (.translation [] 0))) 1 = true ∧
    Shown (fetching 4 false false false) 0 (fetchAt 4 false) 4 [.translation [] 0] = [.offered (.translation [] 0)] ∧
    (Candidate.offered (.translation [] 0)).native = true ∧ (fetchAt 4 true).portOnly = true ∧ (fetchAt 4 false).portOnly = false ∧
    Shown (fetching 1 false true false) 0 (fetchAt 1 false) 1 [] = [.copied plainForm] ∧
    okIs ((fetching 1 false true false).verify (fetchAt 1 false) 1 (.copied plainForm)) { plainForm with src := 1 } = true ∧
    (fetchAt 1 false).takes { plainForm with src := 1 } = true ∧ (Candidate.copied plainForm).native = false := by decide +kernel

/-- Strand 1 of core 0 waits in cpin for the form. -/
def pinning : State := (fetching 1 true true false).modStrand 0 1 (fun t => { t with pos := .inForm 0, park := some (.fetch 1 (some 5)) })

theorem test_meets_sourceAnswers_pins : (pinning.strand 0 1).pos = .inForm 0 ∧ (pinning.strand 0 1).park = some (.fetch 1 (some 5)) ∧
    (pinning.cluster 0).fetch 1 0 = some (fetchAt 1 true) ∧
    NoneWaits pinning 0 1 (fun a b => a = 0 ∧ b = 1) := by
  refine ⟨by decide +kernel, by decide +kernel, by decide +kernel, noneWaits_of ?_⟩
  decide +kernel

/-- A fetch whose trust entry names chip 1 as its peer, over a link that is up, or down. -/
def peering (up : Bool) : State :=
  let s := if up then remote 0 0 else at0
  s.modCluster 0 (fun k => { k with fetches := [{ fetch1 with next := 3, entry := List.replicate 0x18 0 ++ [1, 0, 0xFF, 0xFF] }] })

theorem test_meets_sourceAnswers_peers : (((peering true).cluster 0).fetch 1 0).map (·.peers) = some [1] ∧
    (peering true).linkRefused 1 = false ∧ (peering false).linkRefused 1 = true ∧
    Shown (peering true) 0 { fetch1 with next := 3, entry := List.replicate 0x18 0 ++ [1, 0, 0xFF, 0xFF] } 3 [] = [] := by
  decide +kernel

theorem test_meets_sourceAnswers_installs :
    Shown (fetching 1 true true true) 0 (fetchAt 1 true) 1 [] = [.copied plainForm] ∧
    okIs ((fetching 1 true true true).verify (fetchAt 1 true) 1 (.copied plainForm)) { plainForm with src := 1 } = true ∧
    (match (fetching 1 true true true).installForm 0 1 0 { plainForm with src := 1 } with
      | .done u => (u.lookup 1 0).isSome
      | _ => false) = true ∧
    (match ((fetching 1 true true true).strand 0 1).pos with
      | .miss m => m.digest == 1 && m.resume == .entry && m.resume.accept == (fetchAt 1 true).accept
      | _ => false) = true ∧
    (match (fetching 1 true true false).installForm 0 1 0 { plainForm with src := 1 } with
      | .done _ => true
      | _ => false) = true := by decide +kernel

/-- A fetch that waits for room in cluster 0, whose one entry may hold or not hold the form of digest 1. -/
def waitingRoom (pinned : Bool) : State :=
  at0.modCluster 0 (fun k => { k with
    fetches := [{ fetch1 with install := some plainForm }], cdlim := if pinned then 0 else 64
    dir := if pinned then (List.range 64).map (fun e => (e, { placedEntry 32 0x13 with pinned := true })) else k.dir })

theorem test_meets_installs : (at0.cluster 0).lookup 1 0 = none ∧ (at0.cluster 0).dir.length < (at0.cluster 0).cdlim.toNat ∧
    pagesOf plainForm.code.length ≤ (at0.cluster 0).freePages.length ∧ (at0.cluster 0).entry 1 = none ∧
    (∀ j, j < 1 → (at0.cluster 0).entry j ≠ none) ∧
    (waitingRoom true).installForm 0 1 0 plainForm = .waits ∧
    (match (waitingRoom false).installForm 0 1 0 plainForm with | .done _ => true | _ => false) = true ∧
    (at0.cluster 0).entry 0 = some (placedEntry 32 0x13) := by decide +kernel

theorem noneWaits_room (pinned : Bool) : NoneWaits (waitingRoom pinned) 0 1 (fun _ _ => False) := by
  apply noneWaits_of
  cases pinned <;> decide +kernel

/-- A translation object of digest 0 for the chip's model: two instructions, no waypoint. -/
def xlat : List Byte :=
  [0x4B, 0x58, 0x4C, 0x54, 1, 0, 0, 0, 0x00, 0x01, 0x4D, 0x4B, 8, 0, 0, 0] ++ List.replicate 3472 0 ++
    [0x13, 0, 0, 0, 0x13, 0, 0, 0]

/-- A bundle image of one member of one instruction and no import. -/
def bundle : List Byte := [0x54, 0x52, 0x4B, 0x42, 1, 0, 4, 0, 0, 0, 0x13, 0, 0, 0, 0, 0]

theorem test_meets_checks : xlatForm (xlat.take 3496) 3496 0 = true ∧ recNat (xlat.take 3496) 8 4 = 0x4B4D0100 ∧
    fetch1.executive = false ∧ xlatForm [] 0 0 = false ∧
    recNat ((xlat.take 8 ++ [0, 0, 0, 0] ++ xlat.drop 12).take 3496) 8 4 ≠ 0x4B4D0100 ∧
    xlatForm ((xlat.take 8 ++ [0, 0, 0, 0] ++ xlat.drop 12).take 3496) 3496 0 = true ∧
    bundle.take 4 = [0x54, 0x52, 0x4B, 0x42] ∧ 0 < recNat bundle 4 2 ∧
    memberCodes 1 1 (bundle.drop 6) = some ([[0x13, 0, 0, 0]], []) := by decide +kernel

/-- A module store of two slots at 0x3000, of which slots 0 and 1 hold objects of digest 0 of two kinds or models, and slot 2 ends the
probe. -/
def stored (kind0 kind1 model1 : Byte) : State :=
  { at0 with modStore := 0x3000, nslot := 8,
             mem := [(0x3020, kind0), (0x3060, kind1), (0x3064, model1), (0x30A0, 0xFF)] }

theorem test_meets_codeRequests : at0.nslot = 0 ∧ 2 < (stored 0 1 7).nslot ∧ ((stored 0 1 7).storeSlot 0).digest = 0 ∧
    ((stored 0 1 7).storeSlot 1).digest = 0 ∧ ((stored 0 1 7).storeSlot 2).kind = 0xFF ∧
    ((stored 0 1 7).storeSlot 0).kind = 0 ∧ ((stored 0 1 7).storeSlot 1).kind = 1 ∧ ((stored 1 1 7).storeSlot 0).kind = 1 ∧
    ((stored 1 1 7).storeSlot 0).model ≠ 7 ∧ ((stored 1 1 7).storeSlot 1).model = 7 ∧
    ((stored 0xFF 0 0).storeSlot 0).kind = 0xFF := by decide +kernel

/-! ## Routes -/

/-- A route record of route 4, slot 2, with a payload of 8 bytes: its out-port, operator, inputs, flits, BUF and BOUND. -/
def routeRecord (out op inmask flits buf bound : Nat) : List Byte :=
  leBytes 2 4 ++ leBytes 2 0 ++ leBytes 1 out ++ leBytes 1 2 ++ leBytes 1 flits ++ leBytes 1 op ++ leBytes 4 inmask ++ leBytes 2 8 ++
    leBytes 2 bound ++ leBytes 8 buf ++ leBytes 8 0

/-- Route 4 of launch 1, which takes inputs from ports 3 and 6 and perhaps from memory at 0x1000. -/
def route4 (state : RouteState) (out op : Nat) (source : Bool) (inputs : List (Nat × Nat × List Byte)) : Route where
  launch := key1
  route := 4
  records := [routeRecord out op (if source then 0x1000048 else 0x48) (if out = 0xFF then 0 else 1) 0x1000 3,
    routeRecord (if out = 0xFF then 9 else 12) op (if source then 0x1000048 else 0x48) 1 0x1000 3]
  state := state
  readyTick := 0x101
  firing := 6
  triggers := 0
  inputs := inputs
  source := none
  acted := []
  waiting := state == .idle
  release := none

/-- The chip with that route, at tick 0x102. -/
def routed (r : Route) : State := { at0 with routes := [r], chip := { (remote 0 0).chip with tick := 0x102 } }

theorem test_meets_routeInputs : routeAt (routed (route4 .armed 9 1 true [])) key1 4 = some (route4 .armed 9 1 true []) ∧
    3 ∈ (route4 .armed 9 1 true []).inports ∧ 6 ∈ (route4 .armed 9 1 true []).inports ∧ 2 ∉ (route4 .armed 9 1 true []).inports ∧
    (route4 .armed 9 1 true []).isBar = false ∧ (route4 .idle 9 5 false []).isBar = true ∧ (route4 .idle 9 5 false []).waiting = true ∧
    (route4 .armed 9 1 true []).waiting = false ∧
    (∀ p, p ∈ (route4 .armed 9 1 true [(6, 6, [])]).inports → p = 3 ∨ p = 6) ∧
    (routed (route4 .armed 9 1 true [])).linkDown 3 = false ∧ (routed (route4 .armed 9 1 true [])).linkDown 4 = true ∧
    ((route4 .idle 9 1 true []).records.find? (fun x => (rrInmask x).testBit 24)).isSome = true ∧
    ((route4 .idle 9 1 false []).records.find? (fun x => (rrInmask x).testBit 24)) = none := by decide +kernel

theorem test_meets_routeRecords :
    (routed (route4 .ready 9 1 false [(3, 6, []), (6, 6, [])])).recordAt key1 0 =
      some (route4 .ready 9 1 false [(3, 6, []), (6, 6, [])], 0, routeRecord 9 1 0x48 1 0x1000 3) ∧
    ((0x101 + 1) % 256 = 2 ∧ (0x102#64) = 0x101 + BitVec.ofNat 64 1) ∧
    (routed (route4 .ready 0xFF 1 false [])).recordAt key1 0 =
      some (route4 .ready 0xFF 1 false [], 0, routeRecord 0xFF 1 0x48 0 0x1000 3) ∧ rrOutport (routeRecord 0xFF 1 0x48 0 0x1000 3) = 0xFF ∧
    rrObj (routeRecord 0xFF 1 0x48 0 0x1000 3) = 0 ∧ (route4 .ready 0xFF 1 false []).isBar = false ∧
    (route4 .ready 0xFF 5 false []).isBar = true ∧
    (routed (route4 .ready 0xFF 5 false [])).recordAt key1 0 =
      some (route4 .ready 0xFF 5 false [], 0, routeRecord 0xFF 5 0x48 0 0x1000 3) ∧
    (routed (route4 .armed 9 1 false [])).recordAt key1 0 = some (route4 .armed 9 1 false [], 0, routeRecord 9 1 0x48 1 0x1000 3) ∧
    1 ∉ (route4 .ready 9 1 false []).acted ∧
    (∀ j, j < ({ route4 .ready 9 1 false [] with acted := [1] } : Route).records.length → j = 0 ∨ j = 1) ∧
    (route4 .ready 9 1 true []).hasSource = true ∧ (route4 .ready 9 1 true []).isBar = false := by decide +kernel

theorem test_meets_junctions : (route4 .ready 9 1 false []).contributions = [] ∧
    (route4 .ready 9 1 false [(3, 6, [1])]).contributions = [[1]] ∧
    (route4 .ready 9 1 false [(3, 6, [1]), (6, 6, [2])]).contributions = [[1], [2]] ∧
    fmtF32.decode 0x7FC00000 = .nan ∧ recNat (leBytes 4 0xFF800000 ++ List.replicate 16 0) 0 4 = 0xFF800000 := by decide +kernel

/-! ## Key routes: arrivals -/

/-- A record on its way from strand 0 of core 0 to bench 0. -/
def keySend : KeySend := { core := 0, strand := 0, rd := 5, bench := 0, key := 0x1234, value := 7 }

/-- The strand waits for its report; the bench's bin word, and the fill of its bin 0. -/
def arriving (bin : Word) (fill : Nat) : State :=
  let p : Pending := { dst := .x 5, todo := [], got := [], bits := 64, signed := false, window := 0, queued := true };
  let s := (keyed fill).modBench 0 (fun h => { h with bin := bin });
  { s.modMe (fun t => { t with pending := [p] }) with sends := [keySend] }

theorem test_meets_keyArrivals : at0.sends = [] ∧
    ([0, 1, 2].map (fun n => (arriving (if n = 0 then 0 else 0x200000000) n).sends.find? (fun q => q.core == 0 && q.strand == 0 &&
      q.bench == 0))) = [some keySend, some keySend, some keySend] ∧
    ([0, 1, 2].map (fun n => ((arriving 0x200000000 n).strand 0 0).pending.map (fun p => (p.queued, p.dst)))) =
      [[(true, .x 5)], [(true, .x 5)], [(true, .x 5)]] ∧
    binCap 0x200000000 = 2 ∧ keySend.key.toNat / 2 ^ binShift 0x200000000 % 2 ^ binLogbin 0x200000000 = 0 ∧
    mapGet 0 ((arriving 0x200000000 1).bench 0).fills 0 = 1 ∧ mapGet 0 ((arriving 0x200000000 2).bench 0).fills 0 = 2 := by
  decide +kernel

/-! ## Steps -/

/-- Strand 0 of core 0 may issue what its bytes decode to: no other is before it, and nothing holds it. -/
def mayStep (s : State) (bytes : State → Bool) : Bool :=
  let u := s.settleQueue 0
  let v : State := { u with here := 0, cur := 0 }
  s.moves.isEmpty && s.here == 0 && s.chip.stop == 0 && !(s.core 0).debugStopped && !(s.core 0).stopping &&
  (s.core 0).stall.toList ++ (List.range 11).map (fun n => ((s.core 0).last + 1 + n) % 11) == [] ++ 0 :: (List.range 10).map (· + 1) &&
  (u.strand 0 0).status == .live && !(u.strand 0 0).onHold && (u.strand 0 0).pending.isEmpty && (u.strand 0 0).pos == .inForm 0 &&
  (u.strand 0 0).park.isNone && (v.interruptFor 0 0).isNone && bytes v

theorem test_meets_step : mayStep (State.reset.place 32 0x00100093) (fun v => okIs (decode (v.bytesAt 0 0)) (.addi 1 0 1, 4) &&
      !v.codePoisoned 0 0 && !v.mustStall 0 0 (.addi 1 0 1) && !v.tooMany 0 0 (.addi 1 0 1) && (v.linePoison 0 0 (.addi 1 0 1)).isNone) = true ∧
    mayStep ((State.reset.place 32 0x00128293).modStrand 0 0 (fun t => { t with pending := [] })) (fun v =>
      okIs (decode (v.bytesAt 0 0)) (.addi 5 5 1, 4) &&
      (v.modStrand 0 0 (fun t => { t with pending := [loadInto5 true] })).mustStall 0 0 (.addi 5 5 1) &&
      (v.modStrand 0 0 (fun t => { t with pending := List.replicate 8 (loadInto5 true) })).tooMany 0 0 (.ld 5 6 0)) = true ∧
    (loadInto5 true).window ≠ 0 := by decide +kernel

theorem test_meets_step_illegal :
    mayStep (State.reset.place 32 0xFFFFFFFF) (fun v => errIs (decode (v.bytesAt 0 0)) .reservedLength &&
      !v.codePoisoned 0 0 && v.foundIllegal (exec (.illegalWord (v.currentWord.setWidth 32)) v)) = true ∧
    mayStep (({ State.reset.modCluster 0 (fun k => { k with dir := [(0, { placedEntry 32 0x13 with code := [0x13, 0] })] }) with moves := [] }
      : State).modStrand 0 0 (fun t => { t with status := .live, pos := .inForm 0 })) (fun v =>
        errIs (decode (v.bytesAt 0 0)) .tooShort && !v.mustStall 0 0 .formEndReached) = true := by decide +kernel

theorem test_meets_step_poison :
    mayStep { State.reset.place 32 0x00100093 with poisoned := [shelfLoc 0 0 / 32] } (fun v => v.codePoisoned 0 0) = true ∧
    mayStep ((State.reset.place 32 0x0A000057).modStrand 0 0 (fun t => { t with vPoison := 2 })) (fun v =>
      (v.linePoison 0 0 (.vst 1 6 0 0 0)).isSome) = true := by decide +kernel

/-- `addi x1, x0, 1` runs as the first instruction after reset. -/
theorem test_step_addi : (match step (State.reset.withFetchWord 32 0x00100093) with
    | .next t => t.x 1 == 1 && t.me.fpc == 4 && t.me.instret == 1
    | _ => false) = true := by decide +kernel

theorem test_meets_pendingPrefix : acceptsNoPrefix (.addi 1 0 1) = true ∧ (with0 (fun t => { t with pp := true })).me.pp = true := by
  decide +kernel

theorem test_meets_parcelLengths : (0x01 : Byte).toNat % 4 ≠ 3 ∧ (0x13 : Byte).toNat % 4 = 3 ∧ (0x13 : Byte).toNat % 32 ≠ 31 ∧
    (0x1F : Byte).toNat % 32 = 31 ∧ okIs (decode [0x01, 0x00]) (.cNop 0, 2) = true := by decide +kernel

theorem test_meets_standardFence : (0 : BitVec 3) = 0 ∧ (1 : BitVec 3) ≠ 0 := by decide +kernel

theorem test_meets_roundTrip : (Instr.addi 5 6 0xFFF).wf = true ∧ encode (.addi 5 6 0xFFF) = some [0x93, 0x02, 0xF3, 0xFF] := by
  decide +kernel

theorem test_meets_canonical : Memory.wf (State.reset.withFetchWord 32 0x00100093).mem = true := by decide +kernel


end Sys2Proof.Tests
end

/-! SUPPORT. O56: decoding is a left inverse of encoding, put together from the lemma of each instruction. -/

namespace Sys2Proof.Laws.RoundTrip

/-- R23: an instruction that has an encoding takes four bytes or two. -/
theorem encode_length {i : Instr} {b : List Byte} (h : encode i = some b) : b.length = 4 ∨ b.length = 2 := by
  cases hw : encodeWord i with
  | some w =>
    rw [encode_of_word hw] at h
    cases h
    exact .inl rfl
  | none =>
    cases hp : encodeParcel i with
    | some p =>
      rw [encode_of_parcel hw hp] at h
      cases h
      exact .inr rfl
    | none => simp [encode, hw, hp] at h

/-- Each row of the opcode table is read back from its own bytes, or has none (`Statement`). -/
theorem decode_encode (i : Instr) : Statement i := by
  cases i with
  -- integer vector instructions
  | vadd => apply vadd | vsub => apply vsub | vmul => apply vmul | vmulh => apply vmulh | vmulhn => apply vmulhn
  | vand => apply vand | vor => apply vor | vxor => apply vxor | vshl => apply vshl | vshr => apply vshr
  | vsra => apply vsra | vmin => apply vmin | vmax => apply vmax | vminn => apply vminn | vmaxn => apply vmaxn
  | vadds => apply vadds | vaddi => apply vaddi | vshli => apply vshli | vshri => apply vshri | vsrai => apply vsrai
  | vcmpeq => apply vcmpeq | vcmplt => apply vcmplt | vcmple => apply vcmple | vcmpltn => apply vcmpltn
  | vcnt => apply vcnt | vclz => apply vclz | vredsum => apply vredsum | vredmax => apply vredmax
  | vredmin => apply vredmin | vsel => apply vsel | vmovi => apply vmovi | vmacc => apply vmacc
  -- floating-point vector instructions
  | vfadd => apply vfadd | vfsub => apply vfsub | vfmul => apply vfmul | vfma => apply vfma | vfms => apply vfms
  | vfdiv => apply vfdiv | vfsqrt => apply vfsqrt | vfmin => apply vfmin | vfmax => apply vfmax | vfabs => apply vfabs
  | vfneg => apply vfneg | vfexp2 => apply vfexp2 | vflog2 => apply vflog2 | vfrcp => apply vfrcp
  | vfcmpeq => apply vfcmpeq | vfcmplt => apply vfcmplt | vfcmple => apply vfcmple | vfcmpun => apply vfcmpun
  | vfredsum => apply vfredsum | vfredmax => apply vfredmax | vfredmin => apply vfredmin | vfcvt => apply vfcvt
  | vfcvti => apply vfcvti | vicvtf => apply vicvtf | vfwmacc => apply vfwmacc | vfclass => apply vfclass
  | vfround => apply vfround | vfscale => apply vfscale | vfrsqrt => apply vfrsqrt | vfmaxnum => apply vfmaxnum
  | vmoviF => apply vmoviF | vfminnum => apply vfminnum
  -- permutes and predicates
  | vbcast => apply vbcast | vext => apply vext | vins => apply vins | vperm => apply vperm | vslideup => apply vslideup
  | vslidedn => apply vslidedn | vzip => apply vzip | vunzip => apply vunzip | vrev => apply vrev
  | vcompress => apply vcompress | pand => apply pand | por => apply por | pxor => apply pxor | pnot => apply pnot
  | pwhile => apply pwhile | pcount => apply pcount | pfirst => apply pfirst | vqred => apply vqred | vmv => apply vmv
  -- matrix unit and coverage
  | mcfg => apply mcfg | mma => apply mma | mmas => apply mmas | mzero => apply mzero | mst => apply mst
  | mld => apply mld | mrd => apply mrd | mrec => apply mrec | mprog => apply mprog | mwr => apply mwr
  | cvinit => apply cvinit | cvprobe => apply cvprobe | cvcommit => apply cvcommit | cvgain => apply cvgain
  | cvclr => apply cvclr | cvsel => apply cvsel | cvsave => apply cvsave | cvrest => apply cvrest
  -- copy engine and queues
  | erun => apply erun | ewait => apply ewait | estat => apply estat | qpush => apply qpush | qpop => apply qpop
  | qpushv => apply qpushv | qpopv => apply qpopv | qstat => apply qstat | qbind => apply qbind
  -- vector and remote memory
  | vld => apply vld | vst => apply vst | vldx => apply vldx | vstx => apply vstx | vldl => apply vldl
  | vstl => apply vstl | vldk => apply vldk | vldt => apply vldt | ldk => apply ldk | ldt => apply ldt
  | rld => apply rld | rst => apply rst | gst => apply gst | ksend => apply ksend
  -- atomics of the custom space
  | famoAddBf16x2 => apply famoAddBf16x2 | famoAddF16x2 => apply famoAddF16x2 | famoAddF32 => apply famoAddF32
  | famoAddF64 => apply famoAddF64 | famoMinBf16x2 => apply famoMinBf16x2 | famoMinF16x2 => apply famoMinF16x2
  | famoMinF32 => apply famoMinF32 | famoMinF64 => apply famoMinF64 | famoMaxBf16x2 => apply famoMaxBf16x2
  | famoMaxF16x2 => apply famoMaxF16x2 | famoMaxF32 => apply famoMaxF32 | famoMaxF64 => apply famoMaxF64
  | cas128 => apply cas128 | iaddD => apply iaddD | iaddW => apply iaddW | iorD => apply iorD | iandD => apply iandD
  -- synchronisation, groups and bins
  | fenceS => apply fenceS | sldAcq => apply sldAcq | sstRel => apply sstRel | barr => apply barr | bwait => apply bwait
  | bmask => apply bmask | tickrd => apply tickrd | tickw => apply tickw | sstep => apply sstep | abarr => apply abarr
  | abwait => apply abwait | abinit => apply abinit | gopen => apply gopen | gsel => apply gsel
  | gcommit => apply gcommit | gabort => apply gabort | gstat => apply gstat | tset => apply tset | tmode => apply tmode
  | kbin => apply kbin | jrnl => apply jrnl
  -- calls, strands, launches, services and shelves
  | calld => apply calld | tcalld => apply tcalld | callh => apply callh | tcallh => apply tcallh | reth => apply reth
  | start => apply start | hend => apply hend | hjoin => apply hjoin | hpoll => apply hpoll | pfx => apply pfx
  | launch => apply launch | lpoll => apply lpoll | sysc => apply sysc | sysw => apply sysw | nfy => apply nfy
  | fhand => apply fhand | cprobe => apply cprobe | cpin => apply cpin | cunpin => apply cunpin | cevict => apply cevict
  | ctxflush => apply ctxflush | ctxload => apply ctxload | wsw => apply wsw | waitev => apply waitev
  | mark => apply mark
  -- base integer instructions
  | lui => apply lui | auipc => apply auipc | jal => apply jal | jalr => apply jalr | beq => apply beq
  | bne => apply bne | blt => apply blt | bge => apply bge | bltu => apply bltu | bgeu => apply bgeu | lb => apply lb
  | lh => apply lh | lw => apply lw | ld => apply ld | lbu => apply lbu | lhu => apply lhu | lwu => apply lwu
  | sb => apply sb | sh => apply sh | sw => apply sw | sd => apply sd | addi => apply addi | slti => apply slti
  | sltiu => apply sltiu | xori => apply xori | ori => apply ori | andi => apply andi | slli => apply slli
  | srli => apply srli | srai => apply srai | addiw => apply addiw | slliw => apply slliw | srliw => apply srliw
  | sraiw => apply sraiw | add => apply add | sll => apply sll | slt => apply slt | sltu => apply sltu
  | xor => apply xor | srl => apply srl | or => apply or | and => apply and | sub => apply sub | sra => apply sra
  | mul => apply mul | mulh => apply mulh | mulhsu => apply mulhsu | mulhu => apply mulhu | div => apply div
  | divu => apply divu | rem => apply rem | remu => apply remu | addw => apply addw | sllw => apply sllw
  | srlw => apply srlw | subw => apply subw | sraw => apply sraw | mulw => apply mulw | divw => apply divw
  | divuw => apply divuw | remw => apply remw | remuw => apply remuw | fence => apply fence
  -- standard atomics
  | lrW => apply lrW | lrD => apply lrD | scW => apply scW | scD => apply scD | amoswapW => apply amoswapW
  | amoswapD => apply amoswapD | amoaddW => apply amoaddW | amoaddD => apply amoaddD | amoxorW => apply amoxorW
  | amoxorD => apply amoxorD | amoandW => apply amoandW | amoandD => apply amoandD | amoorW => apply amoorW
  | amoorD => apply amoorD | amominW => apply amominW | amominD => apply amominD | amomaxW => apply amomaxW
  | amomaxD => apply amomaxD | amominuW => apply amominuW | amominuD => apply amominuD | amomaxuW => apply amomaxuW
  | amomaxuD => apply amomaxuD
  -- control registers and privilege
  | csrrw => apply csrrw | csrrs => apply csrrs | csrrc => apply csrrc | csrrwi => apply csrrwi | csrrsi => apply csrrsi
  | csrrci => apply csrrci | sret => apply sret | mret => apply mret | wfi => apply wfi | sfenceVma => apply sfenceVma
  -- compressed instructions
  | cAddi4spn => apply cAddi4spn | cLw => apply cLw | cLd => apply cLd | cSw => apply cSw | cSd => apply cSd
  | cNop => apply cNop | cAddi => apply cAddi | cAddiw => apply cAddiw | cLi => apply cLi | cAddi16sp => apply cAddi16sp
  | cLui => apply cLui | cSrli => apply cSrli | cSrai => apply cSrai | cAndi => apply cAndi | cSub => apply cSub
  | cXor => apply cXor | cOr => apply cOr | cAnd => apply cAnd | cSubw => apply cSubw | cAddw => apply cAddw
  | cJ => apply cJ | cBeqz => apply cBeqz | cBnez => apply cBnez | cSlli => apply cSlli | cLwsp => apply cLwsp
  | cLdsp => apply cLdsp | cJr => apply cJr | cMv => apply cMv | cJalr => apply cJalr | cAdd => apply cAdd
  | cSwsp => apply cSwsp | cSdsp => apply cSdsp
  -- steps of other agents and of the fetch, which have no encoding
  | coldReset => apply coldReset | tickLock => apply tickLock | throttle => apply throttle
  | throttleRestore => apply throttleRestore | podcfgWrite => apply podcfgWrite
  | dvsecAcceptWrite => apply dvsecAcceptWrite | registerWrite => apply registerWrite | bindVppb => apply bindVppb
  | unbindVppb => apply unbindVppb | hostWarmRestart => apply hostWarmRestart | cxlMemRequest => apply cxlMemRequest
  | getVersion => apply getVersion | getCapabilities => apply getCapabilities
  | negotiateAlgorithms => apply negotiateAlgorithms | getDigests => apply getDigests
  | getCertificate => apply getCertificate | challenge => apply challenge | getMeasurements => apply getMeasurements
  | spdmUnsupportedRequest => apply spdmUnsupportedRequest | setWeight => apply setWeight
  | setPartition => apply setPartition | setTrust => apply setTrust | setModstore => apply setModstore
  | setSpad => apply setSpad | setRamap => apply setRamap | setWindow => apply setWindow | setQueues => apply setQueues
  | shootdown => apply shootdown | preempt => apply preempt | debugStop => apply debugStop
  | debugResume => apply debugResume | setCdlim => apply setCdlim | counterReply => apply counterReply
  | loadKey => apply loadKey | engineReply => apply engineReply | controlUnknownOp => apply controlUnknownOp
  | launchRequest => apply launchRequest | nop => apply nop | map => apply map | unmap => apply unmap
  | ethSend => apply ethSend | ethRecv => apply ethRecv | storeRead => apply storeRead | storeWrite => apply storeWrite
  | syscallUnknown => apply syscallUnknown | syscallComplete => apply syscallComplete
  | rdmaSendReceived => apply rdmaSendReceived | rdmaInvalidRequest => apply rdmaInvalidRequest
  | ethSendCompletion => apply ethSendCompletion | launchRound => apply launchRound
  | prereqRecheck => apply prereqRecheck | claimMessage => apply claimMessage | claimReport => apply claimReport
  | wakeMessage => apply wakeMessage | endedMessage => apply endedMessage | coreDebugStopped => apply coreDebugStopped
  | sourceAnswer => apply sourceAnswer | codeRequest => apply codeRequest | fetchRetry => apply fetchRetry
  | lastAging => apply lastAging | formEndReached => apply formEndReached | illegalWord => apply illegalWord
  | resultArrival => apply resultArrival | helperFree => apply helperFree | vectorBind => apply vectorBind
  | vectorEntryComplete => apply vectorEntryComplete | registerCacheFill => apply registerCacheFill
  | vqredStep => apply vqredStep | matrixEntryRetire => apply matrixEntryRetire
  | matrixEntryComplete => apply matrixEntryComplete | timerInterrupt => apply timerInterrupt
  | externalInterrupt => apply externalInterrupt | counterOverflowInterrupt => apply counterOverflowInterrupt
  | remoteRefusalInterrupt => apply remoteRefusalInterrupt | preemptionRequest => apply preemptionRequest
  | eccError => apply eccError | pageWalk => apply pageWalk | shootdownAck => apply shootdownAck | drain => apply drain
  | evict => apply evict | hostWriteBack => apply hostWriteBack | performLoad => apply performLoad
  | takeOwnership => apply takeOwnership | writeLine => apply writeLine
  | writeScratchpadSector => apply writeScratchpadSector | entryComplete => apply entryComplete
  | ksendArrival => apply ksendArrival | depart => apply depart | routerForward => apply routerForward
  | malformedMessage => apply malformedMessage | rstMessage => apply rstMessage | rstAck => apply rstAck
  | rstRefuse => apply rstRefuse | rldMessage => apply rldMessage | rldReply => apply rldReply
  | gstMessage => apply gstMessage | prepare => apply prepare | ready => apply ready | groupRefuse => apply groupRefuse
  | abort => apply abort | publish => apply publish | groupApply => apply groupApply | publishAck => apply publishAck
  | abortAck => apply abortAck | groupTimeout => apply groupTimeout | routeMessage => apply routeMessage
  | routeRecordTick => apply routeRecordTick | barrierRelease => apply barrierRelease | tickwExpiry => apply tickwExpiry
  | waitevWake => apply waitevWake | counterOverflow => apply counterOverflow
  | counterRecordRetry => apply counterRecordRetry | launchDiscardMessage => apply launchDiscardMessage
  | launchEndByExecutive => apply launchEndByExecutive

end Sys2Proof.Laws.RoundTrip

/-- Settles O56, by the case split of `decode_encode` over the rows of the opcode table; `encode_length` gives the length. -/
theorem roundTrip : Obligations.RoundTrip := fun i hwf b rest henc =>
  ⟨Sys2Proof.Laws.RoundTrip.decode_encode i hwf b rest henc, Sys2Proof.Laws.RoundTrip.encode_length henc⟩
